-- ==== Sys2Proof/Word.lean ====
section
/-! DEFINITION. The word, sample and level types of the G412 (spec/00_scope.md, "Other conventions"). -/

namespace Sys2Proof

/-- A word of a frame or of a message: 32 bits (R18). -/
abbrev Word := BitVec 32

/-- A sample: 24-bit two's complement (spec/00_scope.md). -/
abbrev Sample := BitVec 24

/-- A level in lu; the value −32768 is the sentinel "none" (spec/00_scope.md, "Level scale"). -/
abbrev Level := Int

/-- A set of defect classes in the layout of the class set table (R18, R127). -/
abbrev ClassSet := BitVec 16

/-- A nest, 0–3. -/
abbrev NestId := Fin 4

/-- A model slot, 0–7. -/
abbrev SlotId := Fin 8

/-- The four nests in nest order. -/
def allNests : List NestId := [0, 1, 2, 3]

/-- The eight slots in slot order. -/
def allSlots : List SlotId := [0, 1, 2, 3, 4, 5, 6, 7]

end Sys2Proof
end

