-- ==== Sys2Proof/Config.lean ====
section
/-! DEFINITION. The constants that the spec fixes for the part: capacities, sync patterns, identity.
The spec leaves no value of a result open (its arithmetic is exact), so no constant here is a free value. -/

namespace Sys2Proof.Config

/-- Sync pattern of a head → part frame, bits 31:8 of word 0 (R18, Frames). -/
def syncFromHead : BitVec 24 := 0xC35A7E#24
/-- Sync pattern of a part → head frame (R18). -/
def syncToHead : BitVec 24 := 0xC35A81#24
/-- Sync pattern of a part → line frame (R18). -/
def syncToLine : BitVec 24 := 0x3CA5E1#24
/-- Sync pattern of a line → part frame (R18). -/
def syncFromLine : BitVec 24 := 0x3CA51E#24

/-- Replies the reply queue holds (R12). -/
def replyCap : Nat := 4
/-- Messages the event queue holds (R13). -/
def eventCap : Nat := 16
/-- The longest event queue to which a STEP_RESULT is still admitted (R13: "10 messages or fewer"). -/
def traceRoom : Nat := 10
/-- Entries the retest list holds (R135). -/
def retestCap : Nat := 32
/-- Records the label list holds (R146). -/
def labelCap : Nat := 8
/-- Outcomes in a lot's rolling window (R157). -/
def windowCap : Nat := 64
/-- The largest value of a 16-bit saturating counter (R17). -/
def counterMax : Nat := 65535
/-- The largest value of a lot's counter (R157). -/
def lotCounterMax : Nat := 16777215
/-- Ticks without a head frame after which the head is lost (R4). -/
def lossTicks : Nat := 10
/-- Ticks of the local timebase in one millisecond (spec/00_scope.md, "Signal time"). -/
def ticksPerMs : Nat := 10

/-- The largest drive amplitude (R42, R47, R48). -/
def fullScale : Nat := 8388607

/-- HELLO: vendor code (R175). -/
def vendorCode : Nat := 0x0C41
/-- HELLO: part code (R175). -/
def partCode : Nat := 412
/-- HELLO: revision (R175). -/
def revision : Nat := 1
/-- HELLO: frames per second as designed for (R175). -/
def frameRate : Nat := 96000

/-- The level sentinel "none" (spec/00_scope.md, "Level scale"). -/
def noneLevel : Level := -32768
/-- The top of the level scale (spec/00_scope.md, "Level scale"). -/
def topLevel : Level := 32767

end Sys2Proof.Config
end

