-- ==== Sys2Proof/Machine/Sine.lean ====
section
/-! DEFINITION. The quarter-wave table of R45: Q(i) = round(32767 × sin(π(2i + 1)/4096)) for i = 0 to 1023, in
32 rows of 32 entries. The entries were computed from that formula with 50 decimal digits; no product lies
nearer than 0.0002 to a half, so the rounding is certain. -/

namespace Sys2Proof.Machine

/-- Q(0) to Q(31). -/
def sineRow0 : List Nat :=
  [25, 75, 126, 176, 226, 276, 327, 377, 427, 477, 528, 578, 628, 679, 729, 779,
   829, 880, 930, 980, 1030, 1080, 1131, 1181, 1231, 1281, 1332, 1382, 1432, 1482, 1532, 1583]
/-- Q(32) to Q(63). -/
def sineRow1 : List Nat :=
  [1633, 1683, 1733, 1783, 1834, 1884, 1934, 1984, 2034, 2085, 2135, 2185, 2235, 2285, 2335, 2385,
   2436, 2486, 2536, 2586, 2636, 2686, 2736, 2786, 2836, 2886, 2936, 2987, 3037, 3087, 3137, 3187]
/-- Q(64) to Q(95). -/
def sineRow2 : List Nat :=
  [3237, 3287, 3337, 3387, 3437, 3487, 3537, 3587, 3637, 3687, 3737, 3786, 3836, 3886, 3936, 3986,
   4036, 4086, 4136, 4186, 4235, 4285, 4335, 4385, 4435, 4485, 4534, 4584, 4634, 4684, 4733, 4783]
/-- Q(96) to Q(127). -/
def sineRow3 : List Nat :=
  [4833, 4882, 4932, 4982, 5032, 5081, 5131, 5180, 5230, 5280, 5329, 5379, 5428, 5478, 5528, 5577,
   5627, 5676, 5726, 5775, 5825, 5874, 5924, 5973, 6022, 6072, 6121, 6171, 6220, 6269, 6319, 6368]
/-- Q(128) to Q(159). -/
def sineRow4 : List Nat :=
  [6417, 6466, 6516, 6565, 6614, 6663, 6713, 6762, 6811, 6860, 6909, 6958, 7008, 7057, 7106, 7155,
   7204, 7253, 7302, 7351, 7400, 7449, 7498, 7547, 7596, 7644, 7693, 7742, 7791, 7840, 7889, 7937]
/-- Q(160) to Q(191). -/
def sineRow5 : List Nat :=
  [7986, 8035, 8084, 8132, 8181, 8230, 8278, 8327, 8375, 8424, 8473, 8521, 8570, 8618, 8667, 8715,
   8764, 8812, 8860, 8909, 8957, 9006, 9054, 9102, 9150, 9199, 9247, 9295, 9343, 9391, 9440, 9488]
/-- Q(192) to Q(223). -/
def sineRow6 : List Nat :=
  [9536, 9584, 9632, 9680, 9728, 9776, 9824, 9872, 9920, 9968, 10016, 10063, 10111, 10159, 10207, 10255,
   10302, 10350, 10398, 10445, 10493, 10541, 10588, 10636, 10683, 10731, 10778, 10826, 10873, 10920, 10968, 11015]
/-- Q(224) to Q(255). -/
def sineRow7 : List Nat :=
  [11063, 11110, 11157, 11204, 11252, 11299, 11346, 11393, 11440, 11487, 11534, 11581, 11628, 11675, 11722, 11769,
   11816, 11863, 11910, 11957, 12003, 12050, 12097, 12144, 12190, 12237, 12284, 12330, 12377, 12423, 12470, 12516]
/-- Q(256) to Q(287). -/
def sineRow8 : List Nat :=
  [12563, 12609, 12655, 12702, 12748, 12794, 12841, 12887, 12933, 12979, 13025, 13071, 13118, 13164, 13210, 13256,
   13302, 13347, 13393, 13439, 13485, 13531, 13577, 13622, 13668, 13714, 13759, 13805, 13850, 13896, 13942, 13987]
/-- Q(288) to Q(319). -/
def sineRow9 : List Nat :=
  [14032, 14078, 14123, 14169, 14214, 14259, 14304, 14350, 14395, 14440, 14485, 14530, 14575, 14620, 14665, 14710,
   14755, 14800, 14845, 14889, 14934, 14979, 15024, 15068, 15113, 15157, 15202, 15246, 15291, 15335, 15380, 15424]
/-- Q(320) to Q(351). -/
def sineRow10 : List Nat :=
  [15468, 15513, 15557, 15601, 15645, 15690, 15734, 15778, 15822, 15866, 15910, 15954, 15997, 16041, 16085, 16129,
   16173, 16216, 16260, 16304, 16347, 16391, 16434, 16478, 16521, 16565, 16608, 16651, 16694, 16738, 16781, 16824]
/-- Q(352) to Q(383). -/
def sineRow11 : List Nat :=
  [16867, 16910, 16953, 16996, 17039, 17082, 17125, 17168, 17211, 17253, 17296, 17339, 17381, 17424, 17467, 17509,
   17551, 17594, 17636, 17679, 17721, 17763, 17805, 17848, 17890, 17932, 17974, 18016, 18058, 18100, 18142, 18183]
/-- Q(384) to Q(415). -/
def sineRow12 : List Nat :=
  [18225, 18267, 18309, 18350, 18392, 18434, 18475, 18517, 18558, 18599, 18641, 18682, 18723, 18765, 18806, 18847,
   18888, 18929, 18970, 19011, 19052, 19093, 19134, 19174, 19215, 19256, 19297, 19337, 19378, 19418, 19459, 19499]
/-- Q(416) to Q(447). -/
def sineRow13 : List Nat :=
  [19539, 19580, 19620, 19660, 19700, 19741, 19781, 19821, 19861, 19901, 19941, 19981, 20020, 20060, 20100, 20139,
   20179, 20219, 20258, 20298, 20337, 20377, 20416, 20455, 20494, 20534, 20573, 20612, 20651, 20690, 20729, 20768]
/-- Q(448) to Q(479). -/
def sineRow14 : List Nat :=
  [20807, 20845, 20884, 20923, 20962, 21000, 21039, 21077, 21116, 21154, 21192, 21231, 21269, 21307, 21345, 21383,
   21422, 21460, 21498, 21535, 21573, 21611, 21649, 21687, 21724, 21762, 21799, 21837, 21874, 21912, 21949, 21986]
/-- Q(480) to Q(511). -/
def sineRow15 : List Nat :=
  [22024, 22061, 22098, 22135, 22172, 22209, 22246, 22283, 22320, 22356, 22393, 22430, 22466, 22503, 22540, 22576,
   22612, 22649, 22685, 22721, 22757, 22794, 22830, 22866, 22902, 22938, 22973, 23009, 23045, 23081, 23116, 23152]
/-- Q(512) to Q(543). -/
def sineRow16 : List Nat :=
  [23188, 23223, 23258, 23294, 23329, 23364, 23400, 23435, 23470, 23505, 23540, 23575, 23610, 23645, 23679, 23714,
   23749, 23783, 23818, 23852, 23887, 23921, 23956, 23990, 24024, 24058, 24092, 24126, 24160, 24194, 24228, 24262]
/-- Q(544) to Q(575). -/
def sineRow17 : List Nat :=
  [24296, 24329, 24363, 24397, 24430, 24464, 24497, 24530, 24564, 24597, 24630, 24663, 24696, 24729, 24762, 24795,
   24828, 24861, 24893, 24926, 24959, 24991, 25024, 25056, 25088, 25121, 25153, 25185, 25217, 25249, 25281, 25313]
/-- Q(576) to Q(607). -/
def sineRow18 : List Nat :=
  [25345, 25377, 25409, 25440, 25472, 25504, 25535, 25567, 25598, 25629, 25661, 25692, 25723, 25754, 25785, 25816,
   25847, 25878, 25909, 25940, 25970, 26001, 26031, 26062, 26092, 26123, 26153, 26183, 26214, 26244, 26274, 26304]
/-- Q(608) to Q(639). -/
def sineRow19 : List Nat :=
  [26334, 26364, 26393, 26423, 26453, 26482, 26512, 26542, 26571, 26600, 26630, 26659, 26688, 26717, 26746, 26775,
   26804, 26833, 26862, 26891, 26919, 26948, 26977, 27005, 27034, 27062, 27090, 27118, 27147, 27175, 27203, 27231]
/-- Q(640) to Q(671). -/
def sineRow20 : List Nat :=
  [27259, 27287, 27314, 27342, 27370, 27397, 27425, 27452, 27480, 27507, 27534, 27562, 27589, 27616, 27643, 27670,
   27697, 27724, 27750, 27777, 27804, 27830, 27857, 27883, 27910, 27936, 27962, 27988, 28014, 28040, 28066, 28092]
/-- Q(672) to Q(703). -/
def sineRow21 : List Nat :=
  [28118, 28144, 28170, 28195, 28221, 28246, 28272, 28297, 28322, 28348, 28373, 28398, 28423, 28448, 28473, 28498,
   28523, 28547, 28572, 28596, 28621, 28645, 28670, 28694, 28718, 28742, 28767, 28791, 28815, 28838, 28862, 28886]
/-- Q(704) to Q(735). -/
def sineRow22 : List Nat :=
  [28910, 28933, 28957, 28980, 29004, 29027, 29050, 29074, 29097, 29120, 29143, 29166, 29189, 29212, 29234, 29257,
   29280, 29302, 29325, 29347, 29369, 29392, 29414, 29436, 29458, 29480, 29502, 29524, 29545, 29567, 29589, 29610]
/-- Q(736) to Q(767). -/
def sineRow23 : List Nat :=
  [29632, 29653, 29675, 29696, 29717, 29738, 29759, 29780, 29801, 29822, 29843, 29864, 29884, 29905, 29925, 29946,
   29966, 29986, 30007, 30027, 30047, 30067, 30087, 30107, 30126, 30146, 30166, 30185, 30205, 30224, 30244, 30263]
/-- Q(768) to Q(799). -/
def sineRow24 : List Nat :=
  [30282, 30302, 30321, 30340, 30359, 30377, 30396, 30415, 30434, 30452, 30471, 30489, 30508, 30526, 30544, 30562,
   30580, 30598, 30616, 30634, 30652, 30670, 30687, 30705, 30723, 30740, 30757, 30775, 30792, 30809, 30826, 30843]
/-- Q(800) to Q(831). -/
def sineRow25 : List Nat :=
  [30860, 30877, 30894, 30910, 30927, 30944, 30960, 30977, 30993, 31009, 31025, 31041, 31058, 31074, 31089, 31105,
   31121, 31137, 31152, 31168, 31183, 31199, 31214, 31229, 31245, 31260, 31275, 31290, 31305, 31319, 31334, 31349]
/-- Q(832) to Q(863). -/
def sineRow26 : List Nat :=
  [31363, 31378, 31392, 31407, 31421, 31435, 31449, 31463, 31477, 31491, 31505, 31519, 31533, 31546, 31560, 31573,
   31587, 31600, 31613, 31627, 31640, 31653, 31666, 31679, 31691, 31704, 31717, 31729, 31742, 31754, 31767, 31779]
/-- Q(864) to Q(895). -/
def sineRow27 : List Nat :=
  [31791, 31803, 31815, 31827, 31839, 31851, 31863, 31875, 31886, 31898, 31909, 31921, 31932, 31943, 31954, 31965,
   31976, 31987, 31998, 32009, 32020, 32030, 32041, 32051, 32062, 32072, 32082, 32092, 32103, 32113, 32123, 32132]
/-- Q(896) to Q(927). -/
def sineRow28 : List Nat :=
  [32142, 32152, 32162, 32171, 32181, 32190, 32200, 32209, 32218, 32227, 32236, 32245, 32254, 32263, 32272, 32280,
   32289, 32297, 32306, 32314, 32322, 32331, 32339, 32347, 32355, 32363, 32371, 32378, 32386, 32394, 32401, 32409]
/-- Q(928) to Q(959). -/
def sineRow29 : List Nat :=
  [32416, 32423, 32431, 32438, 32445, 32452, 32459, 32466, 32472, 32479, 32486, 32492, 32499, 32505, 32511, 32517,
   32524, 32530, 32536, 32542, 32547, 32553, 32559, 32565, 32570, 32576, 32581, 32586, 32592, 32597, 32602, 32607]
/-- Q(960) to Q(991). -/
def sineRow30 : List Nat :=
  [32612, 32617, 32621, 32626, 32631, 32635, 32640, 32644, 32648, 32653, 32657, 32661, 32665, 32669, 32673, 32676,
   32680, 32684, 32687, 32691, 32694, 32697, 32701, 32704, 32707, 32710, 32713, 32716, 32718, 32721, 32724, 32726]
/-- Q(992) to Q(1023). -/
def sineRow31 : List Nat :=
  [32729, 32731, 32733, 32736, 32738, 32740, 32742, 32744, 32746, 32747, 32749, 32751, 32752, 32754, 32755, 32757,
   32758, 32759, 32760, 32761, 32762, 32763, 32764, 32764, 32765, 32765, 32766, 32766, 32767, 32767, 32767, 32767]

/-- The rows in order. -/
def sineRows : List (List Nat) :=
  [sineRow0, sineRow1, sineRow2, sineRow3, sineRow4, sineRow5, sineRow6, sineRow7, sineRow8, sineRow9, sineRow10, sineRow11, sineRow12, sineRow13, sineRow14, sineRow15] ++
  [sineRow16, sineRow17, sineRow18, sineRow19, sineRow20, sineRow21, sineRow22, sineRow23, sineRow24, sineRow25, sineRow26, sineRow27, sineRow28, sineRow29, sineRow30, sineRow31]

/-- The table entry Q(i) (R45). -/
def sineQ (i : Nat) : Nat := (sineRows.getD (i / 32) []).getD (i % 32) 0

end Sys2Proof.Machine
end

