-- ==== Sys2Proof/Machine/Arith.lean ====
section
/-! DEFINITION. The part's exact arithmetic: increment, sine table reading, PEXP, drive sample (R44, R45, R47, R48),
PLOG and the clamp of the measures (R81, R88). -/

namespace Sys2Proof.Machine

/-- The phase increment of a frequency: round(F × 2^32 / 1,536,000), a half up (R44). -/
def increment (freq : Nat) : Nat := (2 * freq * 2 ^ 32 + 1536000) / (2 * 1536000)

/-- The table value V(φ) (R45). -/
def sineV (phase : BitVec 32) : Int :=
  let quadrant := phase.toNat / 2 ^ 30
  let j := phase.toNat / 2 ^ 20 % 1024
  match quadrant with
  | 0 => sineQ j
  | 1 => sineQ (1023 - j)
  | 2 => -(sineQ j : Int)
  | _ => -(sineQ (1023 - j) : Int)

/-- A quarter of a cycle: V(φ + 2^30) is the cosine reference (R45, R85). -/
def quarter : BitVec 32 := 0x40000000#32

/-- The part's exponential function (R47). -/
def pexp (c : Int) : Nat :=
  let q := c / 256
  let m := (c % 256).toNat
  if -15 ≤ q then min Config.fullScale ((256 + m) * 2 ^ (15 + q).toNat) else (256 + m) / 2

/-- Step amplitude Aeff of a level code and a trim (R48). -/
def stepAmplitude (level : Int) (trim : Nat) : Nat := min Config.fullScale (pexp level * trim / 128)

/-- The raw sample: Aeff × V(φ) / 32768, truncated toward zero (R48). -/
def rawSample (aeff : Nat) (phase : BitVec 32) : Int := ((aeff : Int) * sineV phase).tdiv 32768

/-- The driven sample: raw × g / 256, truncated toward zero (R48). -/
def drivenSample (aeff : Nat) (phase : BitVec 32) (gain : Nat) : Int := (rawSample aeff phase * gain).tdiv 256

/-- The fade-in gain at dwell frame k (R49). -/
def fadeInGain (k rf : Nat) : Nat := if k < rf then 256 * k / rf else 256

/-- The fade-out gain at fade frame f (R50). -/
def fadeOutGain (f rf : Nat) : Nat := 256 * (rf - 1 - f) / rf

/-- The part's logarithm, for x ≥ 1 (R81). -/
def plog (x : Nat) : Int :=
  let p := Nat.log2 x
  256 * (p : Int) + ((x * 256 / 2 ^ p : Nat) : Int) - 256

/-- The clamp of a computed measure to −32767..32767 (R88). -/
def clampLevel (x : Int) : Level := max (-32767) (min 32767 x)

/-- The low-yield re-arm level (R167). -/
def rearmLevel (threshold : Nat) : Nat := min (threshold + 20) 1000

/-- A ratio in per mille, 0 when the whole is 0 (R165, R166). -/
def perMille (part whole : Nat) : Nat := if whole == 0 then 0 else 1000 * part / whole

/-- Four binary-coded decimal digits packed into 16 bits, thousands first (R165). -/
def packedDigits (y : Nat) : Nat :=
  y / 1000 % 10 * 4096 + y / 100 % 10 * 256 + y / 10 % 10 * 16 + y % 10

end Sys2Proof.Machine
end

