-- ==== Sys2Proof/Syntax.lean ====
section
/-! DEFINITION. The commands of the G412: one constructor of `Instr` for each row of spec/opcode_table.json.
A row of the line computer carries the scope, the tag and the body words of its message (logs 11 and 12). -/

namespace Sys2Proof

/-- A head → part frame: sync and frame count, the samples M0–M3, C0–C3, A with their valid marks,
the aux word (R18, Frames). -/
structure HeadFrame where
  word0   : Word
  samples : Vector Word 9
  aux     : Word
deriving DecidableEq, Repr

/-- The downstream message kinds of the table of section 1.6 (R18). -/
inductive Kind
  | hello | status | noticeSet | softReset | tapSelect
  | stageOpen | stageRows | stageCommit | stageDiscard | readRows
  | protectRange | protectAll | freeze | protectQuery
  | nestConfig | start | abort | nestQuery
  | ambientConfig | refBegin | refCancel
  | lotOpen | lotClose | lotQuery | retestQuery | markConfig
deriving DecidableEq, Repr

/-- The commands and events that the part takes, one constructor for each row of the table.
`scope` and `tag` are the header's fields; `w`, `w0`, `w1`, `body` are the body words. -/
inductive Instr
  /-- POWER_ON (R36): the PROTECT strap as it stands (true = active). -/
  | powerOn (strap : Bool)
  /-- HEAD_FRAME (R1). -/
  | headFrame (f : HeadFrame)
  /-- LINE_FRAME (R5): the three words of the frame. -/
  | lineFrame (word0 control aux : Word)
  /-- WAIT_LINE_ADMIT (R14). -/
  | waitLineAdmit
  /-- HEAD_LOSS (R4). -/
  | headLoss
  /-- HELLO (R175). -/
  | hello (scope : BitVec 4) (tag : BitVec 8)
  /-- STATUS (R173). -/
  | status (scope : BitVec 4) (tag : BitVec 8) (w : Word)
  /-- NOTICE_SET (R172). -/
  | noticeSet (scope : BitVec 4) (tag : BitVec 8) (w : Word)
  /-- SOFT_RESET (R176). -/
  | softReset (scope : BitVec 4) (tag : BitVec 8)
  /-- TAP_SELECT (R7). -/
  | tapSelect (scope : BitVec 4) (tag : BitVec 8) (w : Word)
  /-- STAGE_OPEN (R23). -/
  | stageOpen (scope : BitVec 4) (tag : BitVec 8) (w : Word)
  /-- STAGE_ROWS (R24): its body words. -/
  | stageRows (scope : BitVec 4) (tag : BitVec 8) (body : List Word)
  /-- STAGE_COMMIT (R26). -/
  | stageCommit (scope : BitVec 4) (tag : BitVec 8)
  /-- DEFERRED_SWAP (R32). -/
  | deferredSwap (slot : SlotId)
  /-- STAGE_DISCARD (R34). -/
  | stageDiscard (scope : BitVec 4) (tag : BitVec 8)
  /-- READ_ROWS (R35). -/
  | readRows (scope : BitVec 4) (tag : BitVec 8) (w : Word)
  /-- PROTECT_RANGE (R38). -/
  | protectRange (scope : BitVec 4) (tag : BitVec 8) (w : Word)
  /-- PROTECT_ALL (R38). -/
  | protectAll (scope : BitVec 4) (tag : BitVec 8)
  /-- FREEZE (R39). -/
  | freeze (scope : BitVec 4) (tag : BitVec 8)
  /-- PROTECT_QUERY (R40). -/
  | protectQuery (scope : BitVec 4) (tag : BitVec 8)
  /-- KEY_ON (R39). -/
  | keyOn
  /-- KEY_OFF (R79). -/
  | keyOff
  /-- NEST_CONFIG (R61). -/
  | nestConfig (scope : BitVec 4) (tag : BitVec 8) (w0 w1 : Word)
  /-- START (R66). -/
  | start (scope : BitVec 4) (tag : BitVec 8) (w0 w1 : Word)
  /-- ABORT (R76). -/
  | abort (scope : BitVec 4) (tag : BitVec 8)
  /-- NEST_QUERY (R80). -/
  | nestQuery (scope : BitVec 4) (tag : BitVec 8)
  /-- SEAT_CLOSED (R68). -/
  | seatClosed (nest : NestId)
  /-- SEAT_LOSS (R74). -/
  | seatLoss (nest : NestId)
  /-- SEAT_TIMEOUT (R68). -/
  | seatTimeout (nest : NestId)
  /-- WINDOW_START (R70). -/
  | windowStart (nest : NestId)
  /-- WINDOW_END (R71). -/
  | windowEnd (nest : NestId)
  /-- DWELL_END (R72). -/
  | dwellEnd (nest : NestId)
  /-- STEP_FADE_END (R50). -/
  | stepFadeEnd (nest : NestId)
  /-- FADE_END (R75). -/
  | fadeEnd (nest : NestId)
  /-- PROMOTION (R122). -/
  | promotion (slot : SlotId)
  /-- AMBIENT_LOUD (R101). -/
  | ambientLoud
  /-- AMBIENT_QUIET (R101). -/
  | ambientQuiet
  /-- AMBIENT_CONFIG (R103). -/
  | ambientConfig (scope : BitVec 4) (tag : BitVec 8) (w : Word)
  /-- REF_BEGIN (R117). -/
  | refBegin (scope : BitVec 4) (tag : BitVec 8) (w : Word)
  /-- REF_CANCEL (R123). -/
  | refCancel (scope : BitVec 4) (tag : BitVec 8)
  /-- LOT_OPEN (R158). -/
  | lotOpen (scope : BitVec 4) (tag : BitVec 8) (w : Word)
  /-- LOT_CLOSE (R159). -/
  | lotClose (scope : BitVec 4) (tag : BitVec 8)
  /-- LOT_QUERY (R168). -/
  | lotQuery (scope : BitVec 4) (tag : BitVec 8)
  /-- LOT_COMPLETE (R164). -/
  | lotComplete (slot : SlotId)
  /-- RETEST_QUERY (R139). -/
  | retestQuery (scope : BitVec 4) (tag : BitVec 8)
  /-- MARK_CONFIG (R145). -/
  | markConfig (scope : BitVec 4) (tag : BitVec 8) (w : Word)
  /-- REQ_RISING (R149): the debounced NEST value. -/
  | reqRising (nest : NestId)
  /-- REQ_FALLING (R150). -/
  | reqFalling
  /-- MARKED_RESULT (R151). -/
  | markedResult
  /-- JAM_RESULT (R152). -/
  | jamResult
  /-- ISSUE_TIMEOUT (R154). -/
  | issueTimeout
  /-- QUEUE_EXPIRY (R155): the record's position in the label list, the oldest at 0. -/
  | queueExpiry (index : Fin 8)
  /-- NOTICE_PERIOD_EXPIRY (R171). -/
  | noticePeriodExpiry
deriving DecidableEq, Repr

end Sys2Proof
end

