-- ==== Sys2Proof/WellFormed.lean ====
section
/-! DEFINITION. Which commands are well formed. The operand types carry every bound but one: the length field
of a header is 0 to 62 (R9, R18), so no message carries a longer body. -/

namespace Sys2Proof

/-- A command that some message, frame or event can carry: a STAGE_ROWS body has at most 62 words (R9). -/
def Instr.wf : Instr → Bool
  | .stageRows _ _ body => body.length ≤ 62
  | .powerOn _ | .headFrame _ | .lineFrame _ _ _ | .waitLineAdmit | .headLoss
  | .hello _ _ | .status _ _ _ | .noticeSet _ _ _ | .softReset _ _ | .tapSelect _ _ _
  | .stageOpen _ _ _ | .stageCommit _ _ | .deferredSwap _ | .stageDiscard _ _ | .readRows _ _ _
  | .protectRange _ _ _ | .protectAll _ _ | .freeze _ _ | .protectQuery _ _ | .keyOn | .keyOff
  | .nestConfig _ _ _ _ | .start _ _ _ _ | .abort _ _ | .nestQuery _ _
  | .seatClosed _ | .seatLoss _ | .seatTimeout _ | .windowStart _ | .windowEnd _ | .dwellEnd _
  | .stepFadeEnd _ | .fadeEnd _ | .promotion _ | .ambientLoud | .ambientQuiet | .ambientConfig _ _ _
  | .refBegin _ _ _ | .refCancel _ _ | .lotOpen _ _ _ | .lotClose _ _ | .lotQuery _ _ | .lotComplete _
  | .retestQuery _ _ | .markConfig _ _ _ | .reqRising _ | .reqFalling | .markedResult | .jamResult
  | .issueTimeout | .queueExpiry _ | .noticePeriodExpiry => true

end Sys2Proof
end

