-- ==== Sys2Proof/Decode.lean ====
section
/-! DEFINITION. Bit fields, the header word and the check word (R8–R11, R18), the table of downstream kinds,
the reading of a command from a message, and after it the writing of a message from a command.
No row of spec/opcode_table.json gives bits, so `decodeTableWord` reads no command from a word. -/

namespace Sys2Proof

/-! ### Bit fields of a word -/

/-- Bits lo+w−1 … lo of a word as an unsigned number. -/
def bits (x : Word) (lo w : Nat) : Nat := x.toNat / 2 ^ lo % 2 ^ w

/-- Bits lo+w−1 … lo of a word as a two's complement number. -/
def sbits (x : Word) (lo w : Nat) : Int :=
  let u := bits x lo w
  if u < 2 ^ (w - 1) then (u : Int) else (u : Int) - 2 ^ w

/-- Bit i of a word. -/
def bit (x : Word) (i : Nat) : Bool := x.getLsbD i

/-- A word whose bits lo+w−1 … lo are the low w bits of v, every other bit 0 (R18: unnamed bits are sent as zero). -/
def put (v lo w : Nat) : Word := BitVec.ofNat 32 (v % 2 ^ w * 2 ^ lo)

/-- As `put`, for a two's complement field. -/
def sput (v : Int) (lo w : Nat) : Word := put (v % (2 ^ w : Nat)).toNat lo w

/-- As `put`, for a one-bit field. -/
def flag (b : Bool) (lo : Nat) : Word := put b.toNat lo 1

/-- Two 16-bit numbers in one word, the first in the high half. -/
def halves (hi lo : Nat) : Word := put hi 16 16 ||| put lo 0 16

/-- Two levels in one word, the first in the high half (R98). -/
def levels (hi lo : Level) : Word := sput hi 16 16 ||| sput lo 0 16

/-! ### Header word and check word (R9, R10, R18) -/

/-- Exclusive-or of bits 31 to 2 of a word: the EP bit of R9. -/
def parity30 (x : Word) : Bool := (List.range 30).foldl (fun p i => p ^^ x.getLsbD (i + 2)) false

/-- The marker nibble of a header word (R18). -/
def headerMarker (x : Word) : BitVec 4 := x.extractLsb' 28 4
/-- The scope field of a header word (R18). -/
def headerScope (x : Word) : BitVec 4 := x.extractLsb' 24 4
/-- The kind field of a header word (R18). -/
def headerKind (x : Word) : BitVec 8 := x.extractLsb' 16 8
/-- The tag field of a header word (R18). -/
def headerTag (x : Word) : BitVec 8 := x.extractLsb' 8 8
/-- The length field of a header word (R18). -/
def headerLength (x : Word) : BitVec 6 := x.extractLsb' 2 6

/-- A word is a valid header (R9): marker 0x5, EP right, NEP its complement, length not 63. -/
def isHeader (x : Word) : Bool :=
  headerMarker x == 5#4 && x.getLsbD 0 == parity30 x && x.getLsbD 1 == !x.getLsbD 0 && headerLength x != 63#6

/-- The header word without its parity pair. -/
def headerBare (scope : BitVec 4) (kind tag : BitVec 8) (len : BitVec 6) : Word :=
  5#4 ++ scope ++ kind ++ tag ++ len ++ 0#2

/-- The header word with its parity pair: EP in bit 0, NEP its complement in bit 1 (R9, R11). -/
def headerWord (scope : BitVec 4) (kind tag : BitVec 8) (len : BitVec 6) : Word :=
  let h := headerBare scope kind tag len
  h ||| (if parity30 h then 1#32 else 2#32)

/-- Sum mod 65536 of the high and low halves of words (R10, test 3). -/
def checkSum (ws : List Word) : BitVec 16 :=
  ws.foldl (fun a w => a + w.extractLsb' 16 16 + w.extractLsb' 0 16) 0#16

/-- The check word of a header and body: the sum in the low half, its ones' complement in the high half (R18). -/
def checkWord (ws : List Word) : Word := (~~~ checkSum ws) ++ checkSum ws

/-- The words of a message: header, body, check word (R11). -/
def messageWords (kind : BitVec 8) (scope : BitVec 4) (tag : BitVec 8) (body : List Word) : List Word :=
  let hb := headerWord scope kind tag (BitVec.ofNat 6 body.length) :: body
  hb ++ [checkWord hb]

/-! ### The downstream kinds (R18, Message kinds) -/

/-- The scopes a kind accepts (R18). -/
inductive ScopeClass
  | none15 | slot | nest | slotOrAll
deriving DecidableEq, Repr

/-- The kind code. -/
def Kind.code : Kind → BitVec 8
  | .hello => 0x01#8 | .status => 0x02#8 | .noticeSet => 0x03#8 | .softReset => 0x04#8
  | .tapSelect => 0x05#8
  | .stageOpen => 0x10#8 | .stageRows => 0x11#8 | .stageCommit => 0x12#8 | .stageDiscard => 0x13#8
  | .readRows => 0x14#8
  | .protectRange => 0x18#8 | .protectAll => 0x19#8 | .freeze => 0x1A#8 | .protectQuery => 0x1B#8
  | .nestConfig => 0x20#8 | .start => 0x21#8 | .abort => 0x22#8 | .nestQuery => 0x23#8
  | .ambientConfig => 0x28#8 | .refBegin => 0x30#8 | .refCancel => 0x31#8
  | .lotOpen => 0x38#8 | .lotClose => 0x39#8 | .lotQuery => 0x3A#8 | .retestQuery => 0x3B#8
  | .markConfig => 0x40#8

/-- Every downstream kind, in the order of their codes. -/
def Kind.all : List Kind :=
  [.hello, .status, .noticeSet, .softReset, .tapSelect, .stageOpen, .stageRows, .stageCommit, .stageDiscard,
   .readRows, .protectRange, .protectAll, .freeze, .protectQuery, .nestConfig, .start, .abort, .nestQuery,
   .ambientConfig, .refBegin, .refCancel, .lotOpen, .lotClose, .lotQuery, .retestQuery, .markConfig]

/-- The downstream kind of a code; none for a code that is not in the table (R10, test 1). -/
def Kind.ofCode (c : BitVec 8) : Option Kind := Kind.all.find? fun k => k.code == c

/-- The scopes the kind accepts. -/
def Kind.scopes : Kind → ScopeClass
  | .hello | .status | .noticeSet | .softReset | .tapSelect | .protectRange | .protectAll | .freeze
  | .ambientConfig | .markConfig => .none15
  | .stageOpen | .stageRows | .stageCommit | .stageDiscard | .readRows | .protectQuery
  | .refBegin | .refCancel | .lotOpen | .lotClose | .lotQuery => .slot
  | .nestConfig | .start | .abort | .nestQuery => .nest
  | .retestQuery => .slotOrAll

/-- The scope is accepted for the kind (R10, test 4). -/
def Kind.scopeOk (k : Kind) (scope : BitVec 4) : Bool :=
  match k.scopes with
  | .none15 => scope == 15#4
  | .slot => scope.toNat < 8
  | .nest => scope.toNat < 4
  | .slotOrAll => scope.toNat < 8 || scope == 15#4

/-- The length is allowed for the kind (R10, test 2). -/
def Kind.lengthOk (k : Kind) (len : Nat) : Bool :=
  match k with
  | .hello | .softReset | .stageCommit | .stageDiscard | .protectAll | .freeze | .protectQuery
  | .abort | .nestQuery | .refCancel | .lotClose | .lotQuery | .retestQuery => len == 0
  | .status | .noticeSet | .tapSelect | .stageOpen | .readRows | .protectRange | .ambientConfig
  | .refBegin | .lotOpen | .markConfig => len == 1
  | .nestConfig | .start => len == 2
  | .stageRows => 3 ≤ len && len ≤ 62

/-- The nest a scope names, once `Kind.scopeOk` holds. -/
def nestOf (scope : BitVec 4) : NestId := ⟨scope.toNat % 4, Nat.mod_lt _ (by decide)⟩

/-- The slot a scope names, once `Kind.scopeOk` holds. -/
def slotOf (scope : BitVec 4) : SlotId := ⟨scope.toNat % 8, Nat.mod_lt _ (by decide)⟩

/-! ### Commands and messages -/

/-- The command that a kind, scope, tag and body stand for. -/
def Kind.command (k : Kind) (scope : BitVec 4) (tag : BitVec 8) (body : List Word) : Instr :=
  let w0 := body.getD 0 0#32
  let w1 := body.getD 1 0#32
  match k with
  | .hello => .hello scope tag
  | .status => .status scope tag w0
  | .noticeSet => .noticeSet scope tag w0
  | .softReset => .softReset scope tag
  | .tapSelect => .tapSelect scope tag w0
  | .stageOpen => .stageOpen scope tag w0
  | .stageRows => .stageRows scope tag body
  | .stageCommit => .stageCommit scope tag
  | .stageDiscard => .stageDiscard scope tag
  | .readRows => .readRows scope tag w0
  | .protectRange => .protectRange scope tag w0
  | .protectAll => .protectAll scope tag
  | .freeze => .freeze scope tag
  | .protectQuery => .protectQuery scope tag
  | .nestConfig => .nestConfig scope tag w0 w1
  | .start => .start scope tag w0 w1
  | .abort => .abort scope tag
  | .nestQuery => .nestQuery scope tag
  | .ambientConfig => .ambientConfig scope tag w0
  | .refBegin => .refBegin scope tag w0
  | .refCancel => .refCancel scope tag
  | .lotOpen => .lotOpen scope tag w0
  | .lotClose => .lotClose scope tag
  | .lotQuery => .lotQuery scope tag
  | .retestQuery => .retestQuery scope tag
  | .markConfig => .markConfig scope tag w0

/-- The command that a whole message stands for, when it passes the tests of R9 and R10. -/
def parseMessage (ws : List Word) : Option Instr :=
  match ws with
  | [] => none
  | h :: rest =>
    let len := (headerLength h).toNat
    let body := rest.take len
    if isHeader h && rest.length == len + 1 && rest.getD len 0#32 == checkWord (h :: body) then
      match Kind.ofCode (headerKind h) with
      | some k =>
        if k.lengthOk len && k.scopeOk (headerScope h) then some (k.command (headerScope h) (headerTag h) body)
        else none
      | none => none
    else none

/-- The kind, scope, tag and body of a command of the line computer; none for an event, which no message carries. -/
def Instr.message : Instr → Option (Kind × BitVec 4 × BitVec 8 × List Word)
  | .hello sc t => some (.hello, sc, t, [])
  | .status sc t w => some (.status, sc, t, [w])
  | .noticeSet sc t w => some (.noticeSet, sc, t, [w])
  | .softReset sc t => some (.softReset, sc, t, [])
  | .tapSelect sc t w => some (.tapSelect, sc, t, [w])
  | .stageOpen sc t w => some (.stageOpen, sc, t, [w])
  | .stageRows sc t b => some (.stageRows, sc, t, b)
  | .stageCommit sc t => some (.stageCommit, sc, t, [])
  | .stageDiscard sc t => some (.stageDiscard, sc, t, [])
  | .readRows sc t w => some (.readRows, sc, t, [w])
  | .protectRange sc t w => some (.protectRange, sc, t, [w])
  | .protectAll sc t => some (.protectAll, sc, t, [])
  | .freeze sc t => some (.freeze, sc, t, [])
  | .protectQuery sc t => some (.protectQuery, sc, t, [])
  | .nestConfig sc t w0 w1 => some (.nestConfig, sc, t, [w0, w1])
  | .start sc t w0 w1 => some (.start, sc, t, [w0, w1])
  | .abort sc t => some (.abort, sc, t, [])
  | .nestQuery sc t => some (.nestQuery, sc, t, [])
  | .ambientConfig sc t w => some (.ambientConfig, sc, t, [w])
  | .refBegin sc t w => some (.refBegin, sc, t, [w])
  | .refCancel sc t => some (.refCancel, sc, t, [])
  | .lotOpen sc t w => some (.lotOpen, sc, t, [w])
  | .lotClose sc t => some (.lotClose, sc, t, [])
  | .lotQuery sc t => some (.lotQuery, sc, t, [])
  | .retestQuery sc t => some (.retestQuery, sc, t, [])
  | .markConfig sc t w => some (.markConfig, sc, t, [w])
  | .powerOn _ | .headFrame _ | .lineFrame _ _ _ | .waitLineAdmit | .headLoss
  | .deferredSwap _ | .keyOn | .keyOff | .seatClosed _ | .seatLoss _ | .seatTimeout _
  | .windowStart _ | .windowEnd _ | .dwellEnd _ | .stepFadeEnd _ | .fadeEnd _ | .promotion _
  | .ambientLoud | .ambientQuiet | .lotComplete _ | .reqRising _ | .reqFalling | .markedResult
  | .jamResult | .issueTimeout | .queueExpiry _ | .noticePeriodExpiry => none

/-- The words of the message that carries a command (R11's formation, used by the line computer as well). -/
def Instr.wireWords (i : Instr) : Option (List Word) :=
  i.message.map fun (k, scope, tag, body) => messageWords k.code scope tag body

/-- The command that a word of the opcode table's numbering spells: none, since no row of the table gives bits. -/
def decodeTableWord (_nbits _w : Nat) : Option Instr := none

end Sys2Proof
end

