-- ==== Sys2Proof/Machine/State.lean ====
section
/-! DEFINITION. The state of the G412 as plain data, block by block (spec/00_scope.md, "Block diagram"),
the reasons a step could stop, and the state after power-on. INVENTORY.md lists every field with its rule. -/

namespace Sys2Proof.Machine

/-! ### LNK (spec/01_the_sample_link.md) -/

/-- A message with its tag (R11). -/
structure Msg where
  kind  : BitVec 8
  scope : BitVec 4
  tag   : BitVec 8
  body  : List Word
deriving DecidableEq, Repr

/-- An event message before admission gives it its tag (R11, R13). -/
structure Event where
  kind  : BitVec 8
  scope : BitVec 4
  body  : List Word
deriving DecidableEq, Repr

/-- Head presence (R4). -/
inductive Presence
  | waiting | present | lost
deriving DecidableEq, Repr

/-- The message assembler (R8): `words` are the header and the body words assembled so far, in order. -/
inductive Assembler
  | hunt
  | body (words : List Word) (toCome : Nat)
  | check (words : List Word)
deriving DecidableEq, Repr

/-- The producers of event messages that can stand on the wait line (R13, R14). -/
inductive Producer
  | ntc
  | vrd (nest : NestId)
  | tbs (slot : SlotId)
  | yld (slot : SlotId)
deriving DecidableEq, Repr

/-- A line-side frame in the line receive store (R5). -/
structure LineFrame where
  control : Word
  aux     : Word
deriving DecidableEq, Repr

/-- A part → head frame (R18). -/
structure HeadBound where
  word0 : Word
  drive : Vector Word 4
  aux   : Word
deriving DecidableEq, Repr

/-- A part → line frame (R18). -/
structure LineBound where
  word0   : Word
  tap0    : Word
  tap1    : Word
  aux     : Word
  control : Word
deriving DecidableEq, Repr

/-- The link interface (table of state of spec/01). `headBound` and `lineBound` are the last frames sent (log 19). -/
structure Link where
  expect    : Option (BitVec 8)
  presence  : Presence
  elapsed   : Nat
  store     : Option LineFrame
  auxToLine : Word
  auxToHead : Word
  tap0      : BitVec 8
  tap1      : BitVec 8
  asm       : Assembler
  replyQ    : List Msg
  eventQ    : List Msg
  waitLine  : List Producer
  tx        : List Word
  seq       : BitVec 8
  linkErr   : Nat
  overrun   : Nat
  slip      : Nat
  traceLost : Nat
  headBound : Option HeadBound
  lineBound : Option LineBound
deriving DecidableEq, Repr

/-! ### TBS (spec/02, spec/07) -/

/-- One row of a table: its words (R20). -/
abbrev Row := List Word

/-- The four tables of a model (R20). -/
structure Tables where
  settings : List Row
  plan     : List Row
  mask     : List Row
  grading  : List Row
deriving DecidableEq, Repr

/-- The capture of a slot (R116): target N, accepted count k, and the sums or the pending values. -/
inductive Capture
  | idle
  | capturing (target count : Nat) (sums : List Int)
  | pending (target count : Nat) (values : List Level)
deriving DecidableEq, Repr

/-- A model slot (R19) with its reference state (R116). `reference` is none when EMPTY. -/
structure Slot where
  loaded     : Bool
  tables     : Tables
  generation : BitVec 16
  occupancy  : Nat
  reference  : Option (List Level)
  refGen     : BitVec 16
  capture    : Capture
  refDone    : Option Event
deriving DecidableEq, Repr

/-- A session in a staging buffer (R22). -/
structure Session where
  slot        : SlotId
  copy        : Bool
  pending     : Bool
  tables      : Tables
  planTouched : Bool
deriving DecidableEq, Repr

/-- A discrete input: its line level, its debounced level, and the count of samples at the new level
(R39, R62, R144). -/
structure Debounce where
  line   : Bool
  stable : Bool
  count  : Nat
deriving DecidableEq, Repr

/-- Protection (R36). -/
structure Protection where
  lower        : Nat
  upper        : Nat
  invert       : Bool
  allProtected : Bool
  freeze       : Bool
  strap        : Bool
  key          : Debounce
deriving DecidableEq, Repr

/-! ### Nests: configuration, sequencer, sweep engine, analysis engine (spec/03, spec/04, spec/05) -/

/-- Nest configuration (R60). -/
structure NestConfig where
  trim        : Nat
  mcal        : Int
  zcal        : Int
  inverted    : Bool
  seatCode    : Nat
  bench       : Bool
  benchEnding : Bool
deriving DecidableEq, Repr

/-- Nest states (R63). -/
inductive Phase
  | idle | armed | running | closing | reporting
deriving DecidableEq, Repr

/-- Run kinds (R66). -/
inductive RunKind
  | counted | golden | bench
deriving DecidableEq, Repr

/-- Start causes (R64); `none` before the run is RUNNING. -/
inductive StartCause
  | none | immediate | seat
deriving DecidableEq, Repr

/-- Abort causes (R64). -/
inductive AbortCause
  | command | headLoss | softReset
deriving DecidableEq, Repr

/-- End causes (R64, R73). -/
inductive EndCause
  | isOpen | completed | contactCheck | seatLoss | seatTimeout | disturbed
  | aborted (cause : AbortCause)
deriving DecidableEq, Repr

/-- The run record (R64) with capture bound and golden values (R118). `seatTimer` counts ticks.
A golden value is none while empty. -/
structure Run where
  present      : Bool
  slot         : SlotId
  generation   : BitVec 16
  serial       : BitVec 48
  golden       : Bool
  trace        : Bool
  kind         : RunKind
  lotId        : Word
  attempt      : Nat
  startCause   : StartCause
  seatTimer    : Nat
  failSet      : ClassSet
  marginalSet  : ClassSet
  contact      : Bool
  disturbed    : Bool
  firstFail    : Nat
  clipSeen     : Bool
  endCause     : EndCause
  endStep      : Nat
  bound        : Bool
  goldenValues : List (Option Level)
deriving DecidableEq, Repr

/-- Window phase of the current dwell (R64, R69). -/
inductive WindowPhase
  | before | isOpen | closed
deriving DecidableEq, Repr

/-- Sweep engine modes (R42). -/
inductive Mode
  | silent | step | stepFade | endFade
deriving DecidableEq, Repr

/-- A PULSE lobe (R42). -/
inductive Lobe
  | isOpen | ended
deriving DecidableEq, Repr

/-- What the last frame that the engine played belongs to, which a run end asks for (R50, R58): a frame of the present
dwell; no TONE dwell (no frame of the run yet, a PULSE or GAP dwell that has ended, a STEP_FADE that has ended); or a TONE
dwell that has ended, with its increment and Aeff (log 15). -/
inductive LastFrame
  | here
  | quiet
  | tone (inc : BitVec 32) (aeff : Nat)
deriving DecidableEq, Repr

/-- The sweep engine (R42). `fadeLen` is the Rf that stood when the present fade-out began (R50); `last` tells what the
last frame played belongs to. The fade frame keeps its last value outside a fade (log 32). -/
structure Engine where
  mode    : Mode
  acc     : BitVec 32
  inc     : BitVec 32
  aeff    : Nat
  step    : Nat
  k       : Nat
  held    : Bool
  retry   : Nat
  ext     : Nat
  lobe    : Lobe
  fade    : Nat
  fadeLen : Nat
  last    : LastFrame
deriving DecidableEq, Repr

/-- A pair of correlator sums: cosine (I) and sine (Q) (R85). -/
structure Correlator where
  i : Int
  q : Int
deriving DecidableEq, Repr

/-- The polarity find (R82, R95). -/
inductive PolarityFind
  | notFound | positive | negative
deriving DecidableEq, Repr

/-- The window sums and flags of an analysis engine (R82), cleared when a window opens (R84). -/
structure Window where
  h1 : Correlator
  h2 : Correlator
  h3 : Correlator
  h4 : Correlator
  h5 : Correlator
  current   : Correlator
  peak      : Nat
  residual  : Nat
  micEnergy : Nat
  ambEnergy : Nat
  invalid   : Nat
  clip      : Bool
  find      : PolarityFind
  slipSeen  : Bool
  loudSeen  : Bool
deriving DecidableEq, Repr

/-- The analysis engine (R82): last valid values, mic history, window sums. -/
structure Analysis where
  lastMic : Sample
  lastCur : Sample
  lastRef : Sample
  m1 : Sample
  m2 : Sample
  m3 : Sample
  m4 : Sample
  win : Window
deriving DecidableEq, Repr

/-- A nest: configuration, seat, state, run record, sequencer state, engines and the verdict unit's
outboxes for it (R60–R64, R42, R82, R98, R141). -/
structure Nest where
  config      : NestConfig
  seat        : Debounce
  phase       : Phase
  run         : Run
  window      : WindowPhase
  retryMarked : Bool
  engine      : Engine
  analysis    : Analysis
  verdictOut  : Option Event
  stepOut     : Option Event
deriving DecidableEq, Repr

/-! ### AMB, VRD, MRK, YLD, NTC (spec/06, spec/08, spec/09, spec/10, spec/11) -/

/-- The ambient monitor (R99). `holdSel` is the hold selector of R103. -/
structure Ambient where
  loud    : Bool
  hold    : Nat
  quiet   : Nat
  code    : Int
  holdSel : Nat
  quietTime : Nat
deriving DecidableEq, Repr

/-- An entry of the retest list (R135). -/
structure RetestEntry where
  serial   : BitVec 48
  slot     : SlotId
  lotId    : Word
  attempts : Nat
  classes  : ClassSet
deriving DecidableEq, Repr

/-- Kinds of label record (R146). -/
inductive LabelKind
  | finalPass | finalFail | retest
deriving DecidableEq, Repr

/-- A label record (R146); `age` counts ticks. -/
structure Label where
  nest    : NestId
  lotId   : Word
  kind    : LabelKind
  code    : BitVec 8
  bin     : BitVec 4
  classes : ClassSet
  issued  : Bool
  age     : Nat
deriving DecidableEq, Repr

/-- The port answer (R143). -/
inductive PortAnswer
  | idle | issue | noLabel
deriving DecidableEq, Repr

/-- The marking unit (R143–R146). `nestLo` and `nestHi` are the two NEST lines. -/
structure Marking where
  records : List Label
  port    : PortAnswer
  req     : Debounce
  marked  : Debounce
  jam     : Debounce
  nestLo  : Debounce
  nestHi  : Debounce
  code    : Nat
  tMark   : Nat
  tQueue  : Nat
  stray   : Nat
deriving DecidableEq, Repr

/-- A lot record (R157). `summary` holds the LOT_SUMMARY while summary waiting is set.
A rolling-window outcome is true for PASS. -/
structure Lot where
  id          : Word
  closing     : Bool
  summary     : Option Event
  genAtOpen   : BitVec 16
  commits     : Nat
  started     : Nat
  inFlight    : Nat
  awaiting    : Nat
  outstanding : Nat
  passed      : Nat
  failed      : Nat
  aborted     : Nat
  retests     : Nat
  classes     : Vector Nat 13
  window      : List Bool
  tripped     : Bool
deriving DecidableEq, Repr

/-- NTC's outbox (R170, R174). `deferred` stands only inside a soft reset: R16 has a NOTICE that is asked for
during the reset's own actions offered last; `asked` says whether one was. -/
inductive NoticeBox
  | empty | waiting | deferred (asked : Bool)
deriving DecidableEq, Repr

/-- The notice unit (R170). The period is a code of 10 ms; the timer counts ticks and is none when STOPPED.
`softCause` is the reset cause (true = SOFT). -/
structure Notices where
  flags     : BitVec 8
  bitmap    : BitVec 8
  enables   : BitVec 8
  period    : Nat
  timer     : Option Nat
  nonUrgent : Bool
  outbox    : NoticeBox
  softCause : Bool
  owed      : Bool
deriving DecidableEq, Repr

/-- The whole part, and the queue of the steps that wait, first in first out. -/
structure State where
  lnk     : Link
  slots   : Vector Slot 8
  buffers : Vector (Option Session) 2
  prot    : Protection
  nests   : Vector Nest 4
  amb     : Ambient
  retest  : List RetestEntry
  mrk     : Marking
  lots    : Vector (Option Lot) 8
  ntc     : Notices
  pending : List Instr
deriving DecidableEq, Repr

/-! ### Reasons to stop -/

/-- The spec names no event that stops the part, so there is no fault. -/
inductive Fault
deriving DecidableEq, Repr

/-- Why a step is refused. -/
inductive Refusal
  /-- Raised by an arm of `exec` that has no meaning yet; safe. No arm of this model raises it. -/
  | notModelled (mnemonic : String)
deriving DecidableEq, Repr

/-! ### Power-on values -/

/-- A debounced input that reads `line` and whose debounced level is low, its count 0 (R36, R62, R144). -/
def Debounce.low (line : Bool) : Debounce := { line, stable := false, count := 0 }

/-- Tables of length 0 (R19). -/
def Tables.blank : Tables := { settings := [], plan := [], mask := [], grading := [] }

/-- A slot at power-on (R19, R116). -/
def Slot.initial : Slot :=
  { loaded := false, tables := .blank, generation := 0, occupancy := 0, reference := none, refGen := 0,
    capture := .idle, refDone := none }

/-- Nest configuration at power-on (R60). -/
def NestConfig.initial : NestConfig :=
  { trim := 128, mcal := 0, zcal := 0, inverted := false, seatCode := 2, bench := false, benchEnding := false }

/-- No run recorded: every field zero but first failing step and end step (R64, R80). -/
def Run.blank : Run :=
  { present := false, slot := 0, generation := 0, serial := 0, golden := false, trace := false, kind := .counted,
    lotId := 0, attempt := 0, startCause := .none, seatTimer := 0, failSet := 0, marginalSet := 0,
    contact := false, disturbed := false, firstFail := 255, clipSeen := false, endCause := .isOpen, endStep := 255,
    bound := false, goldenValues := [] }

/-- A sweep engine at power-on and after a soft reset (R42). -/
def Engine.initial : Engine :=
  { mode := .silent, acc := 0, inc := 0, aeff := 0, step := 0, k := 0, held := false, retry := 0, ext := 0,
    lobe := .ended, fade := 0, fadeLen := 0, last := .quiet }

/-- Window sums all zero and flags all clear (R82, R84). -/
def Window.cleared : Window :=
  { h1 := ⟨0, 0⟩, h2 := ⟨0, 0⟩, h3 := ⟨0, 0⟩, h4 := ⟨0, 0⟩, h5 := ⟨0, 0⟩, current := ⟨0, 0⟩, peak := 0,
    residual := 0, micEnergy := 0, ambEnergy := 0, invalid := 0, clip := false, find := .notFound,
    slipSeen := false, loudSeen := false }

/-- An analysis engine at power-on and after a soft reset (R82). -/
def Analysis.initial : Analysis :=
  { lastMic := 0, lastCur := 0, lastRef := 0, m1 := 0, m2 := 0, m3 := 0, m4 := 0, win := .cleared }

/-- A nest at power-on whose SEAT line reads `line` (R60–R64). -/
def Nest.initial (line : Bool) : Nest :=
  { config := .initial, seat := .low line, phase := .idle, run := .blank, window := .before, retryMarked := false,
    engine := .initial, analysis := .initial, verdictOut := none, stepOut := none }

/-- The ambient monitor at power-on (R99). -/
def Ambient.initial : Ambient :=
  { loud := false, hold := 0, quiet := 0, code := -256, holdSel := 1, quietTime := 960 }

/-- The link interface at power-on (R2–R8, R11–R17). -/
def Link.initial : Link :=
  { expect := none, presence := .waiting, elapsed := 0, store := none, auxToLine := 0, auxToHead := 0, tap0 := 0,
    tap1 := 0, asm := .hunt, replyQ := [], eventQ := [], waitLine := [], tx := [], seq := 0, linkErr := 0,
    overrun := 0, slip := 0, traceLost := 0, headBound := none, lineBound := none }

/-- The notice unit at power-on, before its NOTICE is admitted (R170). -/
def Notices.initial : Notices :=
  { flags := 0, bitmap := 0, enables := 0xFF, period := 10, timer := none, nonUrgent := false, outbox := .empty,
    softCause := false, owed := true }

/-- The state at power-on before NTC asks for the power-on NOTICE (R174), every input line low and the queue empty;
`strap` is the PROTECT strap (R36). -/
def State.blank (strap : Bool) : State :=
  { lnk := .initial
    slots := Vector.replicate 8 .initial
    buffers := Vector.replicate 2 none
    prot := { lower := 0, upper := 7, invert := false, allProtected := strap, freeze := false, strap,
              key := .low false }
    nests := Vector.replicate 4 (.initial false)
    amb := .initial
    retest := []
    mrk := { records := [], port := .idle, req := .low false, marked := .low false, jam := .low false,
             nestLo := .low false, nestHi := .low false, code := 1, tMark := 500, tQueue := 200, stray := 0 }
    lots := Vector.replicate 8 none
    ntc := .initial
    pending := [] }

/-- The state after power-on (R174): the power-on NOTICE has been admitted to the empty event queue with tag 0,
so the sequence number is 1 and no reset report is owed. The PROTECT strap is inactive and every input line is low
(DESIGN CHOICE, unsafe, log 2). -/
def State.reset : State :=
  let s := State.blank false
  { s with
    lnk := { s.lnk with eventQ := [⟨0x82#8, 15#4, 0#8, [0x00020000#32, 0#32, 0#32]⟩], seq := 1#8 }
    ntc := { s.ntc with owed := false } }

end Sys2Proof.Machine
end

