-- ==== Sys2Proof/Machine/Operands.lean ====
section
/-! DEFINITION. The operand forms: the rows of the four tables read field by field (R18, R21), the rows as stored
(ignored fields zero, R25), the bodies of the commands (R18, Command bodies), and the class set (R18). -/

namespace Sys2Proof.Machine

/-! ### Class set (R18, R127) -/

def clsLow : ClassSet := 1#16 <<< 0
def clsHigh : ClassSet := 1#16 <<< 1
def clsThd : ClassSet := 1#16 <<< 2
def clsRb : ClassSet := 1#16 <<< 3
def clsCrest : ClassSet := 1#16 <<< 4
def clsImpLow : ClassSet := 1#16 <<< 5
def clsImpHigh : ClassSet := 1#16 <<< 6
def clsPolarity : ClassSet := 1#16 <<< 7
def clsNoise : ClassSet := 1#16 <<< 8
def clsContact : ClassSet := 1#16 <<< 9
def clsDisturbed : ClassSet := 1#16 <<< 10
def clsUnmarked : ClassSet := 1#16 <<< 11
def clsNoReturn : ClassSet := 1#16 <<< 12

/-! ### Tables and rows (R20) -/

/-- Row size in words of a table code (R20). -/
def rowSize : Nat → Nat
  | 0 => 8 | 1 => 4 | 2 => 6 | _ => 2

/-- Capacity in rows of a table code (R20). -/
def capacity : Nat → Nat
  | 0 => 1 | 1 => 128 | 2 => 64 | _ => 16

/-- The rows of the table with a code 0–3 (R20). -/
def Tables.get (t : Tables) : Nat → List Row
  | 0 => t.settings | 1 => t.plan | 2 => t.mask | _ => t.grading

/-- Replace the rows of the table with a code 0–3. -/
def Tables.put (t : Tables) (code : Nat) (rows : List Row) : Tables :=
  match code with
  | 0 => { t with settings := rows }
  | 1 => { t with plan := rows }
  | 2 => { t with mask := rows }
  | _ => { t with grading := rows }

/-- Word i of a row. -/
def Row.word (r : Row) (i : Nat) : Word := r.getD i 0#32

/-- A row as stored: the fields its layout marks ignored become zero (R18, R21, R25; log 17). -/
def storedRow (code : Nat) (r : Row) : Row :=
  match code with
  | 0 => [r.word 0, r.word 1, r.word 2, r.word 3, r.word 4, r.word 5, r.word 6, 0#32]
  | 1 => [r.word 0, r.word 1 &&& 0x0007FFFF#32, r.word 2, r.word 3 &&& 0xFFFF0000#32]
  | 2 => [r.word 0 &&& 0x000003FF#32, r.word 1 &&& 0x000003FF#32, r.word 2, r.word 3, r.word 4, r.word 5]
  | _ => [r.word 0, 0#32]

/-- Words cut into rows of `size` words; `fuel` bounds the number of rows. -/
def cutRows (size : Nat) : Nat → List Word → List Row
  | 0, _ => []
  | fuel + 1, ws => if ws.isEmpty then [] else ws.take size :: cutRows size fuel (ws.drop size)

/-! ### Settings row (R21) -/

/-- Half-word i of a row: the low half of word 0 first, then its high half (R21). -/
def halfWord (r : Row) (i : Nat) : Nat := bits (r.word (i / 2)) (16 * (i % 2)) 16

/-- Half-word i as a signed level (R21). -/
def halfLevel (r : Row) (i : Nat) : Level := sbits (r.word (i / 2)) (16 * (i % 2)) 16

/-- A label half-word: code in the upper byte, bin in the lower byte (R21). -/
structure LabelField where
  code : Nat
  bin  : Nat
deriving DecidableEq, Repr

def labelField (h : Nat) : LabelField := { code := h / 256, bin := h % 256 }

/-- The settings row read field by field (R21). -/
structure Settings where
  model        : Nat
  retestLimit  : Nat
  retryLimit   : Nat
  seatMode     : Nat
  seatTimeout  : Nat
  fade         : Nat
  settleLimit  : Nat
  ambientLimit : Level
  contactFloor : Level
  polarityCode : Int
  passLabel    : LabelField
  retestLabel  : LabelField
  rejectLabel  : LabelField
  lowYield     : Nat
deriving DecidableEq, Repr

def settingsOf (r : Row) : Settings :=
  { model := halfWord r 0
    retestLimit := halfWord r 1
    retryLimit := halfWord r 2
    seatMode := halfWord r 3
    seatTimeout := halfWord r 4
    fade := halfWord r 5
    settleLimit := halfWord r 6
    ambientLimit := halfLevel r 7
    contactFloor := halfLevel r 8
    polarityCode := halfLevel r 9
    passLabel := labelField (halfWord r 10)
    retestLabel := labelField (halfWord r 11)
    rejectLabel := labelField (halfWord r 12)
    lowYield := halfWord r 13 }

/-- The settings of a set of tables; a missing row reads as zeros (log 18). -/
def Tables.settingsRow (t : Tables) : Settings := settingsOf (t.settings.getD 0 [])

/-! ### Step record (R18) -/

/-- Step kinds; `reserved` is the value 3, which fails commit validation (R18). -/
inductive StepKind
  | tone | pulse | gap | reserved
deriving DecidableEq, Repr

/-- A step record read field by field (R18). `residual` is the residual order, 1–4. -/
structure Step where
  kind     : StepKind
  harm     : Bool
  rb       : Bool
  imp      : Bool
  contact  : Bool
  ref      : Bool
  residual : Nat
  mask     : Nat
  level    : Int
  freq     : Nat
  dwell    : Nat
  ws       : Nat
  we       : Nat
deriving DecidableEq, Repr

def stepOf (r : Row) : Step :=
  let w0 := r.word 0
  { kind := match bits w0 30 2 with
      | 0 => .tone | 1 => .pulse | 2 => .gap | _ => .reserved
    harm := bit w0 29
    rb := bit w0 28
    imp := bit w0 27
    contact := bit w0 26
    ref := bit w0 25
    residual := bits w0 23 2 + 1
    mask := bits w0 16 7
    level := sbits w0 0 16
    freq := bits (r.word 1) 0 19
    dwell := bits (r.word 2) 16 16
    ws := bits (r.word 2) 0 16
    we := bits (r.word 3) 16 16 }

/-- Mask index NONE (R18). -/
def maskNone : Nat := 127

/-- Step i of the plan; a missing row reads as zeros (log 18). -/
def Tables.step (t : Tables) (i : Nat) : Step := stepOf (t.plan.getD i [])

/-- The steps of the plan in order. -/
def Tables.steps (t : Tables) : List Step := t.plan.map stepOf

/-- The number of REF steps of the plan (R116, R125). -/
def Tables.refCount (t : Tables) : Nat := (t.steps.filter (·.ref)).length

/-- The position of step i among the REF steps: how many REF steps come before it (R116, R118). -/
def Tables.refIndex (t : Tables) (i : Nat) : Nat := ((t.steps.take i).filter (·.ref)).length

/-! ### Mask row (R18, R109) -/

/-- A mask row read field by field (R18). A limit is none when its present flag is clear; `lowerRel` and `upperRel` say
that a fundamental limit is REL. `polarity` is 0 absent, 1 POS, 2 NEG, 3 ANY. -/
structure Mask where
  lower    : Option Level
  upper    : Option Level
  lowerRel : Bool
  upperRel : Bool
  thd      : Option Level
  rb       : Option Level
  crest    : Option Level
  impLower : Option Level
  impUpper : Option Level
  noise    : Option Level
  polarity : Nat
  guard    : Nat
deriving DecidableEq, Repr

def maskOf (r : Row) : Mask :=
  let w0 := r.word 0
  let lim (present word lo : Nat) : Option Level := if bit w0 present then some (sbits (r.word word) lo 16) else none
  { lower := lim 0 2 16
    upper := lim 1 2 0
    lowerRel := bit w0 8
    upperRel := bit w0 9
    thd := lim 2 3 16
    rb := lim 3 3 0
    crest := lim 4 4 16
    impLower := lim 5 4 0
    impUpper := lim 6 5 16
    noise := lim 7 5 0
    polarity := bits (r.word 1) 8 2
    guard := bits (r.word 1) 0 8 }

/-- The row has a fundamental limit present with its REL bit set (R28, R66). -/
def Mask.hasRel (m : Mask) : Bool := (m.lower.isSome && m.lowerRel) || (m.upper.isSome && m.upperRel)

/-- The mask row that a step's mask index names; none for NONE, or where no row stands (log 18). -/
def Tables.maskRow (t : Tables) (index : Nat) : Option Mask :=
  if index == maskNone then none else (t.mask[index]?).map maskOf

/-- Some step of the plan indexes a mask row with a REL fundamental limit (R66, order 7). -/
def Tables.hasRel (t : Tables) : Bool :=
  t.steps.any fun st => match t.maskRow st.mask with
    | some m => m.hasRel
    | none => false

/-! ### Grading entry (R21) -/

/-- A grading entry: class mask in half-word 0, label in half-word 1 (R21). -/
structure Grade where
  classes : ClassSet
  label   : LabelField
deriving DecidableEq, Repr

def gradeOf (r : Row) : Grade :=
  { classes := BitVec.ofNat 16 (halfWord r 0), label := labelField (halfWord r 1) }

/-! ### Command bodies (R18) -/

/-- The 48-bit serial of START's two body words (R18). -/
def serialOf (w0 w1 : Word) : BitVec 48 := w0.extractLsb' 0 16 ++ w1

/-- Serial bits 47:32 (R18). -/
def serialHi (x : BitVec 48) : Nat := x.toNat / 2 ^ 32
/-- Serial bits 31:0 as a word (R18). -/
def serialLo (x : BitVec 48) : Word := x.setWidth 32

end Sys2Proof.Machine
end

