-- ==== Sys2Proof/Machine/Analysis.lean ====
section
/-! DEFINITION. The analysis engine: frame values and history (R83), window accumulation (R84–R86, R95), the step
measures (R87–R96), the contact check (R97) and the disturbance test (R105). -/

namespace Sys2Proof.Machine

/-- One channel of a head frame as handed on: its valid mark and its sample (R1, R2). -/
structure Channel where
  valid  : Bool
  sample : Sample
deriving DecidableEq, Repr

/-- What a nest's analysis engine is handed for a head frame (R1): its three channels and the slip mark. -/
structure FrameInput where
  mic  : Channel
  cur  : Channel
  ref  : Channel
  slip : Bool
deriving DecidableEq, Repr

/-- The frame value: the received sample, or the last valid value for an invalid one (R83). -/
def Channel.value (c : Channel) (last : Sample) : Sample := if c.valid then c.sample else last

/-- |x| of a sample, |−8,388,608| taken as 8,388,608 (R95, R100). -/
def magnitude (x : Sample) : Nat := x.toInt.natAbs

/-- The products of one frame added to a pair of sums: cosine and sine reference at a phase (R85). -/
def Correlator.add (c : Correlator) (v : Int) (phase : BitVec 32) : Correlator :=
  { i := c.i + v * sineV (phase + quarter), q := c.q + v * sineV phase }

/-- The harmonic products of one frame at k times the phase, wrapped to 32 bits (R85). -/
def Correlator.addHarmonic (c : Correlator) (k : Nat) (v : Int) (phase : BitVec 32) : Correlator :=
  c.add v (BitVec.ofNat 32 k * phase)

/-- The exact squared magnitude of a pair of sums (R85). -/
def Correlator.square (c : Correlator) : Nat := (c.i * c.i + c.q * c.q).toNat

/-- The residual of an order from the frame's value and the history (R86). -/
def residualOf (order : Nat) (m h1 h2 h3 h4 : Int) : Int :=
  match order with
  | 1 => m - h1
  | 2 => m - 2 * h1 + h2
  | 3 => m - 3 * h1 + 3 * h2 - h3
  | _ => m - 4 * h1 + 6 * h2 - 4 * h3 + h4

/-- The polarity find after a window frame of a PULSE step (R95). -/
def PolarityFind.next (p : PolarityFind) (m : Sample) (threshold : Nat) : PolarityFind :=
  match p with
  | .notFound =>
    if threshold ≤ magnitude m then (if 0 ≤ m.toInt then .positive else .negative) else .notFound
  | .positive => .positive
  | .negative => .negative

/-- A sample at either extreme of the sample range (R84). -/
def atExtreme (m : Sample) : Bool := m.toInt == 8388607 || m.toInt == -8388608

/-- The harmonic sums of a window frame on a step with HARM (R85). -/
def Window.addHarmonics (w : Window) (v : Int) (phase : BitVec 32) : Window :=
  { w with h2 := w.h2.addHarmonic 2 v phase, h3 := w.h3.addHarmonic 3 v phase,
           h4 := w.h4.addHarmonic 4 v phase, h5 := w.h5.addHarmonic 5 v phase }

/-- The residual of a window frame on a step with RB (R86). -/
def Window.addResidual (w : Window) (r : Int) : Window :=
  { w with peak := max w.peak r.natAbs, residual := w.residual + (r * r).toNat }

/-- The accumulation of one window frame (R84). `m`, `c`, `a` are the frame values, `phase` the drive phase of the same
head frame, `loud` the monitor's state for it, `threshold` the polarity threshold amplitude. -/
def Window.accumulate (w : Window) (st : Step) (x : Analysis) (inp : FrameInput) (m c a : Sample)
    (phase : BitVec 32) (loud : Bool) (threshold : Nat) : Window :=
  let w1 := { w with h1 := w.h1.add m.toInt phase
                     micEnergy := w.micEnergy + magnitude m * magnitude m
                     ambEnergy := w.ambEnergy + magnitude a * magnitude a
                     invalid := w.invalid + (if inp.mic.valid then 0 else 1) +
                       (if !inp.cur.valid && st.imp then 1 else 0)
                     clip := w.clip || atExtreme m
                     slipSeen := w.slipSeen || inp.slip
                     loudSeen := w.loudSeen || loud }
  let w2 := if st.harm then w1.addHarmonics m.toInt phase else w1
  let w3 := if st.imp then { w2 with current := w2.current.add c.toInt phase } else w2
  let w4 := if st.rb then
      w3.addResidual (residualOf st.residual m.toInt x.m1.toInt x.m2.toInt x.m3.toInt x.m4.toInt)
    else w3
  if st.kind == .pulse then { w4 with find := w4.find.next m threshold } else w4

/-- What a window frame is accumulated with: the step, the drive phase, the monitor's state, the threshold. -/
structure WindowFrame where
  step      : Step
  phase     : BitVec 32
  loud      : Bool
  threshold : Nat
deriving DecidableEq, Repr

/-- One head frame in an analysis engine (R83): frame values and last valid values, the accumulation of a window frame,
then the shift of the mic history. -/
def Analysis.frame (x : Analysis) (inp : FrameInput) (win : Option WindowFrame) : Analysis :=
  let m := inp.mic.value x.lastMic
  let c := inp.cur.value x.lastCur
  let a := inp.ref.value x.lastRef
  { lastMic := m, lastCur := c, lastRef := a
    m1 := m, m2 := x.m1, m3 := x.m2, m4 := x.m3
    win := match win with
      | some f => x.win.accumulate f.step x inp m c a f.phase f.loud f.threshold
      | none => x.win }

/-! ### Measures (R87–R96) -/

/-- Polarity of a window (R95). -/
inductive Polarity
  | unknown | pos | neg
deriving DecidableEq, Repr

/-- The measure record (R87). -/
structure Measures where
  lf : Level
  lfc : Level
  lthd : Level
  lp : Level
  lrms : Level
  lrb : Level
  lcr : Level
  li : Level
  lz : Level
  ln : Level
  la : Level
  polarity : Polarity
  clip     : Bool
  invalid  : Nat
  dropout  : Bool
  slipSeen : Bool
  loudSeen : Bool
deriving DecidableEq, Repr

/-- Level of a correlated magnitude over W frames: Lf and Li (R89, R93). -/
def correlatedLevel (square width : Nat) : Level :=
  if square == 0 then Config.noneLevel else clampLevel (plog square / 2 - plog width - 9472)

/-- RMS level of an energy over W frames, before an offset is added and the whole is clamped (R91, R94). -/
def rmsLevel (energy width : Nat) : Int := (plog energy - plog width) / 2 - 5888

/-- Calibrated fundamental (R89). -/
def calibrated (lf : Level) (mcal : Int) : Level :=
  if lf == Config.noneLevel then Config.noneLevel else clampLevel (lf + mcal)

/-- Harmonic distortion from the harmonic sum and S1 (R90). -/
def thdLevel (harmonics fundamental : Nat) : Level :=
  if harmonics == 0 then Config.noneLevel
  else if fundamental == 0 then Config.topLevel
  else clampLevel (plog harmonics / 2 - plog fundamental / 2)

/-- Residual peak (R91). -/
def peakLevel (peak : Nat) : Level :=
  if peak == 0 then Config.noneLevel else clampLevel (plog (peak * peak) / 2 - 5888)

/-- Residual RMS (R91). -/
def residualLevel (energy width : Nat) : Level :=
  if energy == 0 then Config.noneLevel else clampLevel (rmsLevel energy width)

/-- Rub and buzz (R92). -/
def rubBuzz (lp lf : Level) : Level :=
  if lp == Config.noneLevel then Config.noneLevel
  else if lf == Config.noneLevel then Config.topLevel
  else clampLevel (lp - lf)

/-- Crest (R92). -/
def crestLevel (peak : Nat) (lp lrms : Level) : Level := if peak == 0 then 0 else clampLevel (lp - lrms)

/-- Impedance (R93). -/
def impedance (square : Nat) (level : Int) (trim : Nat) (li : Level) (zcal : Int) : Level :=
  if square == 0 then Config.topLevel else clampLevel ((level + plog trim - 1792) - li + zcal)

/-- Noise (R94). -/
def noiseLevel (energy width : Nat) (mcal : Int) : Level :=
  if energy == 0 then Config.noneLevel else clampLevel (rmsLevel energy width + mcal)

/-- Ambient (R94). -/
def ambientLevel (energy width : Nat) : Level :=
  if energy == 0 then Config.noneLevel else clampLevel (rmsLevel energy width)

/-- Polarity from the find and the nest's polarity sense (R95). -/
def polarityOf (kind : StepKind) (find : PolarityFind) (inverted : Bool) : Polarity :=
  match kind, find with
  | .pulse, .positive => if inverted then .neg else .pos
  | .pulse, .negative => if inverted then .pos else .neg
  | _, _ => .unknown

/-- The step measures at a window end (R87) from the sums, the step and the nest's configuration. -/
def Window.measures (w : Window) (st : Step) (c : NestConfig) : Measures :=
  let width := st.we - st.ws
  let s1 := w.h1.square
  let lf := correlatedLevel s1 width
  let lp := peakLevel w.peak
  let lrms := residualLevel w.residual width
  let sc := w.current.square
  let li := correlatedLevel sc width
  { lf, lfc := calibrated lf c.mcal
    lthd := thdLevel (w.h2.square + w.h3.square + w.h4.square + w.h5.square) s1
    lp, lrms, lrb := rubBuzz lp lf, lcr := crestLevel w.peak lp lrms
    li, lz := impedance sc st.level c.trim li c.zcal
    ln := noiseLevel w.micEnergy width c.mcal, la := ambientLevel w.ambEnergy width
    polarity := polarityOf st.kind w.find c.inverted
    clip := w.clip, invalid := w.invalid, dropout := 8 < w.invalid
    slipSeen := w.slipSeen, loudSeen := w.loudSeen }

/-- The causes of a disturbed window (section 6.2). -/
inductive Disturbance
  | ambientPeak | ambientLevel | slip | dropout
deriving DecidableEq, Repr

/-- Their codes (section 6.2). -/
def Disturbance.value : Disturbance → Nat
  | .ambientPeak => 1 | .ambientLevel => 2 | .slip => 3 | .dropout => 4

/-- The first cause that holds, in R105's order; none when the window is not disturbed. -/
def Measures.disturbance (m : Measures) (limit : Level) : Option Disturbance :=
  if m.slipSeen then some .slip
  else if m.dropout then some .dropout
  else if m.loudSeen then some .ambientPeak
  else if m.la != Config.noneLevel && limit < m.la then some .ambientLevel
  else none

/-- The contact check fails (R97). -/
def Measures.contactFails (m : Measures) (floor : Level) : Bool := m.li == Config.noneLevel || m.li < floor

end Sys2Proof.Machine
end

