-- ==== Sys2Proof/Machine/Ops.lean ====
section
/-! DEFINITION. Shared operations: access to the parts of State, saturating counts, replies, the event queue with its
admissions and its wait line, the NOTICE requests, and the taking of a command's message (R10–R14, R174). -/

namespace Sys2Proof.Machine

/-! ### Parts of State -/

def State.nest (s : State) (n : NestId) : Nest := s.nests[n]
def State.setNest (s : State) (n : NestId) (v : Nest) : State := { s with nests := s.nests.set n v }
/-- Change one nest. -/
def State.modNest (s : State) (n : NestId) (f : Nest → Nest) : State := s.setNest n (f (s.nest n))

def State.slot (s : State) (k : SlotId) : Slot := s.slots[k]
def State.setSlot (s : State) (k : SlotId) (v : Slot) : State := { s with slots := s.slots.set k v }
/-- Change one slot. -/
def State.modSlot (s : State) (k : SlotId) (f : Slot → Slot) : State := s.setSlot k (f (s.slot k))

def State.lot (s : State) (k : SlotId) : Option Lot := s.lots[k]
def State.setLot (s : State) (k : SlotId) (v : Option Lot) : State := { s with lots := s.lots.set k v }
/-- Change the lot of a slot, where there is one. -/
def State.modLot (s : State) (k : SlotId) (f : Lot → Lot) : State := s.setLot k ((s.lot k).map f)

def State.buffer (s : State) (b : Fin 2) : Option Session := s.buffers[b]
def State.setBuffer (s : State) (b : Fin 2) (v : Option Session) : State := { s with buffers := s.buffers.set b v }

/-- Change the link interface. -/
def State.modLnk (s : State) (f : Link → Link) : State := { s with lnk := f s.lnk }
/-- Change the notice unit. -/
def State.modNtc (s : State) (f : Notices → Notices) : State := { s with ntc := f s.ntc }
/-- Change the marking unit. -/
def State.modMrk (s : State) (f : Marking → Marking) : State := { s with mrk := f s.mrk }
/-- Change the sweep engine of a nest. -/
def State.modEngine (s : State) (n : NestId) (f : Engine → Engine) : State :=
  s.modNest n fun x => { x with engine := f x.engine }
/-- Change the run record of a nest. -/
def State.modRun (s : State) (n : NestId) (f : Run → Run) : State :=
  s.modNest n fun x => { x with run := f x.run }

/-- The buffer that holds the slot's session (R22). -/
def State.sessionBuffer (s : State) (k : SlotId) : Option (Fin 2) :=
  ([0, 1] : List (Fin 2)).find? fun b => match s.buffer b with
    | some x => x.slot == k
    | none => false

/-- The slot's session (R19, R22). -/
def State.session (s : State) (k : SlotId) : Option Session :=
  (s.sessionBuffer k).bind s.buffer

/-- The slot has a commit pending: its session is PENDING (R19, R22). -/
def State.commitPending (s : State) (k : SlotId) : Bool :=
  match s.session k with
  | some x => x.pending
  | none => false

/-- A 16-bit saturating count (R17). -/
def satInc (c : Nat) : Nat := min (c + 1) Config.counterMax

/-- The nest holds its slot and its serial: ARMED or RUNNING (R63, R66). -/
def Phase.active (p : Phase) : Bool := p == .armed || p == .running

/-! ### Replies (R11, R12) -/

/-- Result codes (R18, Result codes). -/
inductive ResultCode
  | ok | busy | refused | range | locked | sequence | invalid | noLot | notReady | held | duplicate | lotFull
  | unknown | length | check
deriving DecidableEq, Repr

/-- The value of a result code (R18). -/
def ResultCode.value : ResultCode → Nat
  | .ok => 0 | .busy => 1 | .refused => 2 | .range => 3 | .locked => 4 | .sequence => 5 | .invalid => 6
  | .noLot => 7 | .notReady => 8 | .held => 9 | .duplicate => 10 | .lotFull => 11 | .unknown => 12
  | .length => 13 | .check => 14

/-- The first body word of a REPLY (R18): kind answered, result code, detail. -/
def replyWord (kind : BitVec 8) (code : ResultCode) (table row : Nat) : Word :=
  put kind.toNat 24 8 ||| put code.value 16 8 ||| put table 8 8 ||| put row 0 8

/-- A REPLY (kind 0x81): tag and scope of the command it answers, first word, returned data (R11). -/
def replyMsg (scope : BitVec 4) (tag : BitVec 8) (first : Word) (data : List Word) : Msg :=
  { kind := 0x81#8, scope, tag, body := first :: data }

/-- Put a reply at the end of the reply queue (R12). -/
def State.queueReply (s : State) (m : Msg) : State := s.modLnk fun l => { l with replyQ := l.replyQ ++ [m] }

/-- Answer a command with a result code and its returned data (R11). -/
def State.reply (s : State) (k : Kind) (scope : BitVec 4) (tag : BitVec 8) (code : ResultCode)
    (data : List Word) : State :=
  s.queueReply (replyMsg scope tag (replyWord k.code code 0 0) data)

/-! ### The event queue (R11, R13) -/

/-- A place of the event queue is free (R13). -/
def State.placeFree (s : State) : Bool := s.lnk.eventQ.length < Config.eventCap

/-- Admit an event message: it takes the current sequence number as its tag, which then advances (R11). -/
def State.admitEvent (s : State) (e : Event) : State :=
  s.modLnk fun l =>
    { l with eventQ := l.eventQ ++ [⟨e.kind, e.scope, l.seq, e.body⟩], seq := l.seq + 1#8 }

/-- The NOTICE formed from the state at its admission (R174; R18, Event bodies). -/
def State.noticeEvent (s : State) : Event :=
  { kind := 0x82#8
    scope := 15#4
    body :=
      [put s.ntc.flags.toNat 0 8 ||| put s.ntc.bitmap.toNat 8 8 ||| flag s.amb.loud 16 ||| flag s.ntc.owed 17 |||
         flag (s.ntc.owed && s.ntc.softCause) 18,
       halves s.lnk.linkErr s.lnk.overrun,
       halves s.lnk.slip s.lnk.traceLost] }

/-- LNK admits NTC's NOTICE: the outbox empties and reset report owed clears (R174). -/
def State.admitNotice (s : State) : State :=
  (s.admitEvent s.noticeEvent).modNtc fun c => { c with outbox := .empty, owed := false }

/-- NTC asks for a NOTICE (R174): absorbed where one waits; else admitted at once when a place is free and the wait
line is empty; else NTC joins the wait line. Inside a soft reset the request is kept to be offered last (R16). -/
def State.askNotice (s : State) : State :=
  match s.ntc.outbox with
  | .waiting => s
  | .deferred _ => s.modNtc fun c => { c with outbox := .deferred true }
  | .empty =>
    if s.placeFree && s.lnk.waitLine.isEmpty then s.admitNotice
    else (s.modNtc fun c => { c with outbox := .waiting }).modLnk fun l => { l with waitLine := l.waitLine ++ [.ntc] }

/-- A nest returns to IDLE; bench ending set clears bench and itself (R75, R79). -/
def Nest.returnIdle (x : Nest) : Nest :=
  let c := x.config
  { x with phase := .idle
           config := if c.benchEnding then { c with bench := false, benchEnding := false } else c }

/-- LNK admits the message that a producer holds, and the producer leaves its waiting state (R13, R14):
NTC's outbox empties (R174), a nest returns to IDLE (R141), a REF_DONE outbox empties (R125), a lot record is
freed (R164). -/
def State.admitProducer (s : State) : Producer → State
  | .ntc => s.admitNotice
  | .vrd n =>
    match (s.nest n).verdictOut with
    | some e => (s.admitEvent e).modNest n fun x => { x with verdictOut := none }.returnIdle
    | none => s
  | .tbs k =>
    match (s.slot k).refDone with
    | some e => (s.admitEvent e).modSlot k fun x => { x with refDone := none }
    | none => s
  | .yld k =>
    match (s.lot k).bind (·.summary) with
    | some e => (s.admitEvent e).setLot k none
    | none => s

/-- A producer offers its message (R13): admitted at once when a place is free and the wait line is empty, else the
producer joins the end of the wait line. -/
def State.offer (s : State) (p : Producer) : State :=
  if s.placeFree && s.lnk.waitLine.isEmpty then s.admitProducer p
  else s.modLnk fun l => { l with waitLine := l.waitLine ++ [p] }

/-- The producer at the head of the wait line is admitted and leaves the line, when a place is free (R14). -/
def State.admitHead (s : State) : State :=
  match s.lnk.waitLine with
  | [] => s
  | p :: rest => if s.placeFree then (s.modLnk fun l => { l with waitLine := rest }).admitProducer p else s

/-- R14's repetition: admit the head of the wait line while places are free and the line is not empty; at most
`fuel` admissions. -/
def State.drainWaitLine : Nat → State → State
  | 0, s => s
  | fuel + 1, s => if s.placeFree && !s.lnk.waitLine.isEmpty then State.drainWaitLine fuel s.admitHead else s

/-- Fill the places that are free from the wait line (R14). -/
def State.fillPlaces (s : State) : State := s.drainWaitLine s.lnk.waitLine.length

/-! ### Taking a message (R10) -/

/-- The overrun case of R10: the message is discarded, counted, and LINK_FAULT is the caller's to set. -/
def State.countOverrun (s : State) : State := s.modLnk fun l => { l with overrun := satInc l.overrun }

end Sys2Proof.Machine
end

