-- ==== Sys2Proof/Machine/Flags.lean ====
section
/-! DEFINITION. The eight sticky flags: setting one, the notice rules at a rising (R170, R171), the period timer,
and what a message's completion does before its owner takes it (R10). -/

namespace Sys2Proof.Machine

/-- The flags in the order of R170. -/
inductive Flag
  | linkFault | headLoss | slip | ambient | lowYield | labelFault | retestEvict | traceLost
deriving DecidableEq, Repr

/-- The flag's position in R170's order. -/
def Flag.index : Flag → Nat
  | .linkFault => 0 | .headLoss => 1 | .slip => 2 | .ambient => 3
  | .lowYield => 4 | .labelFault => 5 | .retestEvict => 6 | .traceLost => 7

/-- Urgent flags (R170). -/
def Flag.urgent : Flag → Bool
  | .linkFault | .headLoss | .labelFault | .retestEvict => true
  | .slip | .ambient | .lowYield | .traceLost => false

/-- A word of eight bits with the flag's bit set. -/
def Flag.mask (f : Flag) : BitVec 8 := 1#8 <<< f.index

/-- NTC's action at a rising of an enabled flag (R171). -/
def State.notifyRising (s : State) (f : Flag) : State :=
  if f.urgent then (s.modNtc fun c => { c with nonUrgent := false }).askNotice
  else match s.ntc.timer with
    | none => (s.modNtc fun c => { c with timer := some 0 }).askNotice
    | some _ => s.modNtc fun c => { c with nonUrgent := true }

/-- A block sets a flag, whatever its present value; a flag that was clear has a rising (R170, R171). -/
def State.setFlag (s : State) (f : Flag) : State :=
  if s.ntc.flags.getLsbD f.index then s
  else
    let t := s.modNtc fun c => { c with flags := c.flags ||| f.mask }
    if s.ntc.enables.getLsbD f.index then t.notifyRising f else t

/-- The period timer expires (R171): with non-urgent pending it clears that, asks for a NOTICE and starts again from 0,
else it stops. A STOPPED timer does not expire. -/
def State.periodExpiry (s : State) : State :=
  match s.ntc.timer with
  | none => s
  | some _ =>
    if s.ntc.nonUrgent then (s.modNtc fun c => { c with nonUrgent := false, timer := some 0 }).askNotice
    else s.modNtc fun c => { c with timer := none }

/-- A link error is counted and LINK_FAULT is set, even when the counter is saturated (R17). -/
def State.linkError (s : State) : State :=
  (s.modLnk fun l => { l with linkErr := satInc l.linkErr }).setFlag .linkFault

/-- A message completes (R10). While the reply queue holds 4 replies it is discarded as an overrun, unless it is a
SOFT_RESET that passes the tests; else the first test that fails gives the reply; else the owner takes it. A command row
is taken in every head presence, where no command could arrive in LOST or WAITING (DESIGN CHOICE, log 33). -/
def State.complete (s : State) (k : Kind) (scope : BitVec 4) (tag : BitVec 8) (len : Nat) (checkOk : Bool)
    (take : State → State) : State :=
  if Config.replyCap ≤ s.lnk.replyQ.length &&
      !(k == .softReset && k.lengthOk len && checkOk && k.scopeOk scope) then
    s.countOverrun.setFlag .linkFault
  else if !k.lengthOk len then s.reply k scope tag .length []
  else if !checkOk then s.reply k scope tag .check []
  else if !k.scopeOk scope then s.reply k scope tag .range []
  else take s

/-- A message of a kind that is not in the table completes: UNKNOWN, or an overrun (R10, test 1). -/
def State.completeUnknown (s : State) (kind : BitVec 8) (scope : BitVec 4) (tag : BitVec 8) : State :=
  if Config.replyCap ≤ s.lnk.replyQ.length then s.countOverrun.setFlag .linkFault
  else s.queueReply (replyMsg scope tag (replyWord kind .unknown 0 0) [])

end Sys2Proof.Machine
end

