-- ==== Sys2Proof/Machine/Ambient.lean ====
section
/-! DEFINITION. AMB: the classification of a head frame (R100), the counting of it (R101), AMBIENT_CONFIG (R103), and
the two transitions as events of their own. -/

namespace Sys2Proof.Machine

/-- Hold H of a hold selector (R103). -/
def holdFrames : Nat → Nat
  | 0 => 1 | 1 => 4 | 2 => 16 | _ => 64

/-- The threshold amplitude: PEXP of the peak threshold code (R99). -/
def Ambient.threshold (a : Ambient) : Nat := pexp a.code

/-- A loud frame: the A sample is marked invalid, or its magnitude is at or above the threshold amplitude (R100's table).
At code 0 a valid sample of −8,388,607 has that magnitude and is loud, where R100's prose speaks of a sample at either
extreme of the range alone (DESIGN CHOICE, log 37). -/
def Ambient.loudFrame (a : Ambient) (c : Channel) : Bool := !c.valid || a.threshold ≤ magnitude c.sample

/-- The QUIET to LOUD transition: both counts 0, and AMBIENT set (R101). -/
def State.turnLoud (s : State) : State :=
  let t : State := { s with amb := { s.amb with loud := true, hold := 0, quiet := 0 } }
  t.setFlag .ambient

/-- The LOUD to QUIET transition: both counts 0, no flag (R101). -/
def State.turnQuiet (s : State) : State := { s with amb := { s.amb with loud := false, hold := 0, quiet := 0 } }

/-- A frame classified as loud or quiet is counted by R101's table. -/
def State.countFrame (s : State) (loudFrame : Bool) : State :=
  let a := s.amb
  match a.loud, loudFrame with
  | false, true =>
    if a.hold + 1 < holdFrames a.holdSel then { s with amb := { a with hold := a.hold + 1 } } else s.turnLoud
  | false, false => { s with amb := { a with hold := 0 } }
  | true, false =>
    if a.quiet + 1 < a.quietTime then { s with amb := { a with quiet := a.quiet + 1 } } else s.turnQuiet
  | true, true => { s with amb := { a with quiet := 0 } }

/-- AMB classifies and counts the A sample of a head frame (R100, R101). -/
def State.hearFrame (s : State) (c : Channel) : State := s.countFrame (s.amb.loudFrame c)

/-- The monitor stands still but in PRESENT: no head frame comes (R4, R99). -/
def State.hears (s : State) : Bool := s.lnk.presence == .present

/-- AMBIENT_LOUD: the H-th consecutive loud frame (R101). A LOUD monitor, or one that no head frame reaches, has no such
event (R99; log 3). -/
def execAmbientLoud (s : State) : Host.Outcome State Fault Refusal :=
  .next (if s.hears && !s.amb.loud then s.turnLoud else s)

/-- AMBIENT_QUIET: the Q-th consecutive quiet frame (R101). A QUIET monitor, or one that no head frame reaches, has no such
event (R99; log 3). -/
def execAmbientQuiet (s : State) : Host.Outcome State Fault Refusal :=
  .next (if s.hears && s.amb.loud then s.turnQuiet else s)

/-- AMB takes AMBIENT_CONFIG (R103). -/
def takeAmbientConfig (scope : BitVec 4) (tag : BitVec 8) (w : Word) (s : State) : State :=
  let q := bits w 16 16
  let code := sbits w 0 13
  if q == 0 || code < -4096 || 0 < code then s.reply .ambientConfig scope tag .range []
  else
    let t : State :=
      { s with amb := { s.amb with quietTime := q, holdSel := bits w 14 2, code := code, hold := 0, quiet := 0 } }
    t.reply .ambientConfig scope tag .ok []

/-- AMBIENT_CONFIG (R103). -/
def execAmbientConfig (scope : BitVec 4) (tag : BitVec 8) (w : Word) (s : State) : Host.Outcome State Fault Refusal :=
  .next (s.complete .ambientConfig scope tag 1 true (takeAmbientConfig scope tag w))

end Sys2Proof.Machine
end

