-- ==== Sys2Proof/Machine/Yield.lean ====
section
/-! DEFINITION. YLD: the reports that change a lot's counters (R160), final counts, rolling window and low-yield alarm
(R163, R165–R167), the lot report (R168), giving up retest entries and lot completion (R138, R164). -/

namespace Sys2Proof.Machine

/-- Verdict kinds (R130). -/
inductive VerdictKind
  | pass | fail | retest | aborted
deriving DecidableEq, Repr

/-- The slot whose lot has a lot id (R160: "named in the report by its lot id"; log 20). -/
def State.lotSlot (s : State) (id : Word) : Option SlotId :=
  allSlots.find? fun k => match s.lot k with
    | some l => l.id == id
    | none => false

/-- The thirteen class bits with a counter (R157). -/
def allClasses : List (Fin 13) := [0, 1, 2, 3, 4, 5, 6, 7, 8, 9, 10, 11, 12]

/-- Each class counter whose class is in the set rises by one (R163, step 1). -/
def countClasses (counters : Vector Nat 13) (set : ClassSet) : Vector Nat 13 :=
  allClasses.foldl (fun v (i : Fin 13) => if set.getLsbD i.val then v.set i (v[i] + 1) else v) counters

/-- The outcome joins the end of the rolling window; of 64 outcomes the oldest leaves first (R163, step 2). -/
def pushOutcome (window : List Bool) (pass : Bool) : List Bool :=
  (if Config.windowCap ≤ window.length then window.drop 1 else window) ++ [pass]

/-- PASS outcomes in the rolling window (R166). -/
def Lot.passes (l : Lot) : Nat := l.window.count true

/-- The rolling yield in per mille (R166). -/
def Lot.rollingYield (l : Lot) : Nat := perMille l.passes l.window.length

/-- The lot yield Y in per mille (R165). -/
def Lot.yield (l : Lot) : Nat := perMille l.passed (l.passed + l.failed)

/-- The low-yield alarm of a slot's lot is evaluated (R167). -/
def State.evaluateAlarm (s : State) (k : SlotId) : State :=
  match s.lot k with
  | none => s
  | some l =>
    let t := (s.slot k).tables.settingsRow.lowYield
    if l.tripped then
      if rearmLevel t ≤ l.rollingYield then s.modLot k fun x => { x with tripped := false } else s
    else if l.window.length == Config.windowCap && t != 0 && l.rollingYield < t then
      ((s.modLot k fun x => { x with tripped := true }).modNtc fun c =>
        { c with bitmap := c.bitmap ||| (1#8 <<< k.val) }).setFlag .lowYield
    else s

/-- A final count in a slot's lot (R163): class counters for a FAIL, rolling window, alarm. -/
def State.finalCount (s : State) (k : SlotId) (pass : Bool) (classes : ClassSet) : State :=
  (s.modLot k fun l =>
    { l with classes := if pass then l.classes else countClasses l.classes classes
             window := pushOutcome l.window pass }).evaluateAlarm k

/-- A counted START as a first attempt (R160). -/
def State.reportFirst (s : State) (k : SlotId) : State :=
  s.modLot k fun l => { l with started := l.started + 1, inFlight := l.inFlight + 1 }

/-- A counted START as a retest return (R160). -/
def State.reportReturn (s : State) (k : SlotId) : State :=
  s.modLot k fun l => { l with outstanding := l.outstanding - 1, inFlight := l.inFlight + 1 }

/-- The counter changes of a verdict (R160). -/
def Lot.countVerdict (l : Lot) : VerdictKind → Lot
  | .pass | .fail => { l with inFlight := l.inFlight - 1, awaiting := l.awaiting + 1 }
  | .retest => { l with inFlight := l.inFlight - 1, outstanding := l.outstanding + 1,
                        retests := min (l.retests + 1) Config.lotCounterMax }
  | .aborted => { l with inFlight := l.inFlight - 1, aborted := l.aborted + 1 }

/-- A counted verdict is reported for the lot with this id (R160). -/
def State.reportVerdict (s : State) (v : VerdictKind) (id : Word) : State :=
  match s.lotSlot id with
  | some k => s.modLot k fun l => l.countVerdict v
  | none => s

/-- The resolution of a label record is reported (R147, R160). A RETEST record has no yield effect. -/
def State.reportResolution (s : State) (r : Label) (marked : Bool) : State :=
  match r.kind, s.lotSlot r.lotId with
  | .retest, _ => s
  | _, none => s
  | .finalPass, some k =>
    if marked then
      (s.modLot k fun l => { l with awaiting := l.awaiting - 1, passed := l.passed + 1 }).finalCount k true 0
    else
      (s.modLot k fun l => { l with awaiting := l.awaiting - 1, failed := l.failed + 1 }).finalCount k false clsUnmarked
  | .finalFail, some k =>
    (s.modLot k fun l => { l with awaiting := l.awaiting - 1, failed := l.failed + 1 }).finalCount k false
      (if marked then r.classes else r.classes ||| clsUnmarked)

/-- A retest entry is given up: its own lot counts it final FAIL with its classes plus NO_RETURN (R160). -/
def State.reportGivenUp (s : State) (e : RetestEntry) : State :=
  match s.lotSlot e.lotId with
  | some k =>
    (s.modLot k fun l => { l with outstanding := l.outstanding - 1, failed := l.failed + 1 }).finalCount k false
      (e.classes ||| clsNoReturn)
  | none => s

/-- The lot report, 27 words (R168; R18, Event bodies). -/
def lotReport (k : SlotId) (l : Lot) (slotGen : BitVec 16) : List Word :=
  [l.id,
   put k.val 0 3 ||| flag l.closing 4 ||| flag l.summary.isSome 5 ||| flag l.tripped 6 ||| put l.window.length 8 7,
   put l.started 0 24, put l.inFlight 0 24, put l.awaiting 0 24, put l.outstanding 0 24,
   put l.passed 0 24, put l.failed 0 24, put l.aborted 0 24, put l.retests 0 24] ++
  allClasses.map (fun (i : Fin 13) => put l.classes[i] 0 24) ++
  [halves l.yield (packedDigits l.yield),
   halves l.rollingYield l.passes,
   halves l.genAtOpen.toNat slotGen.toNat,
   put l.commits 0 16]

/-- A CLOSING lot with summary waiting clear, in_flight and awaiting_mark at 0: it completes (R164). -/
def Lot.due (l : Lot) : Bool := l.closing && l.summary.isNone && l.inFlight == 0 && l.awaiting == 0

/-- The lot of the slot is due to complete. -/
def State.lotDue (s : State) (k : SlotId) : Bool :=
  match s.lot k with
  | some l => l.due
  | none => false

/-- Give up every retest entry of a lot, oldest first (R138). -/
def State.giveUpLot (s : State) (id : Word) : State :=
  let mine := s.retest.filter fun e => e.lotId == id
  mine.foldl State.reportGivenUp { s with retest := s.retest.filter fun e => e.lotId != id }

/-- A due lot completes (R164, steps 1 and 2): its entries are given up and its LOT_SUMMARY (kind 0x85) is built.
The offer of step 3 is made with the event's other offers (R14). -/
def State.completeLot (s : State) (k : SlotId) : State :=
  match s.lot k with
  | none => s
  | some l =>
    if l.due then
      let t := s.giveUpLot l.id
      t.modLot k fun x =>
        { x with summary := some ⟨0x85#8, BitVec.ofNat 4 k.val, lotReport k x (t.slot k).generation⟩ }
    else s

/-- At the end of an event every due lot completes, slot 0 to 7 (R164, R169; log 25). A swap that a run end of the same
event has released stands by then: the LOT_SUMMARY has the new generation and commit count, and the final counts of the
entries given up meet the new threshold (DESIGN CHOICE, log 39). -/
def State.completeLots (s : State) : State := allSlots.foldl State.completeLot s

end Sys2Proof.Machine
end

