-- ==== Sys2Proof/Machine/Events.lean ====
section
/-! DEFINITION. The offers made at one event (R13, R14): STEP_RESULT and VERDICT of each nest, REF_DONE of each slot,
LOT_SUMMARY of each lot, and the end of an event. NTC's requests are served when they are made (log 6). -/

namespace Sys2Proof.Machine

/-- The nest's STEP_RESULT is dropped and counted (R13). -/
def State.discardResult (s : State) (n : NestId) : State :=
  (s.modNest n fun x => { x with stepOut := none }).modLnk fun l => { l with traceLost := satInc l.traceLost }

/-- A STEP_RESULT offered at a window end is admitted when at least 6 places are free, else dropped with
TRACE_LOST (R13). -/
def State.offerStepResult (s : State) (n : NestId) : State :=
  match (s.nest n).stepOut with
  | none => s
  | some e =>
    if s.lnk.eventQ.length ≤ Config.traceRoom then (s.modNest n fun x => { x with stepOut := none }).admitEvent e
    else (s.discardResult n).setFlag .traceLost

/-- The nest's VERDICT is to be offered: the nest is REPORTING, its outbox is full, and its producer does not wait
already (R141). -/
def State.verdictReady (s : State) (n : NestId) : Bool :=
  (s.nest n).phase == .reporting && (s.nest n).verdictOut.isSome && !s.lnk.waitLine.contains (.vrd n)

/-- A REF_DONE is to be offered (R125). -/
def State.refDoneReady (s : State) (k : SlotId) : Bool :=
  (s.slot k).refDone.isSome && !s.lnk.waitLine.contains (.tbs k)

/-- A LOT_SUMMARY is to be offered (R164). -/
def State.summaryReady (s : State) (k : SlotId) : Bool :=
  ((s.lot k).bind (·.summary)).isSome && !s.lnk.waitLine.contains (.yld k)

def State.offerNest (s : State) (n : NestId) : State :=
  let t := s.offerStepResult n
  if t.verdictReady n then t.offer (.vrd n) else t

/-- The nest's offers as they fall on an event queue of `len` messages: the length after them, and the nest added to
`dropped` when its STEP_RESULT finds no room (R13, R14). -/
def State.walkNest (s : State) (p : Nat × List NestId) (n : NestId) : Nat × List NestId :=
  let lost := (s.nest n).stepOut.isSome && Config.traceRoom < p.1
  let len := if (s.nest n).stepOut.isSome && !lost then p.1 + 1 else p.1
  (if s.verdictReady n && s.lnk.waitLine.isEmpty && len < Config.eventCap then len + 1 else len,
   if lost then p.2 ++ [n] else p.2)

/-- The nests whose STEP_RESULTs will be dropped when the offers of the event are taken from here (R13, R14). -/
def State.lostResults (s : State) : List NestId := (allNests.foldl s.walkNest (s.lnk.eventQ.length, [])).2

/-- Where STEP_RESULTs of this event are dropped, they are counted and TRACE_LOST is set before the event's other offers, so
that NTC's offer stands first in R14's order (log 8). NTC's own message is counted when the drops are found. -/
def State.dropResults (s : State) : State :=
  if s.lostResults.isEmpty then s
  else ((s.setFlag .traceLost).lostResults.foldl State.discardResult s).setFlag .traceLost

def State.offerRefDone (s : State) (k : SlotId) : State :=
  if s.refDoneReady k then s.offer (.tbs k) else s

def State.offerSummary (s : State) (k : SlotId) : State :=
  if s.summaryReady k then s.offer (.yld k) else s

/-- The offers of one event in R14's order: NTC's for dropped STEP_RESULTs; VRD for nests 0–3, a nest's STEP_RESULT before
its VERDICT; TBS for slots 0–7; YLD for slots 0–7. -/
def State.makeOffers (s : State) : State :=
  let a := allNests.foldl State.offerNest s.dropResults
  let b := allSlots.foldl State.offerRefDone a
  allSlots.foldl State.offerSummary b

/-- The end of an event: due lots complete (R164), then the offers are made (R14). -/
def State.endEvent (s : State) : State := s.completeLots.makeOffers

end Sys2Proof.Machine
end

