-- ==== Sys2Proof/Machine/Lots.lean ====
section
/-! DEFINITION. YLD's commands: LOT_OPEN (R158), LOT_CLOSE (R159), LOT_QUERY (R168), and a lot's completion as an event
of its own (R164). -/

namespace Sys2Proof.Machine

/-- A lot as LOT_OPEN creates it (R158). -/
def Lot.opened (id : Word) (generation : BitVec 16) : Lot :=
  { id, closing := false, summary := none, genAtOpen := generation, commits := 0, started := 0, inFlight := 0,
    awaiting := 0, outstanding := 0, passed := 0, failed := 0, aborted := 0, retests := 0,
    classes := Vector.replicate 13 0, window := [], tripped := false }

/-- The first check of LOT_OPEN that fails (R158). -/
def lotOpenCheck (s : State) (k : SlotId) (id : Word) : ResultCode :=
  if (s.lot k).isSome then .busy
  else if !(s.slot k).loaded then .notReady
  else if (s.lotSlot id).isSome then .duplicate
  else .ok

/-- YLD takes LOT_OPEN (R158). -/
def takeLotOpen (scope : BitVec 4) (tag : BitVec 8) (id : Word) (s : State) : State :=
  let k := slotOf scope
  let code := lotOpenCheck s k id
  if code == .ok then
    let g := (s.slot k).generation
    (s.setLot k (some (Lot.opened id g))).reply .lotOpen scope tag .ok [put g.toNat 0 16]
  else s.reply .lotOpen scope tag code []

/-- LOT_OPEN (R158). -/
def execLotOpen (scope : BitVec 4) (tag : BitVec 8) (w : Word) (s : State) : Host.Outcome State Fault Refusal :=
  .next (s.complete .lotOpen scope tag 1 true (takeLotOpen scope tag w))

/-- YLD takes LOT_CLOSE (R159). Its completion comes at the end of the event (R164): of the row, or, where a head frame's
control word completes it, of the whole head frame (DESIGN CHOICE, log 42). -/
def takeLotClose (scope : BitVec 4) (tag : BitVec 8) (s : State) : State :=
  let k := slotOf scope
  match s.lot k with
  | none => s.reply .lotClose scope tag .noLot []
  | some l =>
    if l.closing then s.reply .lotClose scope tag .refused []
    else (s.setLot k (some { l with closing := true })).reply .lotClose scope tag .ok []

/-- LOT_CLOSE (R159). -/
def execLotClose (scope : BitVec 4) (tag : BitVec 8) (s : State) : Host.Outcome State Fault Refusal :=
  .next (s.complete .lotClose scope tag 0 true (takeLotClose scope tag)).endEvent

/-- YLD takes LOT_QUERY (R168). -/
def takeLotQuery (scope : BitVec 4) (tag : BitVec 8) (s : State) : State :=
  let k := slotOf scope
  match s.lot k with
  | none => s.reply .lotQuery scope tag .noLot []
  | some l => s.reply .lotQuery scope tag .ok (lotReport k l (s.slot k).generation)

/-- LOT_QUERY (R168). -/
def execLotQuery (scope : BitVec 4) (tag : BitVec 8) (s : State) : Host.Outcome State Fault Refusal :=
  .next (s.complete .lotQuery scope tag 0 true (takeLotQuery scope tag))

/-- LOT_COMPLETE (R164). A lot that is not due has no such event (log 3). -/
def execLotComplete (k : SlotId) (s : State) : Host.Outcome State Fault Refusal :=
  if s.lotDue k then .next (s.completeLot k).endEvent else .next s

end Sys2Proof.Machine
end

