-- ==== Sys2Proof/Machine/Judge.lean ====
section
/-! DEFINITION. Judging a step: the limits of a mask row compared with the measures (R109–R114) and the step's
outcome and classes (R115). -/

namespace Sys2Proof.Machine

/-- The result of one comparison (R112–R114). -/
inductive Verge
  | pass | marginal | fail
deriving DecidableEq, Repr

/-- A lower limit against its measure (R112). -/
def judgeLower (lo v : Level) (guard : Nat) : Verge :=
  if v == Config.noneLevel then .fail
  else if lo ≤ v then .pass
  else if lo - guard ≤ v then .marginal
  else .fail

/-- An upper limit against its measure (R113). -/
def judgeUpper (hi v : Level) (guard : Nat) : Verge :=
  if v == Config.noneLevel then .pass
  else if v == Config.topLevel then (if hi < Config.topLevel then .fail else .pass)
  else if v ≤ hi then .pass
  else if v ≤ hi + guard then .marginal
  else .fail

/-- A polarity expectation (1 POS, 2 NEG, 3 ANY) against the polarity (R114). -/
def judgePolarity (expectation : Nat) (p : Polarity) : Verge :=
  match expectation, p with
  | 1, .pos => .pass
  | 2, .neg => .pass
  | 3, _ => .pass
  | _, _ => .fail

/-- A fundamental limit as judged: an ABS limit is its field; a REL limit is the reference value plus the offset,
clamped (R111), and is not judged without a reference (R110). -/
def effectiveLimit (field : Option Level) (rel : Bool) (reference : Option Level) : Option Level :=
  match field with
  | none => none
  | some x => if rel then reference.map fun r => clampLevel (r + x) else some x

/-- One judged limit: its class and its result. -/
structure Judged where
  cls    : ClassSet
  result : Verge
deriving DecidableEq, Repr

/-- A limit that is present gives one judged result. -/
def judgeLimit (limit : Option Level) (cls : ClassSet) (compare : Level → Verge) : List Judged :=
  match limit with
  | some x => [⟨cls, compare x⟩]
  | none => []

/-- Every judged limit of a row (R109, R110). `reference` is the reference value of the step when REL limits are judged. -/
def Mask.judge (m : Mask) (x : Measures) (kind : StepKind) (reference : Option Level) : List Judged :=
  judgeLimit (effectiveLimit m.lower m.lowerRel reference) clsLow (fun lo => judgeLower lo x.lfc m.guard) ++
  judgeLimit (effectiveLimit m.upper m.upperRel reference) clsHigh (fun hi => judgeUpper hi x.lfc m.guard) ++
  judgeLimit m.thd clsThd (fun hi => judgeUpper hi x.lthd m.guard) ++
  judgeLimit m.rb clsRb (fun hi => judgeUpper hi x.lrb m.guard) ++
  judgeLimit m.crest clsCrest (fun hi => judgeUpper hi x.lcr m.guard) ++
  judgeLimit m.impLower clsImpLow (fun lo => judgeLower lo x.lz m.guard) ++
  judgeLimit m.impUpper clsImpHigh (fun hi => judgeUpper hi x.lz m.guard) ++
  judgeLimit m.noise clsNoise (fun hi => judgeUpper hi x.ln m.guard) ++
  (if m.polarity != 0 && kind == .pulse then [⟨clsPolarity, judgePolarity m.polarity x.polarity⟩] else [])

/-- Step outcomes as STEP_RESULT carries them (R98, R115). -/
inductive StepOutcome
  | pass | marginal | fail | notJudged | disturbed | contact
deriving DecidableEq, Repr

/-- The value of a step outcome (R18, Event bodies). -/
def StepOutcome.value : StepOutcome → Nat
  | .pass => 0 | .marginal => 1 | .fail => 2 | .notJudged => 3 | .disturbed => 4 | .contact => 5

/-- The classes of the judged limits with a result (R115). -/
def classesWith (js : List Judged) (v : Verge) : ClassSet :=
  (js.filter fun j => j.result == v).foldl (fun acc j => acc ||| j.cls) 0

/-- What judging a step gives (R115): outcome, failed classes, marginal classes. -/
structure Judgement where
  outcome  : StepOutcome
  failed   : ClassSet
  marginal : ClassSet
deriving DecidableEq, Repr

/-- The outcome of a step from its judged limits (R115). -/
def judgementOf (js : List Judged) : Judgement :=
  { outcome :=
      if js.any fun j => j.result == .fail then .fail
      else if js.any fun j => j.result == .marginal then .marginal
      else .pass
    failed := classesWith js .fail
    marginal := classesWith js .marginal }

/-- The judgement of a step: NOT_JUDGED without a row (R110, R115). -/
def judgeStep (row : Option Mask) (x : Measures) (kind : StepKind) (reference : Option Level) : Judgement :=
  match row with
  | none => { outcome := .notJudged, failed := 0, marginal := 0 }
  | some m => judgementOf (m.judge x kind reference)

/-- The run record after a judged step (R115): the sets grow, and the first step judged FAIL is kept. -/
def Run.enter (r : Run) (step : Nat) (j : Judgement) : Run :=
  { r with failSet := r.failSet ||| j.failed
           marginalSet := r.marginalSet ||| j.marginal
           firstFail := if j.outcome == .fail && r.firstFail == 255 then step else r.firstFail }

end Sys2Proof.Machine
end

