-- ==== Sys2Proof/Machine/Marking.lean ====
section
/-! DEFINITION. MRK: the marking port's outputs (R143), the label list and its resolutions (R146–R148), the request
handshake (R149, R150), results (R151–R153), timeouts (R154, R155), MARK_CONFIG (R145). -/

namespace Sys2Proof.Machine

/-- The issued record of the label list (R146: at most one). -/
def Marking.issued (m : Marking) : Option Label := m.records.find? (·.issued)

/-- Output ACK (R143). -/
def Marking.ack (m : Marking) : Bool := m.port != .idle
/-- Output EMPTY (R143). -/
def Marking.empty (m : Marking) : Bool := m.port == .noLabel
/-- Output CODE: the issued record's label code, 0 while none is issued (R143). -/
def Marking.codeOut (m : Marking) : BitVec 8 := match m.issued with
  | some r => r.code
  | none => 0
/-- Output BIN (R143). -/
def Marking.binOut (m : Marking) : BitVec 4 := match m.issued with
  | some r => r.bin
  | none => 0

/-- The record at a position of the label list is resolved (R147): it leaves the list, its yield effect is reported,
and an UNMARKED resolution sets LABEL_FAULT unless its cause is RESET (`fault` false). -/
def State.resolveLabel (s : State) (i : Nat) (marked fault : Bool) : State :=
  match s.mrk.records[i]? with
  | none => s
  | some r =>
    let t := (s.modMrk fun m => { m with records := m.records.eraseIdx i }).reportResolution r marked
    if fault && !marked then t.setFlag .labelFault else t

/-- The ISSUED record, where there is one, is resolved. -/
def State.resolveIssued (s : State) (marked : Bool) : State :=
  match s.mrk.records.findIdx? (·.issued) with
  | some i => s.resolveLabel i marked true
  | none => s

/-- A full list first displaces its oldest QUEUED record (R148). -/
def State.makeRoom (s : State) : State :=
  if Config.labelCap ≤ s.mrk.records.length then
    match s.mrk.records.findIdx? (fun r => !r.issued) with
    | some i => s.resolveLabel i false true
    | none => s
  else s

/-- A new label record joins the list, QUEUED with age 0 (R148). -/
def State.createLabel (s : State) (r : Label) : State :=
  s.makeRoom.modMrk fun m => { m with records := m.records ++ [{ r with issued := false, age := 0 }] }

/-- The record at a position becomes ISSUED and its age restarts (R149, step 2). -/
def issueAt (records : List Label) (i : Nat) : List Label :=
  records.modify i fun r => { r with issued := true, age := 0 }

/-- Steps 2 and 3 of R149: issue the nest's oldest QUEUED record, or answer that there is none. -/
def State.answerRequest (s : State) (n : NestId) : State :=
  match s.mrk.records.findIdx? (fun r => !r.issued && r.nest == n) with
  | some i => s.modMrk fun m => { m with records := issueAt m.records i, port := .issue }
  | none => s.modMrk fun m => { m with port := .noLabel }

/-- A REQ rising with the debounced NEST value n (R149). -/
def State.requestRising (s : State) (n : NestId) : State := (s.resolveIssued false).answerRequest n

/-- A REQ falling (R150). -/
def State.requestFalling (s : State) : State := s.modMrk fun m => { m with port := .idle }

/-- A stray result: the stray count rises and LABEL_FAULT is set (R153). -/
def State.strayResult (s : State) : State :=
  (s.modMrk fun m => { m with stray := satInc m.stray }).setFlag .labelFault

/-- A MARKED rising (R151, R153). -/
def State.markedRising (s : State) : State :=
  if s.mrk.issued.isSome then s.resolveIssued true else s.strayResult

/-- A JAM rising (R152, R153). -/
def State.jamRising (s : State) : State :=
  if s.mrk.issued.isSome then s.resolveIssued false else s.strayResult

/-- The debounced NEST value (R144). -/
def Marking.nestValue (m : Marking) : NestId :=
  ⟨m.nestLo.stable.toNat + 2 * m.nestHi.stable.toNat, by
    cases m.nestLo.stable <;> cases m.nestHi.stable <;> decide⟩

/-- The debounced level of an input has become `b`: the line stands there and its count is 0 (R144; log 10). -/
def Debounce.settled (b : Bool) : Debounce := { line := b, stable := b, count := 0 }

/-- A result line after its rising has been taken: the level is high, and the pulse has left the line, so that the debounced
level falls with the samples that follow, and with code 0 at once (R144; log 10). -/
def Debounce.pulsed (code : Nat) : Debounce := { line := false, stable := code != 0, count := 0 }

/-- REQ_RISING (R149). The event sets the REQ and NEST lines to the levels it reports (log 10). With REQ high already it is
a rising all the same (DESIGN CHOICE, log 36). -/
def execReqRising (n : NestId) (s : State) : Host.Outcome State Fault Refusal :=
  let t := s.modMrk fun m =>
    { m with req := .settled true, nestLo := .settled (n.val % 2 == 1), nestHi := .settled (2 ≤ n.val) }
  .next (t.requestRising n).endEvent

/-- REQ_FALLING (R150). -/
def execReqFalling (s : State) : Host.Outcome State Fault Refusal :=
  .next ((s.modMrk fun m => { m with req := .settled false }).requestFalling)

/-- MARKED_RESULT (R151, R153). -/
def execMarkedResult (s : State) : Host.Outcome State Fault Refusal :=
  .next ((s.modMrk fun m => { m with marked := .pulsed m.code }).markedRising).endEvent

/-- JAM_RESULT (R152, R153). -/
def execJamResult (s : State) : Host.Outcome State Fault Refusal :=
  .next ((s.modMrk fun m => { m with jam := .pulsed m.code }).jamRising).endEvent

/-- ISSUE_TIMEOUT: the ISSUED record has stayed so for T_mark and is resolved UNMARKED, TIMEOUT (R154).
With no record ISSUED there is no such event (log 3). -/
def execIssueTimeout (s : State) : Host.Outcome State Fault Refusal := .next (s.resolveIssued false).endEvent

/-- The record at a position expires, when it is QUEUED (R155). -/
def State.expireLabel (s : State) (i : Nat) : State :=
  match s.mrk.records[i]? with
  | some r => if r.issued then s else s.resolveLabel i false true
  | none => s

/-- QUEUE_EXPIRY: the QUEUED record at a position has stayed so for T_queue and is resolved UNMARKED, EXPIRED (R155). -/
def execQueueExpiry (i : Fin 8) (s : State) : Host.Outcome State Fault Refusal := .next (s.expireLabel i.val).endEvent

/-! ### MARK_CONFIG (R145) -/

/-- The count of an input restarts; its debounced level stays (R145). -/
def Debounce.restart (d : Debounce) : Debounce := { d with count := 0 }

/-- Records QUEUED for a nest. -/
def Marking.queuedFor (m : Marking) (n : NestId) : Nat := (m.records.filter fun r => !r.issued && r.nest == n).length

/-- The value of a record kind in the MARK_CONFIG reply (R18). -/
def LabelKind.value : LabelKind → Nat
  | .finalPass => 0 | .finalFail => 1 | .retest => 2

/-- The value of a port answer in the MARK_CONFIG reply (R18). -/
def PortAnswer.value : PortAnswer → Nat
  | .idle => 0 | .issue => 1 | .noLabel => 2

/-- The marking state that the MARK_CONFIG reply carries (R145; R18, Reply data). With no record ISSUED its nest and kind,
bits 10:7 of the second of these words, are sent as 0 (DESIGN CHOICE, log 38). -/
def Marking.report (m : Marking) : List Word :=
  [put m.code 20 2 ||| put m.tMark 10 10 ||| put m.tQueue 0 10,
   put m.records.length 28 4 ||| put (m.queuedFor 0) 24 4 ||| put (m.queuedFor 1) 20 4 |||
     put (m.queuedFor 2) 16 4 ||| put (m.queuedFor 3) 12 4 |||
     (match m.issued with
      | some r => flag true 11 ||| put r.nest.val 9 2 ||| put r.kind.value 7 2
      | none => 0#32) |||
     put m.port.value 5 2 ||| flag m.req.stable 4 ||| flag m.marked.stable 3 ||| flag m.jam.stable 2,
   put m.stray 0 16]

/-- The three values are replaced; a new debounce code restarts the count of every input (R145; log 22). -/
def Marking.configure (m : Marking) (code tMark tQueue : Nat) : Marking :=
  let c := { m with code := code, tMark := tMark, tQueue := tQueue }
  if code == m.code then c
  else { c with req := m.req.restart, marked := m.marked.restart, jam := m.jam.restart,
                nestLo := m.nestLo.restart, nestHi := m.nestHi.restart }

/-- MRK takes MARK_CONFIG (R145). -/
def takeMarkConfig (scope : BitVec 4) (tag : BitVec 8) (w : Word) (s : State) : State :=
  let tMark := bits w 10 10
  let tQueue := bits w 0 10
  if 1 ≤ tMark && tMark ≤ 1000 && 1 ≤ tQueue && tQueue ≤ 600 then
    let t := s.modMrk fun m => m.configure (bits w 20 2) tMark tQueue
    t.reply .markConfig scope tag .ok t.mrk.report
  else s.reply .markConfig scope tag .range []

/-- MARK_CONFIG (R145). -/
def execMarkConfig (scope : BitVec 4) (tag : BitVec 8) (w : Word) (s : State) : Host.Outcome State Fault Refusal :=
  .next (s.complete .markConfig scope tag 1 true (takeMarkConfig scope tag w))

/-! ### The tick and the soft reset -/

/-- One tick for every record's age (R146). -/
def Marking.ageRecords (m : Marking) : Marking :=
  { m with records := m.records.map fun r => { r with age := r.age + 1 } }

/-- The record's age has reached the limit in force: T_mark while ISSUED, T_queue while QUEUED (R154, R155). -/
def Marking.overdue (m : Marking) (r : Label) : Bool :=
  if r.issued then m.tMark * Config.ticksPerMs ≤ r.age else m.tQueue * 1000 ≤ r.age

/-- The records whose age has reached its limit are resolved UNMARKED, oldest first; at most `fuel` of them. -/
def State.resolveOverdue : Nat → State → State
  | 0, s => s
  | fuel + 1, s =>
    match s.mrk.records.findIdx? s.mrk.overdue with
    | some i => State.resolveOverdue fuel (s.resolveLabel i false true)
    | none => s

/-- MRK's part of a tick: ages advance, then overdue records are resolved (R146, R154, R155). -/
def State.tickLabels (s : State) : State :=
  let t := s.modMrk Marking.ageRecords
  t.resolveOverdue t.mrk.records.length

/-- Every record is resolved UNMARKED with cause RESET, oldest first; at most `fuel` of them (R156). -/
def State.resetLabels : Nat → State → State
  | 0, s => s
  | fuel + 1, s => State.resetLabels fuel (s.resolveLabel 0 false false)

/-- A debounced input at a soft reset: low with its count at 0; its line keeps its level (R156). -/
def Debounce.reset (d : Debounce) : Debounce := .low d.line

/-- MRK's action at a soft reset (R156). -/
def State.softResetMarking (s : State) : State :=
  (s.resetLabels s.mrk.records.length).modMrk fun m =>
    { m with port := .idle, stray := 0, req := m.req.reset, marked := m.marked.reset, jam := m.jam.reset,
             nestLo := m.nestLo.reset, nestHi := m.nestHi.reset }

end Sys2Proof.Machine
end

