-- ==== Sys2Proof/Machine/Reference.lean ====
section
/-! DEFINITION. TBS: reference curves and captures (R116–R126), the swap (R30, R32, R33), a slot's occupancy (R19, R63),
protection's test (R37). -/

namespace Sys2Proof.Machine

/-- A slot is protected at this moment (R37). -/
def Protection.protects (p : Protection) (k : SlotId) : Bool :=
  p.allProtected ||
    !(if p.invert then k.val < p.lower || p.upper < k.val else p.lower ≤ k.val && k.val ≤ p.upper)

/-! ### REF_DONE (R125) -/

/-- Why a capture ended (R125). -/
inductive RefOutcome
  | promoted | command | planSwap | softReset
deriving DecidableEq, Repr

/-- The cause field of a REF_DONE (R125). -/
def RefOutcome.cause : RefOutcome → Nat
  | .promoted => 0 | .command => 1 | .planSwap => 2 | .softReset => 3

/-- Levels two to a word, the first in the high half; an odd count leaves the last low half zero (R125). -/
def packLevels : List Level → List Word
  | [] => []
  | [a] => [levels a 0]
  | a :: b :: rest => levels a b :: packLevels rest

/-- A REF_DONE (kind 0x86) built from the slot as it stands (R125; R18, Event bodies). -/
def refDoneEvent (k : SlotId) (x : Slot) (o : RefOutcome) (target count : Nat) : Event :=
  { kind := 0x86#8
    scope := BitVec.ofNat 4 k.val
    body :=
      [flag (o != .promoted) 31 ||| put o.cause 28 2 ||| put target 24 4 ||| put count 16 4 |||
         put x.tables.refCount 0 8,
       halves x.refGen.toNat x.generation.toNat] ++
      (if o == .promoted then packLevels ((x.reference.getD []).take 120) else []) }

/-- TBS puts a REF_DONE into the slot's outbox; it is offered with the event's other offers (R125, R14). -/
def State.produceRefDone (s : State) (k : SlotId) (o : RefOutcome) (target count : Nat) : State :=
  s.modSlot k fun x => { x with refDone := some (refDoneEvent k x o target count) }

/-! ### Capture (R117–R123) -/

/-- Capture bound is cleared in a nest's ARMED or RUNNING golden run on the slot (R118). -/
def Nest.clearBound (k : SlotId) (x : Nest) : Nest :=
  if x.phase.active && x.run.kind == .golden && x.run.slot == k then { x with run := { x.run with bound := false } }
  else x

/-- Capture bound is cleared in every ARMED or RUNNING golden run of the slot (R118). -/
def State.clearBounds (s : State) (k : SlotId) : State := allNests.foldl (fun t n => t.modNest n (Nest.clearBound k)) s

/-- A capture that is CAPTURING or PENDING is cancelled, with its REF_DONE (R123, R124, R126). -/
def State.cancelCapture (s : State) (k : SlotId) (o : RefOutcome) : State :=
  match (s.slot k).capture with
  | .idle => s
  | .capturing n c _ | .pending n c _ =>
    ((s.modSlot k fun x => { x with capture := .idle }).clearBounds k).produceRefDone k o n c

/-- The pending value of a sum: its mean over N, a half rounded toward plus infinity (R121). -/
def pendingValue (target : Nat) (sum : Int) : Level := (2 * sum + target) / (2 * target)

/-- A golden run whose every value is a number adds them to the sums (R120); at k = N the capture completes (R121). -/
def State.addToCapture (s : State) (k : SlotId) (values : List Level) : State :=
  match (s.slot k).capture with
  | .capturing n c sums =>
    let sums' := List.zipWith (· + ·) sums values
    if c + 1 < n then s.modSlot k fun x => { x with capture := .capturing n (c + 1) sums' }
    else
      (s.modSlot k fun x => { x with capture := .pending n (c + 1) (sums'.map (pendingValue n)) }).clearBounds k
  | _ => s

/-- The golden values, when every entry has been written with a number (R120, condition 4). -/
def fullValues (entries : List (Option Level)) : Option (List Level) :=
  if entries.all fun e => match e with
      | some v => v != Config.noneLevel
      | none => false
  then some (entries.map (·.getD 0)) else none

/-- A golden run is offered to the capture of its slot at its run end (R120). -/
def State.offerCapture (s : State) (r : Run) : State :=
  if r.kind == .golden && r.bound && r.endCause == .completed && r.failSet == 0 then
    match fullValues r.goldenValues with
    | some vs => s.addToCapture r.slot vs
    | none => s
  else s

/-- When occupancy is 0, a PENDING capture is promoted (R122). -/
def State.promote (s : State) (k : SlotId) : State :=
  match (s.slot k).capture with
  | .pending n c values =>
    if (s.slot k).occupancy == 0 then
      (s.modSlot k fun x =>
        { x with reference := some values, refGen := x.refGen + 1, capture := .idle }).produceRefDone k .promoted n c
    else s
  | _ => s

/-! ### Swap (R30) -/

/-- Steps 1 to 3 of R30 on the slot, and the emptying of the reference by step 5. -/
def Slot.install (x : Slot) (e : Session) : Slot :=
  { x with tables := e.tables, generation := x.generation + 1, loaded := true,
           reference := if e.planTouched then none else x.reference }

/-- The slot's session is swapped in (R30). -/
def State.swap (s : State) (k : SlotId) : State :=
  match s.sessionBuffer k with
  | none => s
  | some b =>
    match s.buffer b with
    | none => s
    | some e =>
      let t := (s.modSlot k fun x => x.install e).setBuffer b none
      let u := if e.planTouched then t.cancelCapture k .planSwap else t
      u.modLot k fun l => { l with commits := satInc l.commits }

/-- When occupancy is 0, a pending commit is swapped in (R32). -/
def State.deferredSwap (s : State) (k : SlotId) : State :=
  if s.commitPending k && (s.slot k).occupancy == 0 then s.swap k else s

/-- When a slot's occupancy falls to 0 TBS makes the swap first, then the promotion (R33). -/
def State.releaseSlot (s : State) (k : SlotId) : State := (s.deferredSwap k).promote k

/-- A nest joins the slot's occupancy (R19, R67). -/
def State.occupy (s : State) (k : SlotId) : State := s.modSlot k fun x => { x with occupancy := x.occupancy + 1 }

/-- A nest leaves ARMED or RUNNING: occupancy falls, and what waits on 0 is made (R19, R32, R33, R122). -/
def State.depart (s : State) (k : SlotId) : State :=
  (s.modSlot k fun x => { x with occupancy := x.occupancy - 1 }).releaseSlot k

/-- A pending commit waits on the slot and its occupancy is 0 (R32). -/
def State.swapDue (s : State) (k : SlotId) : Bool := s.commitPending k && (s.slot k).occupancy == 0

/-- DEFERRED_SWAP (R32): the swap, and a promotion that waits with it next, before any further command (R33).
Without a pending commit at occupancy 0 there is no such event (log 3). -/
def execDeferredSwap (k : SlotId) (s : State) : Host.Outcome State Fault Refusal :=
  if s.swapDue k then .next (s.releaseSlot k).endEvent else .next s

/-- PROMOTION (R122): where a commit is pending too, R33 has the swap made first. -/
def execPromotion (k : SlotId) (s : State) : Host.Outcome State Fault Refusal := .next (s.releaseSlot k).endEvent

/-! ### REF_BEGIN, REF_CANCEL (R117, R123) -/

/-- The capture is PENDING: a promotion is pending (R116). -/
def Slot.promotionPending (x : Slot) : Bool := match x.capture with
  | .pending _ _ _ => true
  | _ => false

/-- The capture is CAPTURING (R116). -/
def Slot.isCapturing (x : Slot) : Bool := match x.capture with
  | .capturing _ _ _ => true
  | _ => false

/-- The first check of REF_BEGIN that fails (R117). -/
def refBeginCheck (s : State) (k : SlotId) (n : Nat) : ResultCode :=
  let x := s.slot k
  if s.prot.protects k then .locked
  else if !x.loaded then .notReady
  else if s.commitPending k || x.promotionPending then .held
  else if x.isCapturing || x.refDone.isSome then .busy
  else if n < 1 || 8 < n then .range
  else .ok

/-- TBS takes REF_BEGIN (R117). -/
def takeRefBegin (scope : BitVec 4) (tag : BitVec 8) (w : Word) (s : State) : State :=
  let k := slotOf scope
  let n := bits w 0 8
  let code := refBeginCheck s k n
  if code == .ok then
    let x := s.slot k
    let c := x.tables.refCount
    (s.modSlot k fun x => { x with capture := .capturing n 0 (List.replicate c 0) }).reply .refBegin scope tag .ok
      [put c 24 8 ||| flag x.reference.isSome 16 ||| put x.refGen.toNat 0 16]
  else s.reply .refBegin scope tag code []

/-- REF_BEGIN (R117). -/
def execRefBegin (scope : BitVec 4) (tag : BitVec 8) (w : Word) (s : State) : Host.Outcome State Fault Refusal :=
  .next (s.complete .refBegin scope tag 1 true (takeRefBegin scope tag w))

/-- TBS takes REF_CANCEL (R123). -/
def takeRefCancel (scope : BitVec 4) (tag : BitVec 8) (s : State) : State :=
  let k := slotOf scope
  if (s.slot k).capture == .idle then s.reply .refCancel scope tag .refused []
  else (s.cancelCapture k .command).reply .refCancel scope tag .ok []

/-- REF_CANCEL (R123). -/
def execRefCancel (scope : BitVec 4) (tag : BitVec 8) (s : State) : Host.Outcome State Fault Refusal :=
  .next (s.complete .refCancel scope tag 0 true (takeRefCancel scope tag)).endEvent

end Sys2Proof.Machine
end

