-- ==== Sys2Proof/Machine/Sweep.lean ====
section
/-! DEFINITION. The sweep engine (R42–R59): what it sounds in a frame, how it moves on, how a dwell and a run begin and
end in it. Functions of an engine, the tables of its run's slot and the nest's trim. -/

namespace Sys2Proof.Machine

/-- The tables of the slot a nest's run is bound to (R20). -/
def State.runTables (s : State) (n : NestId) : Tables := (s.slot (s.nest n).run.slot).tables

/-- The settings of the slot a nest's run is bound to (R21). -/
def State.runSettings (s : State) (n : NestId) : Settings := (s.runTables n).settingsRow

/-- The step record of the engine's step. -/
def Engine.stepRec (e : Engine) (t : Tables) : Step := t.step e.step

/-- The preceding dwell was a TONE dwell (R46): for a retry the step's own, else that of the step before. -/
def Engine.afterTone (e : Engine) (t : Tables) : Bool :=
  if 0 < e.retry then (t.step e.step).kind == .tone
  else e.step != 0 && (t.step (e.step - 1)).kind == .tone

/-- The engine enters frame k = 0 of a dwell of its step: phase, increment, Aeff and lobe (R44, R46, R48, R52, R56). -/
def Engine.enterDwell (e : Engine) (t : Tables) (trim : Nat) : Engine :=
  let st := e.stepRec t
  { e with
    mode := .step
    acc := if st.kind == .tone && e.afterTone t then e.acc else 0
    inc := BitVec.ofNat 32 (increment st.freq)
    aeff := stepAmplitude st.level trim
    k := 0
    held := false
    lobe := if st.kind == .pulse then .isOpen else .ended }

/-- The nest becomes RUNNING: step 0, k = 0, counts 0, phase 0 (R55); no frame of the run has been played. The fade frame
becomes 0 (DESIGN CHOICE, log 32). -/
def Engine.startRun (e : Engine) (t : Tables) (trim : Nat) : Engine :=
  { e with step := 0, retry := 0, ext := 0, fade := 0, last := .quiet }.enterDwell t trim

/-- The gain of a TONE dwell frame (R49). -/
def Engine.toneGain (e : Engine) (t : Tables) : Nat :=
  if e.afterTone t then 256 else fadeInGain e.k t.settingsRow.fade

/-- The drive sample of the engine frame (R43, steps 1 and 2; R48–R53). -/
def Engine.drive (e : Engine) (t : Tables) : Int :=
  match e.mode with
  | .silent => 0
  | .step =>
    match (e.stepRec t).kind with
    | .tone => drivenSample e.aeff e.acc (e.toneGain t)
    | .pulse => if e.lobe == .isOpen && e.acc.toNat < 2 ^ 31 then drivenSample e.aeff e.acc 256 else 0
    | .gap | .reserved => 0
  | .stepFade | .endFade => drivenSample e.aeff e.acc (fadeOutGain e.fade e.fadeLen)

/-- The engine after it has sounded a frame: the lobe's end (R52) and the accumulator's advance (R43, step 4). A STEP frame
is one of the present dwell. -/
def Engine.advance (e : Engine) (t : Tables) : Engine :=
  match e.mode with
  | .silent => e
  | .step =>
    let lobeOver := (e.stepRec t).kind == .pulse && e.lobe == .isOpen && 2 ^ 31 ≤ e.acc.toNat
    { e with acc := e.acc + e.inc, lobe := if lobeOver then .ended else e.lobe, last := .here }
  | .stepFade | .endFade => { e with acc := e.acc + e.inc }

/-- The position of the next dwell (R72): a retry of the same step, or the next step. -/
def Engine.nextPosition (e : Engine) (retryMarked : Bool) : Engine :=
  if retryMarked then { e with retry := e.retry + 1, ext := 0, k := 0, held := false }
  else { e with step := e.step + 1, retry := 0, ext := 0, k := 0, held := false }

/-- The dwell that has ended, as a run end before the next frame asks for it (R50, R58). -/
def Engine.dwellPlayed (e : Engine) (t : Tables) : LastFrame :=
  if (e.stepRec t).kind == .tone then .tone e.inc e.aeff else .quiet

/-- The engine passes from a dwell that has ended to the next (R50, R56): STEP_FADE frames between a TONE and a
PULSE or GAP when Rf is above 0, else frame k = 0 of the next dwell. -/
def Engine.nextDwell (e : Engine) (t : Tables) (trim : Nat) (retryMarked : Bool) : Engine :=
  let e' := e.nextPosition retryMarked
  let rf := t.settingsRow.fade
  if (e.stepRec t).kind == .tone && (e'.stepRec t).kind != .tone && 0 < rf then
    { e' with mode := .stepFade, fade := 0, fadeLen := rf }
  else { e' with last := e.dwellPlayed t }.enterDwell t trim

/-- SILENT at once, the lobe ended (R58, R59). -/
def Engine.silence (e : Engine) : Engine := { e with mode := .silent, lobe := .ended }

/-- A tone that sounded in the last frame played fades out over rf frames; with rf = 0 it is silent at once (R50). -/
def Engine.fadeTone (e : Engine) (rf : Nat) : Engine :=
  if 0 < rf then { e with mode := .endFade, fade := 0, fadeLen := rf } else e.silence

/-- The engine at a run end (R58), by the last frame it played: a tone fades out at the increment and Aeff of its dwell, a
STEP_FADE goes on as END_FADE, everything else is silent at once. SILENT after it means that the end of the fade is
reported at once. -/
def Engine.endRun (e : Engine) (t : Tables) : Engine :=
  let rf := t.settingsRow.fade
  match e.mode with
  | .step =>
    match e.last with
    | .here => if (e.stepRec t).kind == .tone then e.fadeTone rf else e.silence
    | .quiet => e.silence
    | .tone inc aeff => { e with inc := inc, aeff := aeff }.fadeTone rf
  | .stepFade => { e with mode := .endFade }
  | .endFade => e
  | .silent => e

end Sys2Proof.Machine
end

