-- ==== Sys2Proof/Machine/Verdict.lean ====
section
/-! DEFINITION. VRD at a run end: the verdict (R128, R130), its grade (R132, R133), the retest list (R135–R139), the
VERDICT message (R140), the steps of a run end in their order (R73, R134), and the return to IDLE (R75, R141). -/

namespace Sys2Proof.Machine

/-! ### Verdict and grade -/

/-- The retest classes of a run (R128). -/
def Run.retestClasses (r : Run) : ClassSet :=
  r.marginalSet ||| (if r.contact then clsContact else 0) ||| (if r.disturbed then clsDisturbed else 0)

/-- Verdict kind and class set of a run under a retest limit, by R130's order. -/
def Run.verdict (r : Run) (limit : Nat) : VerdictKind × ClassSet :=
  match r.endCause with
  | .aborted _ => (.aborted, 0)
  | .isOpen | .completed | .contactCheck | .seatLoss | .seatTimeout | .disturbed =>
    if r.failSet != 0 then (.fail, r.failSet)
    else if r.retestClasses != 0 then
      if r.attempt ≤ limit then (.retest, r.retestClasses) else (.fail, r.retestClasses)
    else (.pass, 0)

/-- The label a FAIL takes: that of the first grading entry that shares a class with the set, else the default reject
label (R132). -/
def Tables.failLabel (t : Tables) (classes : ClassSet) : LabelField :=
  match (t.grading.map gradeOf).find? fun g => (g.classes &&& classes) != 0 with
  | some g => g.label
  | none => t.settingsRow.rejectLabel

/-- The grade of a verdict: label code and bin (R132); code 0 and bin 0 for golden and bench runs (R133). -/
def Tables.grade (t : Tables) (kind : RunKind) (v : VerdictKind) (classes : ClassSet) : LabelField :=
  if kind != .counted then ⟨0, 0⟩
  else match v with
    | .pass => t.settingsRow.passLabel
    | .retest => t.settingsRow.retestLabel
    | .fail => t.failLabel classes
    | .aborted => ⟨0, 0⟩

/-! ### Retest list (R135–R138) -/

/-- The entry of a serial (R135: at most one). -/
def State.retestEntry (s : State) (serial : BitVec 48) : Option RetestEntry :=
  s.retest.find? fun e => e.serial == serial

/-- The list without a serial's entry; the others keep their order (R136). -/
def State.dropRetest (s : State) (serial : BitVec 48) : State :=
  { s with retest := s.retest.filter fun e => e.serial != serial }

/-- A full retest list gives up its oldest entry and sets RETEST_EVICT (R137, steps 1 to 3). -/
def State.evictRetest (s : State) : State :=
  if Config.retestCap ≤ s.retest.length then
    match s.retest with
    | e :: rest => (State.reportGivenUp { s with retest := rest } e).setFlag .retestEvict
    | [] => s
  else s

/-- A counted RETEST adds an entry for its unit at the end of the list (R137). -/
def State.addRetest (s : State) (r : Run) (classes : ClassSet) : State :=
  let t := s.evictRetest
  { t with retest := t.retest ++ [⟨r.serial, r.slot, r.lotId, r.attempt, classes⟩] }

/-! ### The VERDICT message (R140) -/

/-- The value of a verdict kind (R18, VERDICT body). -/
def VerdictKind.value : VerdictKind → Nat
  | .pass => 0 | .fail => 1 | .retest => 2 | .aborted => 3

/-- The value of the abort cause of an end cause (R18, VERDICT body). -/
def EndCause.abortValue : EndCause → Nat
  | .aborted .command => 1
  | .aborted .headLoss => 2
  | .aborted .softReset => 3
  | .isOpen | .completed | .contactCheck | .seatLoss | .seatTimeout | .disturbed => 0

/-- The VERDICT (kind 0x83) of a run (R140; R18, VERDICT body). -/
def verdictEvent (n : NestId) (r : Run) (v : VerdictKind) (classes : ClassSet) (g : LabelField) : Event :=
  { kind := 0x83#8
    scope := BitVec.ofNat 4 n.val
    body :=
      [put n.val 30 2 ||| put r.slot.val 27 3 ||| put r.attempt 24 3 ||| put v.value 22 2 |||
         put r.endCause.abortValue 20 2 ||| flag (r.kind == .bench) 19 ||| flag (r.kind == .golden) 18 |||
         flag r.clipSeen 17 ||| flag r.trace 16 ||| put r.generation.toNat 0 16,
       put classes.toNat 16 16 ||| put g.code 8 8 ||| put g.bin 4 4,
       put r.firstFail 24 8 ||| put (serialHi r.serial) 0 16,
       serialLo r.serial] ++
      (if r.kind == .counted then [r.lotId] else []) }

/-! ### The run end (R73, R134) -/

/-- The label kind of a counted verdict; ABORTED makes no record (R134, step 5). -/
def VerdictKind.label : VerdictKind → Option LabelKind
  | .pass => some .finalPass
  | .fail => some .finalFail
  | .retest => some .retest
  | .aborted => none

/-- Steps 3 to 5 of R134 for a counted run: retest list, yield report, label record. -/
def State.recordVerdict (s : State) (n : NestId) (r : Run) (v : VerdictKind) (classes : ClassSet)
    (g : LabelField) : State :=
  let a := if v == .retest then s.addRetest r classes else s
  let b := a.reportVerdict v r.lotId
  match v.label with
  | some kind =>
    b.createLabel { nest := n, lotId := r.lotId, kind, code := BitVec.ofNat 8 g.code, bin := BitVec.ofNat 4 g.bin,
                    classes, issued := false, age := 0 }
  | none => b

/-- The verdict step of a run end, R134's seven steps in order. -/
def State.formVerdict (s : State) (n : NestId) : State :=
  let r := (s.nest n).run
  let t := s.runTables n
  let (v, classes) := r.verdict t.settingsRow.retestLimit
  let g := t.grade r.kind v classes
  let a := if r.kind == .counted then s.recordVerdict n r v classes g else s
  let b := a.offerCapture r
  b.modNest n fun x => { x with verdictOut := some (verdictEvent n r v classes g) }

/-- Step 1 of a run end: end cause, and end step (255 in ARMED) (R73). -/
def State.markEnd (s : State) (n : NestId) (cause : EndCause) : State :=
  s.modNest n fun x =>
    { x with run := { x.run with endCause := cause, endStep := if x.phase == .armed then 255 else x.engine.step } }

/-- The nest leaves ARMED or RUNNING for CLOSING, or for REPORTING when no fade is to be played (R58, R63, R73, R75). -/
def State.leaveRun (s : State) (n : NestId) (e : Engine) : State :=
  let k := (s.nest n).run.slot
  (s.modNest n fun x => { x with engine := e, phase := if e.mode == .silent then .reporting else .closing }).depart k

/-- A run ends by any cause but soft reset (R73): end cause and step, verdict, departure. A head loss silences the
engine at once (R59, R77); else the engine fades out or falls silent (R58). A swap that the departure releases (R32) is
made here, before the slot's lot, where it is due, completes at the end of the event (R164; DESIGN CHOICE, log 39). -/
def State.endRun (s : State) (n : NestId) (cause : EndCause) : State :=
  let e := (s.nest n).engine
  let e' := if cause == .aborted .headLoss then e.silence else e.endRun (s.runTables n)
  ((s.markEnd n cause).formVerdict n).leaveRun n e'

/-- CONTACT joins the retest-type causes (R68, R71, R74). -/
def State.addContact (s : State) (n : NestId) : State := s.modRun n fun r => { r with contact := true }

/-- DISTURBED joins the retest-type causes (R71). -/
def State.addDisturbed (s : State) (n : NestId) : State := s.modRun n fun r => { r with disturbed := true }

/-- The engine's report of the end of the fade: a CLOSING nest enters REPORTING, its engine SILENT (R50, R75). -/
def State.fadeEnded (s : State) (n : NestId) : State :=
  if (s.nest n).phase == .closing then
    s.modNest n fun x => { x with phase := .reporting, engine := { x.engine with mode := .silent } }
  else s

/-- FADE_END (R75). -/
def execFadeEnd (n : NestId) (s : State) : Host.Outcome State Fault Refusal := .next (s.fadeEnded n).endEvent

/-! ### RETEST_QUERY (R139) -/

/-- An entry's three words in the RETEST_QUERY reply (R18, Reply data). -/
def RetestEntry.words (e : RetestEntry) : List Word :=
  [put e.classes.toNat 16 16 ||| put e.slot.val 8 3 ||| put e.attempts 0 2, put (serialHi e.serial) 0 16, serialLo e.serial]

/-- The reply data of RETEST_QUERY: summary word and the first 20 matching entries (R139). -/
def retestData (list : List RetestEntry) (scope : BitVec 4) : List Word :=
  let matching := list.filter fun e => scope == 15#4 || e.slot == slotOf scope
  let sent := matching.take 20
  (put list.length 16 8 ||| put matching.length 8 8 ||| put sent.length 0 8) :: (sent.map RetestEntry.words).flatten

/-- VRD takes RETEST_QUERY (R139). -/
def takeRetestQuery (scope : BitVec 4) (tag : BitVec 8) (s : State) : State :=
  s.reply .retestQuery scope tag .ok (retestData s.retest scope)

/-- RETEST_QUERY (R139). -/
def execRetestQuery (scope : BitVec 4) (tag : BitVec 8) (s : State) : Host.Outcome State Fault Refusal :=
  .next (s.complete .retestQuery scope tag 0 true (takeRetestQuery scope tag))

end Sys2Proof.Machine
end

