-- ==== Sys2Proof/Machine/Windows.lean ====
section
/-! DEFINITION. The walk through a dwell (R69–R72): the decision at a window's start (R70), the window's end with its
outcome, STEP_RESULT, golden value and run end (R71, R98, R110, R119), the dwell's end (R72), the end of a STEP_FADE
(R50), and one head frame of a nest (R43, R69, R83). -/

namespace Sys2Proof.Machine

/-- The step record of the nest's present step. -/
def State.stepRec (s : State) (n : NestId) : Step := (s.nest n).engine.stepRec (s.runTables n)

/-! ### Window start (R70) -/

/-- A dwell frame at k = Ws with the window BEFORE (R70). -/
def State.windowStartDue (s : State) (n : NestId) : Bool :=
  let x := s.nest n
  x.phase == .running && x.engine.mode == .step && x.window == .before && x.engine.k == (s.stepRec n).ws

/-- The decision at a window's start: a held frame while the hall is LOUD and the extension count is below its limit,
else the window opens and its sums are cleared (R70, R84). -/
def Nest.decideWindow (x : Nest) (loud : Bool) (limit : Nat) : Nest :=
  if loud && x.engine.ext < limit then
    { x with engine := { x.engine with held := true, ext := x.engine.ext + 1 } }
  else
    { x with window := .isOpen, engine := { x.engine with held := false },
             analysis := { x.analysis with win := .cleared } }

/-- The decision where it is due, with the monitor's state for this head frame (R70, R102). -/
def State.decideWindow (s : State) (n : NestId) : State :=
  if s.windowStartDue n then s.modNest n fun x => x.decideWindow s.amb.loud (s.runSettings n).settleLimit else s

/-- WINDOW_START (R70). Where no nest frame stands at k = Ws with its window BEFORE there is no such event (log 4). -/
def execWindowStart (n : NestId) (s : State) : Host.Outcome State Fault Refusal := .next (s.decideWindow n)

/-! ### Window end (R71) -/

/-- The value of a polarity in a STEP_RESULT (R18, Event bodies). -/
def Polarity.value : Polarity → Nat
  | .unknown => 0 | .pos => 1 | .neg => 2

/-- The STEP_RESULT (kind 0x84) of a window end (R98; R18, Event bodies). -/
def stepResultEvent (n : NestId) (e : Engine) (m : Measures) (o : StepOutcome) (cause : Nat) : Event :=
  { kind := 0x84#8
    scope := BitVec.ofNat 4 n.val
    body :=
      [put n.val 30 2 ||| put e.step 23 7 ||| put e.retry 20 3 ||| put o.value 17 3 ||| put cause 14 3 |||
         put m.polarity.value 12 2 ||| flag m.clip 11,
       halves e.ext (min m.invalid Config.counterMax),
       levels m.lfc m.lthd, levels m.lrb m.lcr, levels m.lz m.ln, levels m.la 0] }

/-- For a run with TRACE set the verdict unit builds the window's STEP_RESULT; it is offered with the event's other
offers (R71, R98, R14). -/
def State.traceWindow (s : State) (n : NestId) (m : Measures) (o : StepOutcome) (cause : Nat) : State :=
  if (s.nest n).run.trace then
    s.modNest n fun x => { x with stepOut := some (stepResultEvent n x.engine m o cause) }
  else s

/-- The reference value of the nest's step when REL limits are judged: not for a golden run, and only from a READY
reference (R110, R111). -/
def State.judgingReference (s : State) (n : NestId) : Option Level :=
  let x := s.nest n
  if x.run.kind == .golden then none
  else (s.slot x.run.slot).reference.map fun vs => vs.getD ((s.runTables n).refIndex x.engine.step) 0

/-- A judged window of a golden run on a REF step writes its Lfc into the golden values (R119). -/
def Run.writeGolden (r : Run) (t : Tables) (step : Nat) (lfc : Level) : Run :=
  if r.kind == .golden && (t.step step).ref then
    { r with goldenValues := r.goldenValues.set (t.refIndex step) (some lfc) }
  else r

/-- The measure record of the nest's window (R87). -/
def State.windowMeasures (s : State) (n : NestId) : Measures :=
  (s.nest n).analysis.win.measures (s.stepRec n) (s.nest n).config

/-- A window that is judged (R71, case 3): classes, golden value and STEP_RESULT; the last step's window ends the run. -/
def State.judgeWindow (s : State) (n : NestId) (m : Measures) : State :=
  let t := s.runTables n
  let step := (s.nest n).engine.step
  let j := judgeStep (t.maskRow (s.stepRec n).mask) m (s.stepRec n).kind (s.judgingReference n)
  let a := s.modRun n fun r => (r.enter step j).writeGolden t step m.lfc
  let b := a.traceWindow n m j.outcome 0
  if t.plan.length ≤ step + 1 then b.endRun n .completed else b

/-- A disturbed window (R71, case 1; R107): a retry is marked while the retry count is below its limit, else the run
ends with DISTURBED. -/
def State.disturbWindow (s : State) (n : NestId) (m : Measures) (d : Disturbance) : State :=
  let a := s.traceWindow n m .disturbed d.value
  if (s.nest n).engine.retry < (s.runSettings n).retryLimit then a.modNest n fun x => { x with retryMarked := true }
  else (a.addDisturbed n).endRun n .disturbed

/-- The window end (R71): CLOSED, clip seen, then the outcome in R71's order. -/
def State.closeWindow (s : State) (n : NestId) : State :=
  let m := s.windowMeasures n
  let a := s.modNest n fun x =>
    { x with window := .closed, run := { x.run with clipSeen := x.run.clipSeen || m.clip } }
  match m.disturbance (s.runSettings n).ambientLimit with
  | some d => a.disturbWindow n m d
  | none =>
    if (s.stepRec n).contact && m.contactFails (s.runSettings n).contactFloor then
      ((a.traceWindow n m .contact 0).addContact n).endRun n .contactCheck
    else a.judgeWindow n m

/-- Frame We − 1 of an OPEN window (R71). -/
def State.windowEndDue (s : State) (n : NestId) : Bool :=
  let x := s.nest n
  x.phase == .running && x.engine.mode == .step && x.window == .isOpen && !x.engine.held &&
    x.engine.k + 1 == (s.stepRec n).we

/-- WINDOW_END (R71): frame We − 1 of the open window has been played. Elsewhere there is no such event (log 4). -/
def execWindowEnd (n : NestId) (s : State) : Host.Outcome State Fault Refusal :=
  if s.windowEndDue n then .next (s.closeWindow n).endEvent else .next s

/-! ### Dwell end, STEP_FADE end (R72, R50) -/

/-- Frame D − 1 of a dwell whose window is CLOSED (R69, R72). -/
def State.dwellEndDue (s : State) (n : NestId) : Bool :=
  let x := s.nest n
  x.phase == .running && x.engine.mode == .step && x.window == .closed && !x.engine.held &&
    x.engine.k + 1 == (s.stepRec n).dwell

/-- The dwell ends and the next is chosen (R72); the engine passes on by R56. -/
def State.endDwell (s : State) (n : NestId) : State :=
  let t := s.runTables n
  s.modNest n fun x =>
    { x with engine := x.engine.nextDwell t x.config.trim x.retryMarked, window := .before, retryMarked := false }

/-- DWELL_END (R72): frame D − 1 has been played. Elsewhere there is no such event (log 4). -/
def execDwellEnd (n : NestId) (s : State) : Host.Outcome State Fault Refusal :=
  .next (if s.dwellEndDue n then s.endDwell n else s)

/-- The last STEP_FADE frame (R50). -/
def State.stepFadeEndDue (s : State) (n : NestId) : Bool :=
  let e := (s.nest n).engine
  e.mode == .stepFade && e.fadeLen ≤ e.fade + 1

/-- After the last STEP_FADE frame the engine enters frame k = 0 of the next dwell at phase 0; the tone has faded (R50). -/
def State.endStepFade (s : State) (n : NestId) : State :=
  let t := s.runTables n
  s.modNest n fun x => { x with engine := { x.engine with last := .quiet }.enterDwell t x.config.trim }

/-- STEP_FADE_END (R50): frame f = Rf − 1 has been played. Elsewhere there is no such event (log 4). -/
def execStepFadeEnd (n : NestId) (s : State) : Host.Outcome State Fault Refusal :=
  .next (if s.stepFadeEndDue n then s.endStepFade n else s)

/-! ### One head frame of a nest -/

/-- A window frame (R84). -/
def State.inWindow (s : State) (n : NestId) : Bool :=
  let x := s.nest n
  let st := s.stepRec n
  x.phase == .running && x.engine.mode == .step && x.window == .isOpen && !x.engine.held &&
    st.ws ≤ x.engine.k && x.engine.k < st.we

/-- The analysis of the frame (R83): with the drive phase of the engine frame of the same head frame (R43). -/
def State.analyseFrame (s : State) (n : NestId) (inp : FrameInput) : State :=
  let win : Option WindowFrame :=
    if s.inWindow n then
      some { step := s.stepRec n, phase := (s.nest n).engine.acc, loud := s.amb.loud,
             threshold := pexp (s.runSettings n).polarityCode }
    else none
  s.modNest n fun x => { x with analysis := x.analysis.frame inp win }

/-- The move after a STEP frame (R69): a held frame decides anew; else the window end, then the dwell end or k + 1. -/
def State.moveStep (s : State) (n : NestId) : State :=
  if (s.nest n).engine.held then s
  else
    let a := if s.windowEndDue n then s.closeWindow n else s
    if (a.nest n).phase == .running && (a.nest n).engine.mode == .step then
      if a.dwellEndDue n then a.endDwell n else a.modEngine n fun e => { e with k := e.k + 1 }
    else a

/-- The move to the position of the next frame (R43, step 5; R50, R69). -/
def State.moveOn (s : State) (n : NestId) : State :=
  match (s.nest n).engine.mode with
  | .silent => s
  | .step => s.moveStep n
  | .stepFade => if s.stepFadeEndDue n then s.endStepFade n else s.modEngine n fun e => { e with fade := e.fade + 1 }
  | .endFade =>
    if (s.nest n).engine.fadeLen ≤ (s.nest n).engine.fade + 1 then s.fadeEnded n
    else s.modEngine n fun e => { e with fade := e.fade + 1 }

/-- What a head frame does in a nest once its drive samples are placed: the analysis of the frame, the advance of the
accumulator, the move to the next position (R43, R69, R83). -/
def State.nestFrame (s : State) (n : NestId) (inp : FrameInput) : State :=
  let a := s.analyseFrame n inp
  let b := a.modEngine n fun e => e.advance (a.runTables n)
  b.moveOn n

end Sys2Proof.Machine
end

