-- ==== Sys2Proof/Machine/Nests.lean ====
section
/-! DEFINITION. The nest sequencer's commands and events: NEST_CONFIG (R61), START (R66, R67), ABORT (R76), NEST_QUERY
(R80), the seat (R62, R68, R74), the key (R39, R79). -/

namespace Sys2Proof.Machine

/-! ### NEST_CONFIG (R61) -/

/-- The configuration a NEST_CONFIG asks for (R61; R18, Command bodies). -/
def configOf (w0 w1 : Word) : NestConfig :=
  { trim := bits w0 0 8, mcal := sbits w1 16 16, zcal := sbits w1 0 16, inverted := bits w0 8 2 == 1,
    seatCode := bits w0 10 2, bench := bit w0 12, benchEnding := false }

/-- The calibration range (R61). -/
def calOk (x : Int) : Bool := -8192 ≤ x && x ≤ 8191

/-- The first check of NEST_CONFIG that fails (R61). -/
def nestConfigCheck (s : State) (n : NestId) (w0 w1 : Word) : ResultCode :=
  let c := configOf w0 w1
  if (s.nest n).phase != .idle then .busy
  else if c.trim == 0 || 1 < bits w0 8 2 || !calOk c.mcal || !calOk c.zcal then .range
  else if c.bench && !s.prot.key.stable then .refused
  else .ok

/-- The whole configuration is replaced; a changed seat debounce code restarts the count (R61). -/
def Nest.configure (x : Nest) (c : NestConfig) : Nest :=
  { x with config := c, seat := if c.seatCode == x.config.seatCode then x.seat else x.seat.restart }

/-- The sequencer takes NEST_CONFIG (R61). -/
def takeNestConfig (scope : BitVec 4) (tag : BitVec 8) (w0 w1 : Word) (s : State) : State :=
  let n := nestOf scope
  let code := nestConfigCheck s n w0 w1
  let t := if code == .ok then s.modNest n fun x => x.configure (configOf w0 w1) else s
  t.reply .nestConfig scope tag code []

/-- NEST_CONFIG (R61). -/
def execNestConfig (scope : BitVec 4) (tag : BitVec 8) (w0 w1 : Word) (s : State) : Host.Outcome State Fault Refusal :=
  .next (s.complete .nestConfig scope tag 2 true (takeNestConfig scope tag w0 w1))

/-! ### START (R66, R67) -/

/-- What START's body asks for (R66; R18, Command bodies). The slot is a number 0–15 as sent. -/
structure StartRequest where
  slot   : Nat
  golden : Bool
  trace  : Bool
  serial : BitVec 48
deriving DecidableEq, Repr

def startRequest (w0 w1 : Word) : StartRequest :=
  { slot := bits w0 28 4, golden := bit w0 27, trace := bit w0 26, serial := serialOf w0 w1 }

/-- The kind of the run (R66). -/
def runKindOf (golden bench : Bool) : RunKind := if golden then .golden else if bench then .bench else .counted

/-- The slot's OPEN lot (R66, order 8). -/
def State.openLot (s : State) (k : SlotId) : Option Lot := (s.lot k).filter fun l => !l.closing

/-- The serial is bound to another nest that is ARMED or RUNNING (R66, order 9). -/
def State.serialBusy (s : State) (n : NestId) (serial : BitVec 48) : Bool :=
  allNests.any fun m => m != n && (s.nest m).phase.active && (s.nest m).run.serial == serial

/-- The serial has a retest entry for this slot (R66, order 10). -/
def State.returning (s : State) (k : SlotId) (serial : BitVec 48) : Bool :=
  match s.retestEntry serial with
  | some e => e.slot == k
  | none => false

/-- Orders 3 to 10 of R66 for a slot 0–7; the first check that fails. -/
def startSlotCheck (s : State) (n : NestId) (k : SlotId) (r : StartRequest) : ResultCode :=
  let x := s.slot k
  let kind := runKindOf r.golden (s.nest n).config.bench
  if !x.loaded then .notReady
  else if s.commitPending k || x.promotionPending then .held
  else if r.golden && (s.nest n).config.bench then .refused
  else if r.golden && !x.isCapturing then .notReady
  else if kind == .counted && x.tables.hasRel && x.reference.isNone then .notReady
  else if kind == .counted && (s.openLot k).isNone then .noLot
  else if s.serialBusy n r.serial then .duplicate
  else if kind == .counted && !s.returning k r.serial &&
      (match s.openLot k with
       | some l => Config.lotCounterMax ≤ l.started
       | none => false) then .lotFull
  else .ok

/-- The first check of START that fails (R66). -/
def startCheck (s : State) (n : NestId) (r : StartRequest) : ResultCode :=
  if (s.nest n).phase != .idle then .busy
  else if 7 < r.slot then .range
  else startSlotCheck s n (Fin.ofNat 8 r.slot) r

/-- The retest lookup of a counted START with its reports (R136; R67, steps 2 and 3): the attempt, and the state. -/
def State.lookupRetest (s : State) (k : SlotId) (serial : BitVec 48) : Nat × State :=
  match s.retestEntry serial with
  | some e =>
    let t := s.dropRetest serial
    if e.slot == k then (e.attempts + 1, t.reportReturn k)
    else (1, (t.reportGivenUp e).reportFirst k)
  | none => (1, s.reportFirst k)

/-- The run record START fills (R67, step 1; R118). -/
def boundRun (s : State) (k : SlotId) (r : StartRequest) (kind : RunKind) (attempt : Nat) : Run :=
  { present := true, slot := k, generation := (s.slot k).generation, serial := r.serial, golden := r.golden,
    trace := r.trace, kind,
    lotId := if kind == .counted then (match s.openLot k with
      | some l => l.id
      | none => 0) else 0
    attempt, startCause := .none, seatTimer := 0, failSet := 0, marginalSet := 0, contact := false,
    disturbed := false, firstFail := 255, clipSeen := false, endCause := .isOpen, endStep := 255,
    bound := kind == .golden
    goldenValues := if kind == .golden then List.replicate (s.slot k).tables.refCount none else [] }

/-- The nest becomes RUNNING (R55, R67, R68). A retry mark that an earlier run left is cleared here (DESIGN CHOICE, log 34). -/
def State.becomeRunning (s : State) (n : NestId) (cause : StartCause) : State :=
  let t := s.runTables n
  s.modNest n fun x =>
    { x with phase := .running, run := { x.run with startCause := cause }, window := .before, retryMarked := false,
             engine := x.engine.startRun t x.config.trim }

/-- The nest becomes ARMED; its seat timer is set to the slot's seat timeout (R67, R68). -/
def State.arm (s : State) (n : NestId) : State :=
  let ticks := (s.runSettings n).seatTimeout * Config.ticksPerMs
  s.modNest n fun x => { x with phase := .armed, run := { x.run with seatTimer := ticks } }

/-- Step 4 of R67: ARMED or RUNNING by the slot's seat mode and the debounced seat, and the slot's occupancy. -/
def State.enterRun (s : State) (n : NestId) (k : SlotId) : State :=
  let t := s.occupy k
  if (t.runSettings n).seatMode == 0 then t.becomeRunning n .immediate
  else if (t.nest n).seat.stable then t.becomeRunning n .seat
  else t.arm n

/-- A START whose checks have passed (R67): binding, lookup and lot counters, state. -/
def State.startRun (s : State) (n : NestId) (k : SlotId) (r : StartRequest) : State :=
  let kind := runKindOf r.golden (s.nest n).config.bench
  let (attempt, t) := if kind == .counted then s.lookupRetest k r.serial else (1, s)
  let run := boundRun s k r kind attempt
  (t.modNest n fun x => { x with run := run }).enterRun n k

/-- The sequencer takes START (R66, R67). -/
def takeStart (scope : BitVec 4) (tag : BitVec 8) (w0 w1 : Word) (s : State) : State :=
  let n := nestOf scope
  let r := startRequest w0 w1
  let code := startCheck s n r
  if code == .ok then
    let t := s.startRun n (Fin.ofNat 8 r.slot) r
    t.reply .start scope tag .ok [put (t.nest n).run.attempt 0 3]
  else s.reply .start scope tag code []

/-- START (R66). -/
def execStart (scope : BitVec 4) (tag : BitVec 8) (w0 w1 : Word) (s : State) : Host.Outcome State Fault Refusal :=
  .next (s.complete .start scope tag 2 true (takeStart scope tag w0 w1)).endEvent

/-! ### ABORT (R76) -/

/-- The sequencer takes ABORT (R76). -/
def takeAbort (scope : BitVec 4) (tag : BitVec 8) (s : State) : State :=
  let n := nestOf scope
  if (s.nest n).phase.active then (s.endRun n (.aborted .command)).reply .abort scope tag .ok []
  else s.reply .abort scope tag .refused []

/-- ABORT (R76). -/
def execAbort (scope : BitVec 4) (tag : BitVec 8) (s : State) : Host.Outcome State Fault Refusal :=
  .next (s.complete .abort scope tag 0 true (takeAbort scope tag)).endEvent

/-! ### NEST_QUERY (R80) -/

/-- The values of NEST_QUERY's fields (R18, Reply data). -/
def Phase.value : Phase → Nat
  | .idle => 0 | .armed => 1 | .running => 2 | .closing => 3 | .reporting => 4
def Mode.value : Mode → Nat
  | .silent => 0 | .step => 1 | .stepFade => 2 | .endFade => 3
def RunKind.value : RunKind → Nat
  | .counted => 0 | .golden => 1 | .bench => 2
def StartCause.value : StartCause → Nat
  | .none => 0 | .immediate => 1 | .seat => 2
def WindowPhase.value : WindowPhase → Nat
  | .before => 0 | .isOpen => 1 | .closed => 2
def EndCause.value : EndCause → Nat
  | .isOpen => 0 | .completed => 1 | .contactCheck => 2 | .seatLoss => 3 | .seatTimeout => 4
  | .disturbed => 5 | .aborted _ => 6

/-- The seat timer remaining in ms, rounded up, while ARMED; 0 elsewhere (R80; log 16). -/
def Nest.seatMs (x : Nest) : Nat :=
  if x.phase == .armed then (x.run.seatTimer + (Config.ticksPerMs - 1)) / Config.ticksPerMs else 0

/-- The reply data of NEST_QUERY, words 1 to 11 (R80; R18, Reply data). -/
def nestData (x : Nest) (loud : Bool) : List Word :=
  let r := x.run
  let e := x.engine
  let c := x.config
  [put x.phase.value 0 3 ||| flag x.seat.stable 4 ||| flag loud 5 ||| put e.mode.value 6 2 ||| put e.fade 16 12,
   put c.trim 0 8 ||| flag c.inverted 8 ||| put c.seatCode 9 2 ||| flag c.bench 11 ||| flag c.benchEnding 12,
   levels c.mcal c.zcal,
   flag r.present 0 ||| put r.slot.val 1 3 ||| put r.kind.value 4 2 ||| flag r.golden 6 ||| flag r.trace 7 |||
     put r.attempt 8 3 ||| put r.startCause.value 11 2 ||| put r.generation.toNat 16 16,
   put (serialHi r.serial) 0 16,
   serialLo r.serial,
   r.lotId,
   put e.step 0 7 ||| flag e.held 7 ||| put x.window.value 8 2 ||| flag x.retryMarked 10 ||| put e.retry 11 3 |||
     put e.k 16 16,
   halves e.ext x.seatMs,
   halves r.failSet.toNat r.marginalSet.toNat,
   put r.firstFail 24 8 ||| put r.endStep 16 8 ||| put r.endCause.value 12 4 ||| put r.endCause.abortValue 10 2 |||
     flag r.contact 9 ||| flag r.disturbed 8 ||| flag r.clipSeen 7]

/-- The sequencer takes NEST_QUERY (R80). -/
def takeNestQuery (scope : BitVec 4) (tag : BitVec 8) (s : State) : State :=
  s.reply .nestQuery scope tag .ok (nestData (s.nest (nestOf scope)) s.amb.loud)

/-- NEST_QUERY (R80). -/
def execNestQuery (scope : BitVec 4) (tag : BitVec 8) (s : State) : Host.Outcome State Fault Refusal :=
  .next (s.complete .nestQuery scope tag 0 true (takeNestQuery scope tag))

/-! ### The seat (R68, R74) -/

/-- The debounced seat becomes SEATED: an ARMED nest becomes RUNNING with start cause SEAT (R68). -/
def State.seatClosed (s : State) (n : NestId) : State :=
  let t := s.modNest n fun x => { x with seat := .settled true }
  if (t.nest n).phase == .armed then t.becomeRunning n .seat else t

/-- The debounced seat becomes OPEN: a RUNNING run ends with SEAT_LOSS and CONTACT (R74). -/
def State.seatOpened (s : State) (n : NestId) : State :=
  let t := s.modNest n fun x => { x with seat := .settled false }
  if (t.nest n).phase == .running then (t.addContact n).endRun n .seatLoss else t

/-- The seat timer of an ARMED nest reaches 0: SEAT_TIMEOUT and CONTACT (R68). -/
def State.seatTimedOut (s : State) (n : NestId) : State :=
  if (s.nest n).phase == .armed then
    ((s.modRun n fun r => { r with seatTimer := 0 }).addContact n).endRun n .seatTimeout
  else s

/-- SEAT_CLOSED (R68). A seat already SEATED has no such event (log 3). -/
def execSeatClosed (n : NestId) (s : State) : Host.Outcome State Fault Refusal :=
  .next (if (s.nest n).seat.stable then s else s.seatClosed n)

/-- SEAT_LOSS (R74). A seat already OPEN has no such event (log 3). -/
def execSeatLoss (n : NestId) (s : State) : Host.Outcome State Fault Refusal :=
  if (s.nest n).seat.stable then .next (s.seatOpened n).endEvent else .next s

/-- SEAT_TIMEOUT (R68): the seat timer has run out. A nest that is not ARMED has no such event (log 3). -/
def execSeatTimeout (n : NestId) (s : State) : Host.Outcome State Fault Refusal := .next (s.seatTimedOut n).endEvent

/-! ### The key (R39, R79) -/

/-- The key goes from OFF to ON: with the freeze set, it clears and all protected is set (R39). -/
def State.keyTurnedOn (s : State) : State :=
  let p := s.prot
  { s with prot := if p.freeze then { p with key := .settled true, freeze := false, allProtected := true }
                   else { p with key := .settled true } }

/-- The key goes from ON to OFF at a nest: bench is cleared in IDLE, else bench ending is set (R79). -/
def Nest.keyTurnedOff (x : Nest) : Nest :=
  if x.config.bench then
    { x with config := if x.phase == .idle then { x.config with bench := false }
                       else { x.config with benchEnding := true } }
  else x

/-- The key goes from ON to OFF (R79). -/
def State.keyTurnedOff (s : State) : State :=
  let t : State := { s with prot := { s.prot with key := .settled false } }
  allNests.foldl (fun u n => u.modNest n Nest.keyTurnedOff) t

/-- KEY_ON (R39). A key already ON has no such event (log 3). -/
def execKeyOn (s : State) : Host.Outcome State Fault Refusal :=
  .next (if s.prot.key.stable then s else s.keyTurnedOn)

/-- KEY_OFF (R79). A key already OFF has no such event (log 3). -/
def execKeyOff (s : State) : Host.Outcome State Fault Refusal :=
  .next (if s.prot.key.stable then s.keyTurnedOff else s)

end Sys2Proof.Machine
end

