-- ==== Sys2Proof/Machine/Notices.lean ====
section
/-! DEFINITION. NTC's commands HELLO (R175), STATUS (R173), NOTICE_SET (R172), LNK's TAP_SELECT (R7), and the events
NOTICE_PERIOD_EXPIRY (R171) and WAIT_LINE_ADMIT (R14). -/

namespace Sys2Proof.Machine

/-! ### HELLO (R175) -/

/-- The reply data of HELLO (R175; R18, Reply data). -/
def helloData (s : State) : List Word :=
  [put Config.vendorCode 16 16 ||| put Config.partCode 0 16,
   put Config.revision 24 8 ||| flag s.prot.key.stable 2 ||| flag s.prot.strap 1 ||| flag s.ntc.softCause 0,
   put Config.frameRate 0 32,
   put 8 24 8 ||| put 128 16 8 ||| put 64 8 8 ||| put 16 0 8,
   put Config.retestCap 24 8 ||| put Config.labelCap 16 8]

/-- NTC takes HELLO (R175). -/
def takeHello (scope : BitVec 4) (tag : BitVec 8) (s : State) : State := s.reply .hello scope tag .ok (helloData s)

/-- HELLO (R175). -/
def execHello (scope : BitVec 4) (tag : BitVec 8) (s : State) : Host.Outcome State Fault Refusal :=
  .next (s.complete .hello scope tag 0 true (takeHello scope tag))

/-! ### STATUS (R173) -/

/-- The reply data of STATUS (R173; R18, Reply data). -/
def statusData (s : State) : List Word :=
  [put s.ntc.flags.toNat 0 8 ||| put s.ntc.bitmap.toNat 8 8 ||| flag s.amb.loud 16,
   halves s.lnk.linkErr s.lnk.overrun,
   halves s.lnk.slip s.lnk.traceLost]

/-- NTC clears the named flags; clearing LOW_YIELD, where it is set, clears the bitmap with it (R173). -/
def Notices.clear (c : Notices) (mask : BitVec 8) : Notices :=
  let i := Flag.lowYield.index
  { c with flags := c.flags &&& ~~~ mask
           bitmap := if mask.getLsbD i && c.flags.getLsbD i then 0#8 else c.bitmap }

/-- LNK clears the named counters: bits 8 to 11 of the clear mask (R173). -/
def Link.clear (l : Link) (w : Word) : Link :=
  { l with linkErr := if bit w 8 then 0 else l.linkErr
           overrun := if bit w 9 then 0 else l.overrun
           slip := if bit w 10 then 0 else l.slip
           traceLost := if bit w 11 then 0 else l.traceLost }

/-- NTC takes STATUS: the reply reports what stands, then the clearing is made (R173). -/
def takeStatus (scope : BitVec 4) (tag : BitVec 8) (w : Word) (s : State) : State :=
  let t := s.reply .status scope tag .ok (statusData s)
  (t.modNtc fun c => c.clear (w.extractLsb' 0 8)).modLnk fun l => l.clear w

/-- STATUS (R173). -/
def execStatus (scope : BitVec 4) (tag : BitVec 8) (w : Word) (s : State) : Host.Outcome State Fault Refusal :=
  .next (s.complete .status scope tag 1 true (takeStatus scope tag w))

/-! ### NOTICE_SET (R172) -/

/-- NTC takes NOTICE_SET (R172). -/
def takeNoticeSet (scope : BitVec 4) (tag : BitVec 8) (w : Word) (s : State) : State :=
  let period := bits w 0 8
  if period == 0 then s.reply .noticeSet scope tag .range []
  else (s.modNtc fun c => { c with enables := w.extractLsb' 8 8, period := period }).reply .noticeSet scope tag .ok []

/-- NOTICE_SET (R172). -/
def execNoticeSet (scope : BitVec 4) (tag : BitVec 8) (w : Word) (s : State) : Host.Outcome State Fault Refusal :=
  .next (s.complete .noticeSet scope tag 1 true (takeNoticeSet scope tag w))

/-! ### TAP_SELECT (R7) -/

/-- LNK takes TAP_SELECT (R7). -/
def takeTapSelect (scope : BitVec 4) (tag : BitVec 8) (w : Word) (s : State) : State :=
  if 13 < bits w 8 8 || 13 < bits w 0 8 then s.reply .tapSelect scope tag .range []
  else
    (s.modLnk fun l => { l with tap0 := w.extractLsb' 0 8, tap1 := w.extractLsb' 8 8 }).reply .tapSelect scope tag .ok []

/-- TAP_SELECT (R7). -/
def execTapSelect (scope : BitVec 4) (tag : BitVec 8) (w : Word) (s : State) : Host.Outcome State Fault Refusal :=
  .next (s.complete .tapSelect scope tag 1 true (takeTapSelect scope tag w))

/-! ### Events -/

/-- NOTICE_PERIOD_EXPIRY (R171): the elapsed time has reached the period. A STOPPED timer has no such event (log 3). -/
def execNoticePeriodExpiry (s : State) : Host.Outcome State Fault Refusal := .next s.periodExpiry

/-- WAIT_LINE_ADMIT (R14): the head of the wait line is admitted into a free place. With no free place, or an empty
line, there is no such event (log 3). -/
def execWaitLineAdmit (s : State) : Host.Outcome State Fault Refusal := .next s.admitHead

end Sys2Proof.Machine
end

