-- ==== Sys2Proof/Machine/Reset.lean ====
section
/-! DEFINITION. POWER_ON (R36, R174) and SOFT_RESET (R16, R41, R59, R78, R126, R141, R142, R156, R169, R176). -/

namespace Sys2Proof.Machine

/-! ### POWER_ON -/

/-- The state with the levels of another state's input lines and with its queue: what power-on does not set. -/
def State.keepInputs (t s : State) : State :=
  { t with
    prot := { t.prot with key := .low s.prot.key.line }
    nests := allNests.foldl (fun v (n : NestId) => v.set n { v[n] with seat := .low (s.nest n).seat.line }) t.nests
    mrk := { t.mrk with req := .low s.mrk.req.line, marked := .low s.mrk.marked.line, jam := .low s.mrk.jam.line,
                        nestLo := .low s.mrk.nestLo.line, nestHi := .low s.mrk.nestHi.line }
    pending := s.pending }

/-- POWER_ON: every block at its power-on values, the PROTECT strap sampled into all protected (R36), and the power-on
NOTICE asked for (R174). Input lines already high stay high, each debounced state low with its count at 0. -/
def execPowerOn (strap : Bool) (s : State) : Host.Outcome State Fault Refusal :=
  .next ((State.blank strap).keepInputs s).askNotice

/-! ### SOFT_RESET -/

/-- A producer whose message survives a soft reset on the wait line: a slot's REF_DONE (R126), a lot's LOT_SUMMARY
(R169). NTC leaves the line (R176), and so do the nests, whose VERDICTs are withdrawn (R141). -/
def Producer.survives : Producer → Bool
  | .ntc | .vrd _ => false
  | .tbs _ | .yld _ => true

/-- LNK at a soft reset: the reply and event queues are emptied, the sequence number and the counters are 0, withdrawn
producers leave the wait line, the assembler is in HUNT (R8, R11, R16). -/
def Link.softReset (l : Link) : Link :=
  { l with replyQ := [], eventQ := [], waitLine := l.waitLine.filter Producer.survives, asm := .hunt, seq := 0,
           linkErr := 0, overrun := 0, slip := 0, traceLost := 0 }

/-- NTC at a soft reset (R170; R176, step 2). -/
def Notices.softReset (c : Notices) : Notices :=
  { c with flags := 0, bitmap := 0, timer := none, nonUrgent := false, outbox := .empty, softCause := true, owed := true }

/-- The VERDICT outboxes are emptied (R141). -/
def State.withdrawVerdicts (s : State) : State :=
  allNests.foldl (fun t n => t.modNest n fun x => { x with verdictOut := none, stepOut := none }) s

/-- TBS at a soft reset: sessions end without a swap (R41), captures are cancelled slot by slot (R126). -/
def State.softResetTables (s : State) : State :=
  let t : State := { s with buffers := Vector.replicate 2 none }
  allSlots.foldl (fun u k => u.cancelCapture k .softReset) t

/-- The nest itself at a soft reset: a run in ARMED or RUNNING ends with ABORTED, SOFT_RESET; every nest is IDLE, its
position and its analysis cleared (R59, R78, R82). -/
def Nest.softReset (x : Nest) : Nest :=
  let run := if x.phase.active then
      { x.run with endCause := .aborted .softReset, endStep := if x.phase == .armed then 255 else x.engine.step }
    else x.run
  let y := if x.phase == .idle then x else x.returnIdle
  { y with run, window := .before, retryMarked := false, engine := .initial, analysis := .initial }

/-- A nest at a soft reset: a counted run is reported ABORTED, then the nest returns to IDLE (R142, R78). -/
def State.softResetNest (s : State) (n : NestId) : State :=
  let x := s.nest n
  let t := if x.phase.active && x.run.kind == .counted then s.reportVerdict .aborted x.run.lotId else s
  t.modNest n Nest.softReset

/-- Every slot's occupancy becomes 0 (R78). -/
def State.clearOccupancy (s : State) : State :=
  allSlots.foldl (fun t k => t.modSlot k fun x => { x with occupancy := 0 }) s

/-- AMB at a soft reset: QUIET, both counts 0, its configuration kept (R99). -/
def Ambient.softReset (a : Ambient) : Ambient := { a with loud := false, hold := 0, quiet := 0 }

/-- The blocks' own actions after the post-reset NOTICE (R176, step 4): TBS, the nests with their engines and VRD, AMB,
MRK; YLD's completions are the end of the event (R169). -/
def State.softResetBlocks (s : State) : State :=
  let a := allNests.foldl State.softResetNest s.softResetTables
  let b := a.clearOccupancy
  let c : State := { b with amb := b.amb.softReset }
  c.softResetMarking

/-- The end of a soft reset: a NOTICE asked for during the reset's own actions is offered last (R16). -/
def State.settleNotice (s : State) : State :=
  match s.ntc.outbox with
  | .deferred asked =>
    let t := s.modNtc fun c => { c with outbox := .empty }
    if asked then t.askNotice else t
  | .empty | .waiting => s

/-- NTC takes SOFT_RESET (R176): LNK's queues and the reply, NTC's state, the post-reset NOTICE, the producers of the
wait line (R16), the blocks' own actions, the completions and offers of the event, the NOTICE offered last. The reset is an
event of its own also where a head frame's control word completes it: what that frame's later parts offer, an AMBIENT NOTICE
among them, comes behind the reset's REF_DONEs and LOT_SUMMARYs (DESIGN CHOICE, log 35). -/
def takeSoftReset (scope : BitVec 4) (tag : BitVec 8) (s : State) : State :=
  let a := (s.modLnk Link.softReset).reply .softReset scope tag .ok []
  let b := (a.modNtc Notices.softReset).withdrawVerdicts
  let c := b.admitNotice.fillPlaces
  let d := c.modNtc fun x => { x with outbox := .deferred false }
  d.softResetBlocks.endEvent.settleNotice

/-- SOFT_RESET (R176). -/
def execSoftReset (scope : BitVec 4) (tag : BitVec 8) (s : State) : Host.Outcome State Fault Refusal :=
  .next (s.complete .softReset scope tag 0 true (takeSoftReset scope tag))

end Sys2Proof.Machine
end

