-- ==== Sys2Proof/Machine/Slots.lean ====
section
/-! DEFINITION. TBS's commands: sessions (R23–R25), validation and commit (R26–R29, R31), discard and reading
(R34, R35), protection (R38, R40). -/

namespace Sys2Proof.Machine

/-! ### STAGE_OPEN (R23) -/

/-- The lowest-numbered FREE buffer (R23). -/
def State.freeBuffer (s : State) : Option (Fin 2) :=
  ([0, 1] : List (Fin 2)).find? fun b => (s.buffer b).isNone

/-- The first check of STAGE_OPEN that fails (R23). -/
def stageOpenCheck (s : State) (k : SlotId) (mode : Nat) : ResultCode :=
  if s.prot.protects k then .locked
  else if 1 < mode then .range
  else if (s.session k).isSome then .busy
  else if mode == 1 && !(s.slot k).loaded then .notReady
  else if s.freeBuffer.isNone then .busy
  else .ok

/-- TBS takes STAGE_OPEN (R23). -/
def takeStageOpen (scope : BitVec 4) (tag : BitVec 8) (w : Word) (s : State) : State :=
  let k := slotOf scope
  let mode := bits w 0 8
  match stageOpenCheck s k mode, s.freeBuffer with
  | .ok, some b =>
    let e : Session :=
      { slot := k, copy := mode == 1, pending := false,
        tables := if mode == 1 then (s.slot k).tables else .blank, planTouched := false }
    (s.setBuffer b (some e)).reply .stageOpen scope tag .ok [put b.val 0 1]
  | code, _ => s.reply .stageOpen scope tag code []

/-- STAGE_OPEN (R23). -/
def execStageOpen (scope : BitVec 4) (tag : BitVec 8) (w : Word) (s : State) : Host.Outcome State Fault Refusal :=
  .next (s.complete .stageOpen scope tag 1 true (takeStageOpen scope tag w))

/-! ### STAGE_ROWS (R24, R25) -/

/-- Rows written over a table from `first` on: each replaces the row of its index or is appended (R25). -/
def writeRows (old : List Row) (first : Nat) (rows : List Row) : List Row :=
  old.take first ++ rows ++ old.drop (first + rows.length)

/-- The first check of STAGE_ROWS that fails (R24); `len` is the number of row words in the body. -/
def stageRowsCheck (s : State) (k : SlotId) (table first len : Nat) : ResultCode :=
  if s.prot.protects k then .locked
  else if 3 < table then .range
  else if len == 0 || len % rowSize table != 0 then .length
  else match s.session k with
    | none => .refused
    | some e =>
      let staged := (e.tables.get table).length
      if e.pending then .held
      else if (if e.copy then staged < first else first != staged) then .sequence
      else if capacity table < first + len / rowSize table then .range
      else .ok

/-- The session after its rows are written (R25). -/
def Session.write (e : Session) (table first : Nat) (rows : List Row) : Session :=
  { e with tables := e.tables.put table (writeRows (e.tables.get table) first rows)
           planTouched := e.planTouched || table == 1 }

/-- TBS takes STAGE_ROWS (R24, R25). -/
def takeStageRows (scope : BitVec 4) (tag : BitVec 8) (body : List Word) (s : State) : State :=
  let k := slotOf scope
  let w := body.getD 0 0#32
  let table := bits w 8 8
  let first := bits w 0 8
  let code := stageRowsCheck s k table first (body.length - 1)
  match code, s.sessionBuffer k with
  | .ok, some b =>
    let rows := (cutRows (rowSize table) body.length (body.drop 1)).map (storedRow table)
    (s.setBuffer b ((s.buffer b).map fun e => e.write table first rows)).reply .stageRows scope tag .ok []
  | c, _ => s.reply .stageRows scope tag c []

/-- STAGE_ROWS (R24). -/
def execStageRows (scope : BitVec 4) (tag : BitVec 8) (body : List Word) (s : State) : Host.Outcome State Fault Refusal :=
  .next (s.complete .stageRows scope tag body.length true (takeStageRows scope tag body))

/-! ### Validation (R27–R29) -/

/-- Every settings field lies in its range (R21, R27). -/
def Settings.valid (x : Settings) : Bool :=
  x.retestLimit ≤ 3 && x.retryLimit ≤ 7 && x.seatMode ≤ 1 && 1 ≤ x.seatTimeout && x.fade ≤ 4095 &&
    -4096 ≤ x.polarityCode && x.polarityCode ≤ 0 && x.passLabel.bin ≤ 15 && x.retestLabel.bin ≤ 15 &&
    x.rejectLabel.bin ≤ 15 && x.lowYield ≤ 1000

/-- Every condition on plan row i (R28). -/
def stepValid (t : Tables) (i : Nat) : Bool :=
  let st := t.step i
  let tone := st.kind == .tone
  let fadeIn := tone && (i == 0 || (t.step (i - 1)).kind != .tone)
  st.kind != .reserved && 320 ≤ st.freq && st.freq ≤ 320000 && -4096 ≤ st.level && st.level ≤ 0 &&
    st.ws < st.we && st.we ≤ st.dwell && st.ws + 64 ≤ st.we &&
    (!st.rb || 4 ≤ st.ws) && (!st.harm || st.freq ≤ 128000) &&
    (tone || !(st.harm || st.rb || st.imp || st.ref || st.contact)) && (!st.contact || st.imp) &&
    (!fadeIn || t.settingsRow.fade ≤ st.ws) && (st.mask < t.mask.length || st.mask == maskNone) &&
    (match t.maskRow st.mask with
     | some m => !m.hasRel || st.ref
     | none => true)

/-- The conditions on a mask row (R29). -/
def Mask.valid (m : Mask) : Bool :=
  (match m.lower, m.upper with
   | some lo, some hi => m.lowerRel || m.upperRel || lo ≤ hi
   | _, _ => true) &&
  (match m.impLower, m.impUpper with
   | some lo, some hi => lo ≤ hi
   | _, _ => true)

/-- The conditions on a grading entry (R29): no class above bit 12, bin 0–15. -/
def Grade.valid (g : Grade) : Bool := g.classes.toNat < 8192 && g.label.bin ≤ 15

/-- The first offending row of staged tables: table code and row number (R27). -/
def validate (t : Tables) : Option (Nat × Nat) :=
  if t.settings.isEmpty || !t.settingsRow.valid then some (0, 0)
  else if t.plan.isEmpty then some (1, 0)
  else match (List.range t.plan.length).find? fun i => !stepValid t i with
    | some i => some (1, i)
    | none =>
      match (List.range t.mask.length).find? fun i => !(maskOf (t.mask.getD i [])).valid with
      | some i => some (2, i)
      | none =>
        match (List.range t.grading.length).find? fun i => !(gradeOf (t.grading.getD i [])).valid with
        | some i => some (3, i)
        | none => none

/-! ### STAGE_COMMIT (R26, R31) -/

/-- The reply data of STAGE_COMMIT: outcome PENDING or SWAPPED, and the generation (R31; R18, Reply data). -/
def commitData (isPending : Bool) (generation : BitVec 16) : List Word :=
  [flag isPending 16 ||| put generation.toNat 0 16]

/-- A commit that passed validation: the swap at once at occupancy 0, else the session becomes PENDING (R31). -/
def State.commit (s : State) (k : SlotId) (b : Fin 2) (scope : BitVec 4) (tag : BitVec 8) : State :=
  if (s.slot k).occupancy == 0 then
    let t := s.swap k
    t.reply .stageCommit scope tag .ok (commitData false (t.slot k).generation)
  else
    let t := s.setBuffer b ((s.buffer b).map fun e => { e with pending := true })
    t.reply .stageCommit scope tag .ok (commitData true (t.slot k).generation)

/-- TBS takes STAGE_COMMIT (R26). -/
def takeStageCommit (scope : BitVec 4) (tag : BitVec 8) (s : State) : State :=
  let k := slotOf scope
  if s.prot.protects k then s.reply .stageCommit scope tag .locked []
  else match s.sessionBuffer k, s.session k with
    | some b, some e =>
      if e.pending then s.reply .stageCommit scope tag .held []
      else match validate e.tables with
        | some (table, row) =>
          s.queueReply (replyMsg scope tag (replyWord Kind.stageCommit.code .invalid table row) [])
        | none => s.commit k b scope tag
    | _, _ => s.reply .stageCommit scope tag .refused []

/-- STAGE_COMMIT (R26). -/
def execStageCommit (scope : BitVec 4) (tag : BitVec 8) (s : State) : Host.Outcome State Fault Refusal :=
  .next (s.complete .stageCommit scope tag 0 true (takeStageCommit scope tag)).endEvent

/-! ### STAGE_DISCARD, READ_ROWS (R34, R35) -/

/-- TBS takes STAGE_DISCARD (R34). -/
def takeStageDiscard (scope : BitVec 4) (tag : BitVec 8) (s : State) : State :=
  let k := slotOf scope
  match s.sessionBuffer k with
  | none => s.reply .stageDiscard scope tag .refused []
  | some b =>
    if s.commitPending k then s.reply .stageDiscard scope tag .refused []
    else (s.setBuffer b none).reply .stageDiscard scope tag .ok []

/-- STAGE_DISCARD (R34). -/
def execStageDiscard (scope : BitVec 4) (tag : BitVec 8) (s : State) : Host.Outcome State Fault Refusal :=
  .next (s.complete .stageDiscard scope tag 0 true (takeStageDiscard scope tag))

/-- The rows READ_ROWS returns, up to the three bounds of R35. -/
def readRows (rows : List Row) (table first count : Nat) : List Row :=
  (rows.drop first).take (min count (61 / rowSize table))

/-- TBS takes READ_ROWS (R35). -/
def takeReadRows (scope : BitVec 4) (tag : BitVec 8) (w : Word) (s : State) : State :=
  let k := slotOf scope
  let table := bits w 24 8
  let bank := bits w 16 8
  let first := bits w 8 8
  let count := bits w 0 8
  if 3 < table || 1 < bank then s.reply .readRows scope tag .range []
  else if bank == 0 && !(s.slot k).loaded then s.reply .readRows scope tag .notReady []
  else
    let source := if bank == 0 then some (s.slot k).tables else (s.session k).map (·.tables)
    match source with
    | none => s.reply .readRows scope tag .refused []
    | some t =>
      if (t.get table).length < first then s.reply .readRows scope tag .range []
      else s.reply .readRows scope tag .ok (readRows (t.get table) table first count).flatten

/-- READ_ROWS (R35). -/
def execReadRows (scope : BitVec 4) (tag : BitVec 8) (w : Word) (s : State) : Host.Outcome State Fault Refusal :=
  .next (s.complete .readRows scope tag 1 true (takeReadRows scope tag w))

/-! ### Protection (R38–R40) -/

/-- TBS takes PROTECT_RANGE (R38). -/
def takeProtectRange (scope : BitVec 4) (tag : BitVec 8) (w : Word) (s : State) : State :=
  let lower := bits w 16 8
  let upper := bits w 8 8
  let invert := bits w 0 8
  if s.prot.freeze then s.reply .protectRange scope tag .locked []
  else if 7 < lower || 7 < upper || 1 < invert || upper < lower then s.reply .protectRange scope tag .range []
  else
    let t : State := { s with prot := { s.prot with lower, upper, invert := invert == 1, allProtected := false } }
    t.reply .protectRange scope tag .ok []

/-- PROTECT_RANGE (R38). -/
def execProtectRange (scope : BitVec 4) (tag : BitVec 8) (w : Word) (s : State) : Host.Outcome State Fault Refusal :=
  .next (s.complete .protectRange scope tag 1 true (takeProtectRange scope tag w))

/-- TBS takes PROTECT_ALL (R38). -/
def takeProtectAll (scope : BitVec 4) (tag : BitVec 8) (s : State) : State :=
  if s.prot.freeze then s.reply .protectAll scope tag .locked []
  else
    let t : State := { s with prot := { s.prot with allProtected := true } }
    t.reply .protectAll scope tag .ok []

/-- PROTECT_ALL (R38). -/
def execProtectAll (scope : BitVec 4) (tag : BitVec 8) (s : State) : Host.Outcome State Fault Refusal :=
  .next (s.complete .protectAll scope tag 0 true (takeProtectAll scope tag))

/-- TBS takes FREEZE (R39). -/
def takeFreeze (scope : BitVec 4) (tag : BitVec 8) (s : State) : State :=
  let t : State := { s with prot := { s.prot with freeze := true } }
  t.reply .freeze scope tag .ok []

/-- FREEZE (R39). -/
def execFreeze (scope : BitVec 4) (tag : BitVec 8) (s : State) : Host.Outcome State Fault Refusal :=
  .next (s.complete .freeze scope tag 0 true (takeFreeze scope tag))

/-- The protection state PROTECT_QUERY reports (R40): 0 protected and frozen, 1 protected, 2 frozen, 3 neither. -/
def Protection.state (p : Protection) (k : SlotId) : Nat :=
  (if p.protects k then 0 else 2) + (if p.freeze then 0 else 1)

/-- The reply data of PROTECT_QUERY (R40; R18, Reply data). Without a session its buffer, mode, phase and plan touched,
bits 28:25 of the first of these words, are sent as 0 (DESIGN CHOICE, log 38). -/
def protectData (s : State) (k : SlotId) : List Word :=
  let x := s.slot k
  [put (s.prot.state k) 0 2 ||| flag s.prot.allProtected 2 ||| put s.prot.lower 4 3 ||| put s.prot.upper 8 3 |||
     flag s.prot.invert 12 ||| flag x.loaded 16 ||| put x.occupancy 18 3 |||
     (match s.sessionBuffer k, s.session k with
      | some b, some e =>
        flag true 24 ||| put b.val 25 1 ||| flag e.copy 26 ||| flag e.pending 27 ||| flag e.planTouched 28
      | _, _ => 0#32),
   put x.generation.toNat 0 16]

/-- TBS takes PROTECT_QUERY (R40). -/
def takeProtectQuery (scope : BitVec 4) (tag : BitVec 8) (s : State) : State :=
  s.reply .protectQuery scope tag .ok (protectData s (slotOf scope))

/-- PROTECT_QUERY (R40). -/
def execProtectQuery (scope : BitVec 4) (tag : BitVec 8) (s : State) : Host.Outcome State Fault Refusal :=
  .next (s.complete .protectQuery scope tag 0 true (takeProtectQuery scope tag))

end Sys2Proof.Machine
end

