-- ==== Sys2Proof/Machine/Frame.lean ====
section
/-! DEFINITION. LNK's frames: LINE_FRAME (R5), the assembler and the handing of messages to their owners (R8–R10), the
arbiter (R15), HEAD_FRAME in R1's order, HEAD_LOSS (R4, R59, R77). -/

namespace Sys2Proof.Machine

/-! ### LINE_FRAME (R5) -/

/-- A line-side frame arrives (R5). -/
def State.receiveLine (s : State) (word0 control aux : Word) : State :=
  if s.lnk.presence != .present then s
  else if word0.extractLsb' 8 24 != Config.syncFromLine then s.linkError
  else
    let t := s.modLnk fun l => { l with store := some ⟨control, aux⟩ }
    if s.lnk.store.isSome then t.linkError else t

/-- LINE_FRAME (R5). -/
def execLineFrame (word0 control aux : Word) (s : State) : Host.Outcome State Fault Refusal :=
  .next (s.receiveLine word0 control aux)

/-! ### The message assembler (R8) and the owners of the kinds (R10, R18) -/

/-- The owner takes a message that has passed the tests of R10. -/
def takeMessage (k : Kind) (scope : BitVec 4) (tag : BitVec 8) (body : List Word) : State → State :=
  let w0 := body.getD 0 0#32
  let w1 := body.getD 1 0#32
  match k with
  | .hello => takeHello scope tag
  | .status => takeStatus scope tag w0
  | .noticeSet => takeNoticeSet scope tag w0
  | .softReset => takeSoftReset scope tag
  | .tapSelect => takeTapSelect scope tag w0
  | .stageOpen => takeStageOpen scope tag w0
  | .stageRows => takeStageRows scope tag body
  | .stageCommit => takeStageCommit scope tag
  | .stageDiscard => takeStageDiscard scope tag
  | .readRows => takeReadRows scope tag w0
  | .protectRange => takeProtectRange scope tag w0
  | .protectAll => takeProtectAll scope tag
  | .freeze => takeFreeze scope tag
  | .protectQuery => takeProtectQuery scope tag
  | .nestConfig => takeNestConfig scope tag w0 w1
  | .start => takeStart scope tag w0 w1
  | .abort => takeAbort scope tag
  | .nestQuery => takeNestQuery scope tag
  | .ambientConfig => takeAmbientConfig scope tag w0
  | .refBegin => takeRefBegin scope tag w0
  | .refCancel => takeRefCancel scope tag
  | .lotOpen => takeLotOpen scope tag w0
  | .lotClose => takeLotClose scope tag
  | .lotQuery => takeLotQuery scope tag
  | .retestQuery => takeRetestQuery scope tag
  | .markConfig => takeMarkConfig scope tag w0

/-- A message is complete (R10): its header and body, and the word taken as its check word. -/
def State.completeMessage (s : State) (words : List Word) (check : Word) : State :=
  let h := words.getD 0 0#32
  let body := words.drop 1
  match Kind.ofCode (headerKind h) with
  | some k =>
    s.complete k (headerScope h) (headerTag h) body.length (check == checkWord words)
      (takeMessage k (headerScope h) (headerTag h) body)
  | none => s.completeUnknown (headerKind h) (headerScope h) (headerTag h)

/-- The assembler takes in one control word (R8). -/
def State.assemble (s : State) (w : Word) : State :=
  match s.lnk.asm with
  | .hunt =>
    if w == 0#32 then s
    else if isHeader w then
      s.modLnk fun l =>
        { l with asm := if headerLength w == 0#6 then .check [w] else .body [w] (headerLength w).toNat }
    else s.linkError
  | .body words toCome =>
    s.modLnk fun l =>
      { l with asm := if toCome ≤ 1 then .check (words ++ [w]) else .body (words ++ [w]) (toCome - 1) }
  | .check words => (s.modLnk fun l => { l with asm := .hunt }).completeMessage words w

/-! ### The transmitter and the arbiter (R15) -/

/-- The words of a message the part sends (R11). -/
def Msg.words (m : Msg) : List Word := messageWords m.kind m.scope m.tag m.body

/-- The transmitter begins a message: its header goes in this frame, the rest stays to be sent (R15). -/
def Link.beginMessage (l : Link) (m : Msg) : Link := { l with tx := m.words.drop 1 }

/-- The control word of a line-bound frame, and the state after it (R15). A message begun leaves its queue; a place of
the event queue that so becomes free is filled from the wait line (R14). -/
def State.nextControl (s : State) : Word × State :=
  match s.lnk.tx, s.lnk.replyQ, s.lnk.eventQ with
  | w :: rest, _, _ => (w, s.modLnk fun l => { l with tx := rest })
  | [], m :: rest, _ => (m.words.headD 0#32, s.modLnk fun l => { l with replyQ := rest }.beginMessage m)
  | [], [], m :: rest =>
    (m.words.headD 0#32, (s.modLnk fun l => { l with eventQ := rest }.beginMessage m).fillPlaces)
  | [], [], [] => (0#32, s)

/-! ### The head frame's parts (R1–R3, R18) -/

/-- The sync pattern of a head frame is right (R2). -/
def frameSyncOk (f : HeadFrame) : Bool := f.word0.extractLsb' 8 24 == Config.syncFromHead

/-- The frame count field as received. -/
def frameCount (f : HeadFrame) : BitVec 8 := f.word0.extractLsb' 0 8

/-- The sample field of a slot, 0–8 for M0–M3, C0–C3, A. -/
def frameSample (f : HeadFrame) (i : Fin 9) : Sample := f.samples[i].extractLsb' 0 24

/-- A channel as handed on: marked invalid in a frame with a wrong sync pattern (R1, R2). -/
def frameChannel (f : HeadFrame) (i : Fin 9) : Channel := { valid := frameSyncOk f && bit f.samples[i] 31, sample := frameSample f i }

/-- The aux word, zero in a frame with a wrong sync pattern (R2, R6). -/
def frameAux (f : HeadFrame) : Word := if frameSyncOk f then f.aux else 0#32

/-- The frame is a slip frame: a wrong sync pattern, or a count that is not the one expected (R2, R3). -/
def Link.slips (l : Link) (f : HeadFrame) : Bool :=
  !frameSyncOk f || (match l.expect with
    | some e => frameCount f != e
    | none => false)

/-- The expectation after a head frame (R2, R3). -/
def Link.nextExpect (l : Link) (f : HeadFrame) : Option (BitVec 8) :=
  if frameSyncOk f then some (frameCount f + 1#8) else l.expect.map (· + 1#8)

/-- Steps 1 and 2 of R1: presence, expectation, and a slip's count and flag (R2–R4). -/
def State.arriveHead (s : State) (f : HeadFrame) : State :=
  let t := s.modLnk fun l => { l with presence := .present, elapsed := 0, expect := l.nextExpect f }
  if s.lnk.slips f then (t.modLnk fun l => { l with slip := satInc l.slip }).setFlag .slip else t

/-- The line-side frame that a head frame consumes; a missing one is all zeros (R5). -/
def Link.consumed (l : Link) : LineFrame := l.store.getD ⟨0#32, 0#32⟩

/-- Step 3 of R1: the store is emptied and its control word goes to the assembler. -/
def State.consumeLine (s : State) : State :=
  (s.modLnk fun l => { l with store := none }).assemble s.lnk.consumed.control

/-- A 24-bit value in a word, bits 31:24 repeating bit 23 (R18). -/
def extend24 (x : BitVec 24) : Word := x.signExtend 32

/-- The drive sample of a nest for this head frame, 24 bits (R43, R18). -/
def State.driveSample (s : State) (n : NestId) : BitVec 24 :=
  BitVec.ofInt 24 ((s.nest n).engine.drive (s.runTables n))

/-- The tap samples by source (R7). A source above 13 is never stored. -/
def State.tapSample (s : State) (f : HeadFrame) (source : BitVec 8) : BitVec 24 :=
  let i := source.toNat
  if i == 0 then 0
  else if h : i < 10 then frameSample f ⟨i - 1, by omega⟩
  else if h : i < 14 then s.driveSample ⟨i - 10, by omega⟩
  else 0

/-- What a head frame hands to the analysis engine of a nest (R1). -/
def frameInput (f : HeadFrame) (n : NestId) (slip : Bool) : FrameInput :=
  { mic := frameChannel f ⟨n.val, by omega⟩, cur := frameChannel f ⟨n.val + 4, by omega⟩, ref := frameChannel f 8, slip }

/-- The head-bound frame: the count as received, the drives, the held aux word (R1, R6, R18). -/
def State.headBound (s : State) (f : HeadFrame) : HeadBound :=
  { word0 := Config.syncToHead ++ frameCount f
    drive := #v[extend24 (s.driveSample 0), extend24 (s.driveSample 1), extend24 (s.driveSample 2),
                extend24 (s.driveSample 3)]
    aux := s.lnk.auxToHead }

/-- The line-bound frame: the count as received, the taps, the held aux word, the control word (R1, R6, R7, R18). -/
def State.lineBound (s : State) (f : HeadFrame) (control : Word) : LineBound :=
  { word0 := Config.syncToLine ++ frameCount f
    tap0 := extend24 (s.tapSample f s.lnk.tap0)
    tap1 := extend24 (s.tapSample f s.lnk.tap1)
    aux := s.lnk.auxToLine
    control }

/-- Step 5 of R1: both frames are built and sent; then the aux words of this head frame and of the line-side frame it
consumed are held for the next (R6). -/
def State.sendFrames (s : State) (f : HeadFrame) (lineAux : Word) : State :=
  let (control, t) := s.nextControl
  t.modLnk fun l =>
    { l with headBound := some (s.headBound f), lineBound := some (s.lineBound f control),
             auxToLine := frameAux f, auxToHead := lineAux }

/-- HEAD_FRAME in R1's order: presence, sync and count; the control word; the ambient monitor and the decisions at
window starts (R102); the frames sent; then the nests' analysis and moves, nest 0 to 3, and the event's close (log 5). A run
that the control word's ABORT ends comes before those that end at the nests' moves, whatever their nests (DESIGN CHOICE,
log 40). A lot that one of the frame's run ends makes due completes at the close, after all of them (DESIGN CHOICE,
log 41), and so does one that the control word's LOT_CLOSE finds or makes due (DESIGN CHOICE, log 42). -/
def State.headFrame (s : State) (f : HeadFrame) : State :=
  let slip := s.lnk.slips f
  let line := s.lnk.consumed
  let a := (s.arriveHead f).consumeLine
  let b := a.hearFrame (frameChannel f 8)
  let c := allNests.foldl State.decideWindow b
  let d := c.sendFrames f line.aux
  (allNests.foldl (fun t n => t.nestFrame n (frameInput f n slip)) d).endEvent

/-- HEAD_FRAME (R1). -/
def execHeadFrame (f : HeadFrame) (s : State) : Host.Outcome State Fault Refusal := .next (s.headFrame f)

/-! ### HEAD_LOSS (R4, R59, R77) -/

/-- LNK on entering LOST (R4). -/
def Link.lose (l : Link) : Link :=
  { l with presence := .lost, elapsed := Config.lossTicks, expect := none, store := none, asm := .hunt }

/-- A nest at a head loss (R77); the engine falls silent at once (R59). -/
def State.loseNest (s : State) (n : NestId) : State :=
  match (s.nest n).phase with
  | .armed | .running => s.endRun n (.aborted .headLoss)
  | .closing => s.modNest n fun x => { x with phase := .reporting, engine := x.engine.silence }
  | .idle | .reporting => s

/-- Head presence enters LOST (R4), the nests one at a time in nest order (R134). -/
def State.loseHead (s : State) : State :=
  allNests.foldl State.loseNest ((s.modLnk Link.lose).setFlag .headLoss)

/-- HEAD_LOSS: the tenth tick since the last head frame (R4). Outside PRESENT that tick has no action. A lot that one of the
run ends makes due completes at the close, after all of them (DESIGN CHOICE, log 41). -/
def execHeadLoss (s : State) : Host.Outcome State Fault Refusal :=
  if s.lnk.presence == .present then .next s.loseHead.endEvent else .next s

end Sys2Proof.Machine
end

