-- ==== Sys2Proof/Machine/Tick.lean ====
section
/-! DEFINITION. One tick of the local timebase: the debounces (R39, R62, R144), head presence (R4), seat timers (R68),
label ages (R146, R154, R155) and the notice period (R171), in the order of log 9. -/

namespace Sys2Proof.Machine

/-- Consecutive samples a debounce code asks for (R62, R144). With code 0, none: an event row sets line and level at once;
where a configuration or a soft reset leaves them apart, the level follows at the next tick (log 10). -/
def debounceSamples : Nat → Nat
  | 0 => 0 | 1 => 1 | 2 => 5 | _ => 20

/-- The KEY input's samples (R39). -/
def keySamples : Nat := 20

/-- A sample of the line completes the count at a new level: the debounced level changes now. -/
def Debounce.changes (d : Debounce) (samples : Nat) : Bool := d.line != d.stable && samples ≤ d.count + 1

/-- The input after one sample: changed, counting, or restarted by a sample at the old level (R62). -/
def Debounce.sample (d : Debounce) (samples : Nat) : Debounce :=
  if d.line == d.stable then { d with count := 0 }
  else if samples ≤ d.count + 1 then { d with stable := d.line, count := 0 }
  else { d with count := d.count + 1 }

/-- The KEY input (R39, R79). -/
def State.tickKey (s : State) : State :=
  let d := s.prot.key
  let t : State := { s with prot := { s.prot with key := d.sample keySamples } }
  if d.changes keySamples then (if d.line then t.keyTurnedOn else t.keyTurnedOff) else t

/-- The SEAT input of a nest (R62, R68, R74). -/
def State.tickSeat (s : State) (n : NestId) : State :=
  let d := (s.nest n).seat
  let need := debounceSamples (s.nest n).config.seatCode
  let t := s.modNest n fun x => { x with seat := d.sample need }
  if d.changes need then (if d.line then t.seatClosed n else t.seatOpened n) else t

/-- Every input of the marking port takes its sample (R144). -/
def Marking.sampleInputs (m : Marking) : Marking :=
  let need := debounceSamples m.code
  { m with req := m.req.sample need, marked := m.marked.sample need, jam := m.jam.sample need,
           nestLo := m.nestLo.sample need, nestHi := m.nestHi.sample need }

/-- The marking port: REQ with the debounced NEST value, then MARKED, then JAM (R144, R149–R153). A falling MARKED or JAM
has no effect. -/
def State.tickMarking (s : State) : State :=
  let m := s.mrk
  let need := debounceSamples m.code
  let a := s.modMrk Marking.sampleInputs
  let b := if m.req.changes need then (if m.req.line then a.requestRising a.mrk.nestValue else a.requestFalling) else a
  let c := if m.marked.changes need && m.marked.line then b.markedRising else b
  if m.jam.changes need && m.jam.line then c.jamRising else c

/-- Head presence (R4): in PRESENT the time advances, and its tenth tick is the loss. -/
def State.tickPresence (s : State) : State :=
  if s.lnk.presence == .present then
    if Config.lossTicks ≤ s.lnk.elapsed + 1 then s.loseHead
    else s.modLnk fun l => { l with elapsed := l.elapsed + 1 }
  else s

/-- The seat timer of an ARMED nest (R68). -/
def State.tickSeatTimer (s : State) (n : NestId) : State :=
  if (s.nest n).phase == .armed then
    if (s.nest n).run.seatTimer ≤ 1 then s.seatTimedOut n
    else s.modRun n fun r => { r with seatTimer := r.seatTimer - 1 }
  else s

/-- The notice period timer (R171). -/
def State.tickNotices (s : State) : State :=
  match s.ntc.timer with
  | none => s
  | some e =>
    let t := s.modNtc fun c => { c with timer := some (e + 1) }
    if s.ntc.period * 100 ≤ e + 1 then t.periodExpiry else t

/-- One tick (log 9): notice period and label ages, so that a period, a record or an issue that begins at this tick counts
from the next one (R146, R171); then key, seats 0 to 3, marking port, head presence, seat timers 0 to 3, and the close of
the event (R14). R134's nest order holds among the seats, among the nests of a head loss and among the seat timers, not
across them: a SEAT_LOSS at nest 3 comes before a SEAT_TIMEOUT at nest 0 (DESIGN CHOICE, log 40). A lot that one of the
tick's run ends makes due completes at the close, after all of them (DESIGN CHOICE, log 41). -/
def State.tick (s : State) : State :=
  let a := allNests.foldl State.tickSeat s.tickNotices.tickLabels.tickKey
  let b := a.tickMarking.tickPresence
  (allNests.foldl State.tickSeatTimer b).endEvent

end Sys2Proof.Machine
end

