-- ==== Sys2Proof/Machine/Dispatch.lean ====
section
/-! DEFINITION. The meaning of every command: one arm for each row of spec/opcode_table.json. -/

namespace Sys2Proof.Machine

def exec (i : Instr) (s : State) : Host.Outcome State Fault Refusal :=
  match i with
  | .powerOn strap => Sys2Proof.Machine.execPowerOn strap s
  | .headFrame f => Sys2Proof.Machine.execHeadFrame f s
  | .lineFrame word0 control aux => Sys2Proof.Machine.execLineFrame word0 control aux s
  | .waitLineAdmit => Sys2Proof.Machine.execWaitLineAdmit s
  | .headLoss => Sys2Proof.Machine.execHeadLoss s
  | .hello scope tag => Sys2Proof.Machine.execHello scope tag s
  | .status scope tag w => Sys2Proof.Machine.execStatus scope tag w s
  | .noticeSet scope tag w => Sys2Proof.Machine.execNoticeSet scope tag w s
  | .softReset scope tag => Sys2Proof.Machine.execSoftReset scope tag s
  | .tapSelect scope tag w => Sys2Proof.Machine.execTapSelect scope tag w s
  | .stageOpen scope tag w => Sys2Proof.Machine.execStageOpen scope tag w s
  | .stageRows scope tag body => Sys2Proof.Machine.execStageRows scope tag body s
  | .stageCommit scope tag => Sys2Proof.Machine.execStageCommit scope tag s
  | .deferredSwap slot => Sys2Proof.Machine.execDeferredSwap slot s
  | .stageDiscard scope tag => Sys2Proof.Machine.execStageDiscard scope tag s
  | .readRows scope tag w => Sys2Proof.Machine.execReadRows scope tag w s
  | .protectRange scope tag w => Sys2Proof.Machine.execProtectRange scope tag w s
  | .protectAll scope tag => Sys2Proof.Machine.execProtectAll scope tag s
  | .freeze scope tag => Sys2Proof.Machine.execFreeze scope tag s
  | .protectQuery scope tag => Sys2Proof.Machine.execProtectQuery scope tag s
  | .keyOn => Sys2Proof.Machine.execKeyOn s
  | .keyOff => Sys2Proof.Machine.execKeyOff s
  | .nestConfig scope tag w0 w1 => Sys2Proof.Machine.execNestConfig scope tag w0 w1 s
  | .start scope tag w0 w1 => Sys2Proof.Machine.execStart scope tag w0 w1 s
  | .abort scope tag => Sys2Proof.Machine.execAbort scope tag s
  | .nestQuery scope tag => Sys2Proof.Machine.execNestQuery scope tag s
  | .seatClosed nest => Sys2Proof.Machine.execSeatClosed nest s
  | .seatLoss nest => Sys2Proof.Machine.execSeatLoss nest s
  | .seatTimeout nest => Sys2Proof.Machine.execSeatTimeout nest s
  | .windowStart nest => Sys2Proof.Machine.execWindowStart nest s
  | .windowEnd nest => Sys2Proof.Machine.execWindowEnd nest s
  | .dwellEnd nest => Sys2Proof.Machine.execDwellEnd nest s
  | .stepFadeEnd nest => Sys2Proof.Machine.execStepFadeEnd nest s
  | .fadeEnd nest => Sys2Proof.Machine.execFadeEnd nest s
  | .promotion slot => Sys2Proof.Machine.execPromotion slot s
  | .ambientLoud => Sys2Proof.Machine.execAmbientLoud s
  | .ambientQuiet => Sys2Proof.Machine.execAmbientQuiet s
  | .ambientConfig scope tag w => Sys2Proof.Machine.execAmbientConfig scope tag w s
  | .refBegin scope tag w => Sys2Proof.Machine.execRefBegin scope tag w s
  | .refCancel scope tag => Sys2Proof.Machine.execRefCancel scope tag s
  | .lotOpen scope tag w => Sys2Proof.Machine.execLotOpen scope tag w s
  | .lotClose scope tag => Sys2Proof.Machine.execLotClose scope tag s
  | .lotQuery scope tag => Sys2Proof.Machine.execLotQuery scope tag s
  | .lotComplete slot => Sys2Proof.Machine.execLotComplete slot s
  | .retestQuery scope tag => Sys2Proof.Machine.execRetestQuery scope tag s
  | .markConfig scope tag w => Sys2Proof.Machine.execMarkConfig scope tag w s
  | .reqRising nest => Sys2Proof.Machine.execReqRising nest s
  | .reqFalling => Sys2Proof.Machine.execReqFalling s
  | .markedResult => Sys2Proof.Machine.execMarkedResult s
  | .jamResult => Sys2Proof.Machine.execJamResult s
  | .issueTimeout => Sys2Proof.Machine.execIssueTimeout s
  | .queueExpiry index => Sys2Proof.Machine.execQueueExpiry index s
  | .noticePeriodExpiry => Sys2Proof.Machine.execNoticePeriodExpiry s

end Sys2Proof.Machine
end

