-- ==== Sys2Proof/Safety.lean ====
section
/-! DEFINITION. The invariants and the conditions that claims use. -/

namespace Sys2Proof.Machine

/-- The queues keep their capacities, and the event queue is full whenever the wait line is not empty (R12–R14). -/
def State.QueuesOk (s : State) : Prop :=
  s.lnk.replyQ.length ≤ Config.replyCap ∧ s.lnk.eventQ.length ≤ Config.eventCap ∧
    (s.lnk.waitLine ≠ [] → s.lnk.eventQ.length = Config.eventCap)

/-- The reply queue has a place, so that a completing message is not an overrun (R10, R12). -/
def State.ReplyRoom (s : State) : Prop := s.lnk.replyQ.length < Config.replyCap

/-- The scope field that names a nest (R18). -/
def nestScope (n : NestId) : BitVec 4 := BitVec.ofNat 4 n.val

/-- The scope field that names a slot (R18). -/
def slotScope (k : SlotId) : BitVec 4 := BitVec.ofNat 4 k.val

/-- R162 for one lot. -/
def Lot.Balanced (l : Lot) : Prop :=
  l.started = l.passed + l.failed + l.aborted + l.outstanding + l.inFlight + l.awaiting

/-- The nest's run holds a unit of its lot: counted, in ARMED or RUNNING (R157, R160). -/
def Nest.counts (x : Nest) : Bool := x.phase.active && x.run.kind == .counted

/-- Units of a lot in flight (R157). -/
def State.unitsInFlight (s : State) (id : Word) : Nat :=
  (allNests.filter fun n => (s.nest n).counts && (s.nest n).run.lotId == id).length

/-- Units of a lot that await marking: its FINAL label records (R157). -/
def State.unitsAwaiting (s : State) (id : Word) : Nat :=
  (s.mrk.records.filter fun r => r.kind != .retest && r.lotId == id).length

/-- Units of a lot with a retest outstanding: its retest entries (R157). -/
def State.unitsOutstanding (s : State) (id : Word) : Nat := (s.retest.filter fun e => e.lotId == id).length

/-- Nests in ARMED or RUNNING on a slot (R19). -/
def State.occupants (s : State) (k : SlotId) : Nat :=
  (allNests.filter fun n => (s.nest n).phase.active && (s.nest n).run.slot == k).length

/-- Every unit is counted once: R162 for every lot, its counters against the nests, labels and retest entries that hold
its units; R19 for the occupancies; the capacities of R135 and R146; R141 for the VERDICTs that wait; and the bindings
that keep these true. -/
structure CountsOk (s : State) : Prop where
  /-- R162, with in_flight, awaiting_mark and outstanding as counted. -/
  lots : ∀ k l, s.lot k = some l → l.Balanced ∧ l.inFlight = s.unitsInFlight l.id ∧
    l.awaiting = s.unitsAwaiting l.id ∧ l.outstanding = s.unitsOutstanding l.id
  /-- A lot whose LOT_SUMMARY waits is CLOSING and has no unit left (R164). -/
  summaries : ∀ k l, s.lot k = some l → l.summary ≠ none →
    l.closing = true ∧ l.inFlight = 0 ∧ l.awaiting = 0 ∧ l.outstanding = 0
  /-- No two lots have one id (R158). -/
  ids : ∀ j k l m, s.lot j = some l → s.lot k = some m → l.id = m.id → j = k
  /-- A counted run is bound to the lot of its slot (R66, R67). -/
  runs : ∀ n, (s.nest n).counts = true → ∃ l, s.lot (s.nest n).run.slot = some l ∧ l.id = (s.nest n).run.lotId
  /-- The lot of a FINAL label record stands (R164). -/
  labels : ∀ r ∈ s.mrk.records, r.kind ≠ .retest → ∃ k l, s.lot k = some l ∧ l.id = r.lotId
  /-- A retest entry is bound to the lot of its slot (R137, R138). -/
  entries : ∀ e ∈ s.retest, ∃ l, s.lot e.slot = some l ∧ l.id = e.lotId
  /-- A serial has at most one retest entry (R135). -/
  entrySerials : (s.retest.map (·.serial)).Nodup
  /-- No two nests in ARMED or RUNNING have one serial (R66). -/
  runSerials : ∀ m n, m ≠ n → (s.nest m).phase.active = true → (s.nest n).phase.active = true →
    (s.nest m).run.serial ≠ (s.nest n).run.serial
  /-- A unit in flight has no retest entry (R136). -/
  runEntries : ∀ n, (s.nest n).counts = true → ∀ e ∈ s.retest, e.serial ≠ (s.nest n).run.serial
  /-- R19: the occupancy is the number of nests in ARMED or RUNNING on the slot. -/
  occupancy : ∀ k, (s.slot k).occupancy = s.occupants k
  /-- A VERDICT stands only at a nest whose run has ended and that has not returned to IDLE (R141). -/
  verdicts : ∀ n, (s.nest n).verdictOut ≠ none → (s.nest n).phase = .closing ∨ (s.nest n).phase = .reporting
  /-- R135, R146. -/
  capacities : s.retest.length ≤ Config.retestCap ∧ s.mrk.records.length ≤ Config.labelCap ∧
    (s.mrk.records.filter (·.issued)).length ≤ 1

/-- Between two events a producer stands in the wait line exactly while its message waits, and stands there once (R14): NTC by
its outbox (R174), a nest in REPORTING with its VERDICT (R141), a slot with a REF_DONE (R125), a lot whose summary waits
(R164). No STEP_RESULT is left over (R13), and a slot whose REF_DONE waits has no capture (R117). -/
structure LineOk (s : State) : Prop where
  /-- A producer joins the line once (R14). -/
  distinct : s.lnk.waitLine.Nodup
  /-- R174. Inside a soft reset alone the request is deferred (R16). -/
  notice : (s.ntc.outbox = .waiting ∧ .ntc ∈ s.lnk.waitLine) ∨ (s.ntc.outbox = .empty ∧ .ntc ∉ s.lnk.waitLine)
  /-- R141. -/
  verdicts : ∀ n, .vrd n ∈ s.lnk.waitLine ↔ (s.nest n).phase = .reporting ∧ (s.nest n).verdictOut ≠ none
  /-- R141: no VERDICT before the run end, none after the return to IDLE. -/
  verdictPhases : ∀ n, (s.nest n).verdictOut ≠ none → (s.nest n).phase = .closing ∨ (s.nest n).phase = .reporting
  /-- R125. -/
  refDones : ∀ k, .tbs k ∈ s.lnk.waitLine ↔ (s.slot k).refDone ≠ none
  /-- R117: REF_BEGIN is refused while a REF_DONE waits. -/
  captures : ∀ k, (s.slot k).refDone ≠ none → (s.slot k).capture = .idle
  /-- R164. -/
  summaries : ∀ k, .yld k ∈ s.lnk.waitLine ↔ (s.lot k).bind (·.summary) ≠ none
  /-- R13. -/
  results : ∀ n, (s.nest n).stepOut = none

/-- Nothing is left to do at the end of an event: no lot is due to complete, and no producer has a message to offer
(R13, R14, R164). -/
def State.Settled (s : State) : Prop :=
  (∀ k, s.lotDue k = false) ∧ (∀ n, (s.nest n).stepOut = none) ∧ (∀ n, s.verdictReady n = false) ∧
    (∀ k, s.refDoneReady k = false) ∧ (∀ k, s.summaryReady k = false)

end Sys2Proof.Machine
end

