-- ==== Sys2Proof/Certificates/Slice0/Obligations.lean ====
section
/-! DEFINITION. The statements for the provers. `s.reply k scope tag code data` is the state with one more reply, whose
form `Obligations.ReplyForm` states; `endEvent` is what closes an event (R14, R164), which
`Obligations.EndOfEvent` states. -/

open Sys2Proof Sys2Proof.Machine

/-! ### The queue of commands, completion -/

/-- The command at the front of the queue is taken; on an empty queue the local timebase ticks (the model's choice,
DESIGN CHOICE, log 1). -/
def Obligations.StepTakesFront : Prop :=
  (∀ (c : Instr) (rest : List Instr) (s : State),
    step { s with pending := c :: rest } = exec c { s with pending := rest }) ∧
  (∀ s : State, s.pending = [] → step s = .next s.tick)

/-- Every command completes from every state, and leaves the queue of commands as it is: the spec names no event that
stops the part. Two of the model's choices are part of this: POWER_ON keeps the queue of commands too (DESIGN CHOICE,
log 2), and an event's row in a state that has no such event answers next and changes nothing (DESIGN CHOICE, log 3). -/
def Obligations.EveryCommandCompletes : Prop :=
  ∀ (c : Instr) (s : State), ∃ t : State, exec c s = .next t ∧ t.pending = s.pending

/-- R12, R13, R14: at most 4 replies and at most 16 events wait, and the event queue is full whenever the wait line is
not empty; every step keeps this, a tick too.
R14, R125, R141, R164, R174: every step keeps `LineOk`: a producer stands in the wait line exactly while its message waits, and
once. -/
def Obligations.StepKeepsQueues : Prop :=
  (∀ s t : State, s.QueuesOk → step s = .next t → t.QueuesOk) ∧
  (∀ s t : State, LineOk s → step s = .next t → LineOk t)

/-- The state after power-on has these invariants, and the counting invariant of `ReportsKeepBalance`: no lot, no occupancy,
both lists empty. -/
def Obligations.ResetQueuesOk : Prop := State.reset.QueuesOk ∧ CountsOk State.reset ∧ LineOk State.reset

/-! ### Messages -/

/-- R9, R10, R11, R18: the words that carry a command of the line computer read back as that command: its header, its body
and its check word. -/
def Obligations.MessageRoundTrip : Prop :=
  ∀ (i : Instr) (k : Kind) (scope : BitVec 4) (tag : BitVec 8) (body : List Word),
    i.wf = true → i.message = some (k, scope, tag, body) → k.lengthOk body.length = true → k.scopeOk scope = true →
    ∃ ws, i.wireWords = some ws ∧ ws.length = body.length + 2 ∧ parseMessage ws = some i ∧
      ∃ h, h = headerWord scope k.code tag (BitVec.ofNat 6 body.length) ∧ ws = h :: body ++ [checkWord (h :: body)]

/-- R9: a header word with any one of its 32 bits inverted is no valid header.
R18: the fields of a header word: marker 5, scope, kind, tag and length. -/
def Obligations.HeaderDetectsOneBit : Prop :=
  (∀ (scope : BitVec 4) (kind tag : BitVec 8) (len : BitVec 6),
    let h := headerWord scope kind tag len
    h.extractLsb' 28 4 = 5#4 ∧ h.extractLsb' 24 4 = scope ∧ h.extractLsb' 16 8 = kind ∧ h.extractLsb' 8 8 = tag ∧
      h.extractLsb' 2 6 = len) ∧
  (∀ (scope : BitVec 4) (kind tag : BitVec 8) (len : BitVec 6) (i : Nat), len ≠ 63#6 → i < 32 →
    isHeader (headerWord scope kind tag len) = true ∧
    isHeader (headerWord scope kind tag len ^^^ (1#32 <<< i)) = false)

/-- R8, R10: fed the words of a message one by one, an assembler in HUNT hands the message to the tests of R10 and to
its owner. That the command's row takes the same message, with its scope, tag and body as the row's operands, and that the
row closes its event where the command can bring offers, are the model's choices (logs 11, 12 and 30). -/
def Obligations.AssemblerTakesMessage : Prop :=
  ∀ (k : Kind) (scope : BitVec 4) (tag : BitVec 8) (body : List Word) (s : State),
    s.lnk.asm = .hunt → k.lengthOk body.length = true →
    let t := s.complete k scope tag body.length true (takeMessage k scope tag body)
    (messageWords k.code scope tag body).foldl State.assemble s = t ∧
    (exec (k.command scope tag body) s = .next t ∨ exec (k.command scope tag body) s = .next t.endEvent)

/-- R11, R12: a reply joins the end of the reply queue; it copies scope and tag, and its first word holds the kind
answered and the result code, with the detail field 0; nothing else changes. -/
def Obligations.ReplyForm : Prop :=
  ∀ (s : State) (k : Kind) (scope : BitVec 4) (tag : BitVec 8) (code : ResultCode) (data : List Word),
    ∃ w : Word, w.extractLsb' 24 8 = k.code ∧ (w.extractLsb' 16 8).toNat = code.value ∧ w.extractLsb' 0 16 = 0#16 ∧
      s.reply k scope tag code data =
        { s with lnk := { s.lnk with replyQ := s.lnk.replyQ ++ [⟨0x81#8, scope, tag, w :: data⟩] } }

/-- R10: with 4 replies waiting, a message other than a SOFT_RESET of an accepted scope is discarded: the overrun count
rises and LINK_FAULT is set, and no reply is made.
R10, tests 2 and 4: with a reply place free, a command whose length is not allowed is answered LENGTH, and one whose
scope is not accepted RANGE; it is not executed.
R10, tests 1 to 4 at the check word: a kind that is not in the table of section 1.6 is answered UNKNOWN; else a length
that is not allowed LENGTH; else a wrong check word CHECK; else a scope that is not accepted RANGE; the assembler is in
HUNT after it and nothing else changes. With 4 replies waiting such a message is an overrun, a SOFT_RESET too.
R8, R9: a control word in HUNT: the idle word is skipped, a valid header is kept, and any other word is a link error, counted,
saturating, with LINK_FAULT set; in BODY every word is appended. R9: what makes a valid header.
R10, test 3, R18: the right check word has the sum mod 65536 of all half-words of header and body in its low half, and the
ones' complement of that in its high half. R18: the kinds with their codes, accepted scopes and allowed lengths. -/
def Obligations.MessageTests : Prop :=
  (∀ (i : Instr) (k : Kind) (scope : BitVec 4) (tag : BitVec 8) (body : List Word) (s : State),
     i.message = some (k, scope, tag, body) → Config.replyCap ≤ s.lnk.replyQ.length →
     (k ≠ .softReset ∨ k.scopeOk scope = false) →
     ∃ t : State, (exec i s = .next t ∨ exec i s = .next t.endEvent) ∧ t.lnk.replyQ = s.lnk.replyQ ∧
       t.lnk.overrun = min (s.lnk.overrun + 1) 65535 ∧ t.ntc.flags.getLsbD 0 = true ∧
       t.slots = s.slots ∧ t.buffers = s.buffers ∧ t.prot = s.prot ∧ t.nests = s.nests ∧ t.amb = s.amb ∧
       t.retest = s.retest ∧ t.mrk = s.mrk ∧ t.lots = s.lots ∧ t.pending = s.pending) ∧
  (∀ (i : Instr) (k : Kind) (scope : BitVec 4) (tag : BitVec 8) (body : List Word) (s : State),
     i.message = some (k, scope, tag, body) → s.ReplyRoom →
     (k.lengthOk body.length = false →
       exec i s = .next (s.reply k scope tag .length []) ∨ exec i s = .next (s.reply k scope tag .length []).endEvent) ∧
     (k.lengthOk body.length = true → k.scopeOk scope = false →
       exec i s = .next (s.reply k scope tag .range []) ∨ exec i s = .next (s.reply k scope tag .range []).endEvent)) ∧
  (∀ (h c : Word) (body : List Word) (s : State), s.lnk.asm = .check (h :: body) →
     let hunting : State := { s with lnk := { s.lnk with asm := .hunt } }
     let answer (code : BitVec 8) : State := { hunting with lnk := { hunting.lnk with
       replyQ := s.lnk.replyQ ++ [⟨0x81#8, h.extractLsb' 24 4, h.extractLsb' 8 8, [h.extractLsb' 16 8 ++ code ++ 0#16]⟩] } }
     let known : List (BitVec 8) := [0x01, 0x02, 0x03, 0x04, 0x05, 0x10, 0x11, 0x12, 0x13, 0x14, 0x18, 0x19, 0x1A, 0x1B,
       0x20, 0x21, 0x22, 0x23, 0x28, 0x30, 0x31, 0x38, 0x39, 0x3A, 0x3B, 0x40]
     (s.lnk.replyQ.length < 4 →
       (h.extractLsb' 16 8 ∉ known → s.assemble c = answer 0x0C#8) ∧
       (∀ k : Kind, k.code = h.extractLsb' 16 8 →
         (k.lengthOk body.length = false → s.assemble c = answer 0x0D#8) ∧
         (k.lengthOk body.length = true →
           (c ≠ checkWord (h :: body) → s.assemble c = answer 0x0E#8) ∧
           (c = checkWord (h :: body) → k.scopeOk (h.extractLsb' 24 4) = false → s.assemble c = answer 0x03#8)))) ∧
     (4 ≤ s.lnk.replyQ.length → h.extractLsb' 16 8 ∉ known ∨ c ≠ checkWord (h :: body) →
       s.assemble c = State.setFlag
         { hunting with lnk := { hunting.lnk with overrun := min (s.lnk.overrun + 1) 65535 } } .linkFault)) ∧
  (∀ w : Word, isHeader w = true ↔
     w.extractLsb' 28 4 = 5#4 ∧ w.extractLsb' 2 6 ≠ 63#6 ∧ w.getLsbD 1 = !w.getLsbD 0 ∧
     (w.getLsbD 0 = true ↔ (((List.range 30).filter fun i => w.getLsbD (i + 2)).length % 2 = 1))) ∧
  (∀ (w : Word) (s : State), s.lnk.asm = .hunt →
     (w = 0#32 → s.assemble w = s) ∧
     (isHeader w = true → s.assemble w = { s with lnk := { s.lnk with
       asm := if w.extractLsb' 2 6 = 0#6 then .check [w] else .body [w] (w.extractLsb' 2 6).toNat } }) ∧
     (w ≠ 0#32 → isHeader w = false → s.assemble w = State.setFlag
       { s with lnk := { s.lnk with linkErr := min (s.lnk.linkErr + 1) 65535 } } .linkFault)) ∧
  (∀ (w : Word) (words : List Word) (toCome : Nat) (s : State), s.lnk.asm = .body words toCome →
     s.assemble w = { s with lnk := { s.lnk with
       asm := if toCome ≤ 1 then .check (words ++ [w]) else .body (words ++ [w]) (toCome - 1) } }) ∧
  (∀ ws : List Word,
     ((checkWord ws).extractLsb' 0 16).toNat =
       (ws.map fun w => (w.extractLsb' 16 16).toNat + (w.extractLsb' 0 16).toNat).sum % 65536 ∧
     (checkWord ws).extractLsb' 16 16 = ~~~ (checkWord ws).extractLsb' 0 16) ∧
  (∀ (k : Kind) (scope : BitVec 4) (len : Nat),
     let is (code : BitVec 8) (scopes : Prop) (lengths : Prop) : Prop :=
       k.code = code ∧ (k.scopeOk scope = true ↔ scopes) ∧ (k.lengthOk len = true ↔ lengths)
     let all : Prop := scope = 15#4
     let slot : Prop := scope.toNat ≤ 7
     let nest : Prop := scope.toNat ≤ 3
     match k with
     | .hello => is 0x01#8 all (len = 0) | .status => is 0x02#8 all (len = 1) | .noticeSet => is 0x03#8 all (len = 1)
     | .softReset => is 0x04#8 all (len = 0) | .tapSelect => is 0x05#8 all (len = 1)
     | .stageOpen => is 0x10#8 slot (len = 1) | .stageRows => is 0x11#8 slot (3 ≤ len ∧ len ≤ 62)
     | .stageCommit => is 0x12#8 slot (len = 0) | .stageDiscard => is 0x13#8 slot (len = 0)
     | .readRows => is 0x14#8 slot (len = 1) | .protectRange => is 0x18#8 all (len = 1)
     | .protectAll => is 0x19#8 all (len = 0) | .freeze => is 0x1A#8 all (len = 0)
     | .protectQuery => is 0x1B#8 slot (len = 0) | .nestConfig => is 0x20#8 nest (len = 2)
     | .start => is 0x21#8 nest (len = 2) | .abort => is 0x22#8 nest (len = 0) | .nestQuery => is 0x23#8 nest (len = 0)
     | .ambientConfig => is 0x28#8 all (len = 1) | .refBegin => is 0x30#8 slot (len = 1)
     | .refCancel => is 0x31#8 slot (len = 0) | .lotOpen => is 0x38#8 slot (len = 1)
     | .lotClose => is 0x39#8 slot (len = 0) | .lotQuery => is 0x3A#8 slot (len = 0)
     | .retestQuery => is 0x3B#8 (slot ∨ all) (len = 0) | .markConfig => is 0x40#8 all (len = 1))

/-! ### LNK and NTC commands -/

/-- R175: HELLO replies with the identity, and changes nothing but the reply queue.
R172: NOTICE_SET with a period code of 0 is refused with RANGE; else it replaces the enables and the period and
nothing else.
R7: TAP_SELECT with a source above 13 is refused with RANGE; else both sources are replaced and nothing else. -/
def Obligations.LinkCommands : Prop :=
  (∀ (tag : BitVec 8) (s : State), s.ReplyRoom →
     exec (.hello 15#4 tag) s = .next (s.reply .hello 15#4 tag .ok
       [0x0C41019C#32,
        0x01000000#32 ||| (if s.prot.key.stable then 4#32 else 0#32) ||| (if s.prot.strap then 2#32 else 0#32) |||
          (if s.ntc.softCause then 1#32 else 0#32),
        96000#32, 0x08804010#32, 0x20080000#32])) ∧
  (∀ (tag : BitVec 8) (w : Word) (s : State), s.ReplyRoom →
     (w.extractLsb' 0 8 = 0#8 →
       exec (.noticeSet 15#4 tag w) s = .next (s.reply .noticeSet 15#4 tag .range [])) ∧
     (w.extractLsb' 0 8 ≠ 0#8 →
       exec (.noticeSet 15#4 tag w) s = .next
         (let t : State := { s with ntc := { s.ntc with enables := w.extractLsb' 8 8,
                                                        period := (w.extractLsb' 0 8).toNat } }
          t.reply .noticeSet 15#4 tag .ok []))) ∧
  (∀ (tag : BitVec 8) (w : Word) (s : State), s.ReplyRoom →
     (13 < (w.extractLsb' 8 8).toNat ∨ 13 < (w.extractLsb' 0 8).toNat →
       exec (.tapSelect 15#4 tag w) s = .next (s.reply .tapSelect 15#4 tag .range [])) ∧
     ((w.extractLsb' 8 8).toNat ≤ 13 → (w.extractLsb' 0 8).toNat ≤ 13 →
       exec (.tapSelect 15#4 tag w) s = .next
         (let t : State := { s with lnk := { s.lnk with tap0 := w.extractLsb' 0 8, tap1 := w.extractLsb' 8 8 } }
          t.reply .tapSelect 15#4 tag .ok [])))

/-- R173: STATUS reports flags, bitmap, monitor state and counters as they stand, then clears the named flags (with
LOW_YIELD, where it is set, the bitmap) and the named counters; nothing else changes. -/
def Obligations.StatusReadsThenClears : Prop :=
  ∀ (tag : BitVec 8) (w : Word) (s : State), s.ReplyRoom →
    ∃ w1 w2 w3 : Word,
      (w1.extractLsb' 0 8 = s.ntc.flags ∧ w1.extractLsb' 8 8 = s.ntc.bitmap ∧ w1.getLsbD 16 = s.amb.loud ∧
        w1.extractLsb' 17 15 = 0#15) ∧
      (w2.extractLsb' 16 16 = BitVec.ofNat 16 s.lnk.linkErr ∧ w2.extractLsb' 0 16 = BitVec.ofNat 16 s.lnk.overrun) ∧
      (w3.extractLsb' 16 16 = BitVec.ofNat 16 s.lnk.slip ∧ w3.extractLsb' 0 16 = BitVec.ofNat 16 s.lnk.traceLost) ∧
      exec (.status 15#4 tag w) s = .next
        (let t := s.reply .status 15#4 tag .ok [w1, w2, w3]
         { t with
           ntc := { s.ntc with
             flags := s.ntc.flags &&& ~~~ w.extractLsb' 0 8
             bitmap := if w.getLsbD 4 && s.ntc.flags.getLsbD 4 then 0#8 else s.ntc.bitmap }
           lnk := { t.lnk with
             linkErr := if w.getLsbD 8 then 0 else s.lnk.linkErr
             overrun := if w.getLsbD 9 then 0 else s.lnk.overrun
             slip := if w.getLsbD 10 then 0 else s.lnk.slip
             traceLost := if w.getLsbD 11 then 0 else s.lnk.traceLost } })

/-- R16, R41, R59, R78, R126, R156, R170, R176: what a SOFT_RESET leaves, whatever the reply queue holds: its reply
alone in the reply queue, the post-reset NOTICE first in the event queue, the counters 0, every nest IDLE and SILENT,
no session, no capture, no label, the monitor QUIET; tables, references, protection, configurations, link position and
the message being sent are kept. That the post-reset NOTICE carries the monitor's state as it stood before the reset is
the model's reading (DEDUCED, log 26).
R59, R78, R79: an ended run has end cause ABORTED, SOFT_RESET and its end step, every other run record is kept, and a nest
that leaves a run with bench ending set loses bench. R156: the inputs of the marking port are low with count 0, their lines
as they stand. R176: the period timer stands stopped, nothing pending and the NOTICE outbox empty, unless the reset's own
final counts set LOW_YIELD, the one flag they can set.
R142, R169: the counted runs are reported ABORTED, nest 0 to 3, then every label record resolved UNMARKED, oldest first; the
lots show these reports and the retest list is kept, where no lot is due after them; a due lot completes with its entries
given up. R126: with no producer that waits, and no lot, the event queue holds the NOTICE and then, slot 0 to 7, the
REF_DONEs of the captures cancelled.
R14, R16, R126, R169: in every state that meets `LineOk` and `CountsOk` the messages stand behind the post-reset NOTICE in this
order: those of the slots and lots that wait, in wait-line order; the REF_DONEs of the captures cancelled, slot 0 to 7; the
LOT_SUMMARYs of the lots completed, slot 0 to 7; a NOTICE of the reset's own LOW_YIELD, where it is enabled. The first 15 are
in the event queue, with the tags 1 on, and the producers of the others are the wait line. -/
def Obligations.SoftResetLeaves : Prop :=
  ∀ (tag : BitVec 8) (s : State), ∃ t : State, exec (.softReset 15#4 tag) s = .next t ∧
    (t.lnk.replyQ = [⟨0x81#8, 15#4, tag, [0x04000000#32]⟩] ∧
      (∃ rest, t.lnk.eventQ =
        ⟨0x82#8, 15#4, 0#8, [0x00060000#32 ||| (if s.amb.loud then 0x10000#32 else 0#32), 0#32, 0#32]⟩ :: rest) ∧
      t.lnk.linkErr = 0 ∧ t.lnk.overrun = 0 ∧ t.lnk.slip = 0 ∧ t.lnk.traceLost = 0 ∧ t.lnk.asm = .hunt ∧
      t.lnk.expect = s.lnk.expect ∧ t.lnk.presence = s.lnk.presence ∧ t.lnk.store = s.lnk.store ∧
      t.lnk.auxToLine = s.lnk.auxToLine ∧ t.lnk.auxToHead = s.lnk.auxToHead ∧ t.lnk.tap0 = s.lnk.tap0 ∧
      t.lnk.tap1 = s.lnk.tap1 ∧ t.lnk.tx = s.lnk.tx) ∧
    (t.ntc.softCause = true ∧ t.ntc.owed = false ∧ t.ntc.enables = s.ntc.enables ∧ t.ntc.period = s.ntc.period ∧
      t.ntc.nonUrgent = false ∧ (t.ntc.flags = 0#8 ∨ t.ntc.flags = 0x10#8) ∧
      (t.ntc.flags = 0#8 → t.ntc.timer = none ∧ t.ntc.outbox = .empty ∧ t.ntc.bitmap = 0#8)) ∧
    (∀ n, (t.nest n).phase = .idle ∧ (t.nest n).engine = Engine.initial ∧ (t.nest n).analysis = Analysis.initial ∧
      (t.nest n).window = .before ∧ (t.nest n).retryMarked = false ∧ (t.nest n).verdictOut = none ∧
      (t.nest n).seat = (s.nest n).seat ∧ (t.nest n).run.serial = (s.nest n).run.serial) ∧
    (∀ k, (t.slot k).occupancy = 0 ∧ (t.slot k).capture = .idle ∧ (t.slot k).loaded = (s.slot k).loaded ∧
      (t.slot k).tables = (s.slot k).tables ∧ (t.slot k).generation = (s.slot k).generation ∧
      (t.slot k).reference = (s.slot k).reference ∧ (t.slot k).refGen = (s.slot k).refGen) ∧
    (∀ b, t.buffer b = none) ∧ t.prot = s.prot ∧
    t.amb = { s.amb with loud := false, hold := 0, quiet := 0 } ∧
    (t.mrk.records = [] ∧ t.mrk.port = .idle ∧ t.mrk.stray = 0 ∧ t.mrk.code = s.mrk.code ∧
      t.mrk.tMark = s.mrk.tMark ∧ t.mrk.tQueue = s.mrk.tQueue) ∧
    t.pending = s.pending ∧
    (∀ n, ((s.nest n).phase = .armed ∨ (s.nest n).phase = .running →
        { (t.nest n).run with bound := false } = { (s.nest n).run with
          bound := false, endCause := .aborted .softReset
          endStep := if (s.nest n).phase = .armed then 255 else (s.nest n).engine.step }) ∧
      (¬ ((s.nest n).phase = .armed ∨ (s.nest n).phase = .running) → (t.nest n).run = (s.nest n).run) ∧
      (t.nest n).config = (if (s.nest n).phase ≠ .idle ∧ (s.nest n).config.benchEnding = true then
        { (s.nest n).config with bench := false, benchEnding := false } else (s.nest n).config) ∧
      (t.nest n).stepOut = none) ∧
    (t.mrk.req = ⟨s.mrk.req.line, false, 0⟩ ∧ t.mrk.marked = ⟨s.mrk.marked.line, false, 0⟩ ∧
      t.mrk.jam = ⟨s.mrk.jam.line, false, 0⟩ ∧ t.mrk.nestLo = ⟨s.mrk.nestLo.line, false, 0⟩ ∧
      t.mrk.nestHi = ⟨s.mrk.nestHi.line, false, 0⟩) ∧
    (let aborted := (allNests.filter fun n => (s.nest n).counts).foldl
       (fun u n => u.reportVerdict .aborted (s.nest n).run.lotId) s
     let after := s.mrk.records.foldl (fun u r => u.reportResolution r false) aborted
     (∀ k l, s.lot k = some l → l.summary = none) →
       ((∀ k, after.lotDue k = false) → t.lots = after.lots ∧ t.retest = s.retest) ∧
       (∀ k l, after.lot k = some l → after.lotDue k = true →
         (∀ e ∈ t.retest, e.lotId ≠ l.id) ∧ (t.lot k = none ∨ ∃ x, t.lot k = some x ∧ x.summary ≠ none ∧ x.id = l.id))) ∧
    (∀ k l e, s.lot k = some l → l.summary = some e → t.lot k = none ∨ ∃ x, t.lot k = some x ∧ x.summary = some e) ∧
    ((∀ p ∈ s.lnk.waitLine, p = .ntc ∨ ∃ n, p = .vrd n) → (∀ k, s.lot k = none ∧ (s.slot k).refDone = none) →
      t.lnk.waitLine = [] ∧ (∀ k, (t.slot k).refDone = none) ∧
      t.lnk.eventQ.drop 1 = (allSlots.filterMap fun k => match (s.slot k).capture with
        | .idle => none
        | .capturing n c _ | .pending n c _ => some (refDoneEvent k (s.slot k) .softReset n c)).zipIdx.map
          fun (e, i) => ⟨e.kind, e.scope, BitVec.ofNat 8 (i + 1), e.body⟩) ∧
    (LineOk s → CountsOk s →
      let aborted := (allNests.filter fun n => (s.nest n).counts).foldl
        (fun u n => u.reportVerdict .aborted (s.nest n).run.lotId) s
      let after := s.mrk.records.foldl (fun u r => u.reportResolution r false) aborted
      let done := allSlots.foldl State.completeLot after
      let order : List Producer :=
        s.lnk.waitLine.filter (fun p => match p with | .tbs _ | .yld _ => true | .ntc | .vrd _ => false) ++
        (allSlots.filter fun k => (s.slot k).capture != .idle).map .tbs ++
        (allSlots.filter after.lotDue).map .yld ++
        (if t.ntc.flags.getLsbD 4 && s.ntc.enables.getLsbD 4 then [.ntc] else [])
      let message (p : Producer) : Option Event := match p with
        | .ntc => some ⟨0x82#8, 15#4, [0x10#32 ||| t.ntc.bitmap.setWidth 32 <<< 8, 0#32, 0#32]⟩
        | .vrd _ => none
        | .tbs k => match (s.slot k).capture with
          | .idle => (s.slot k).refDone
          | .capturing n c _ | .pending n c _ => some (refDoneEvent k (s.slot k) .softReset n c)
        | .yld k => (done.lot k).bind (·.summary)
      t.lnk.waitLine = order.drop 15 ∧ t.lnk.eventQ.length = 1 + min 15 order.length ∧
        ∀ i p, i < 15 → order[i]? = some p → ∃ e, message p = some e ∧
          t.lnk.eventQ[i + 1]? = some ⟨e.kind, e.scope, BitVec.ofNat 8 (i + 1), e.body⟩)

/-! ### Power-on -/

/-- The values that the tables of state give for power-on (R2–R8, R11–R17, R19, R22, R36, R42, R60–R64, R82, R99, R116,
R135, R144–R146, R157, R170, R174), the power-on NOTICE admitted with tag 0; and the values that `Engine.initial`,
`Analysis.initial` and `Window.cleared` name. The PROTECT strap inactive and every input line low are the model's choice
(DESIGN CHOICE, log 2); the engine's `last` and `fadeLen` and the frames last sent are the model's own fields. -/
def Obligations.ResetValues : Prop :=
  State.reset.lnk =
    { expect := none, presence := .waiting, elapsed := 0, store := none, auxToLine := 0, auxToHead := 0, tap0 := 0,
      tap1 := 0, asm := .hunt, replyQ := [], eventQ := [⟨0x82#8, 15#4, 0#8, [0x00020000#32, 0#32, 0#32]⟩],
      waitLine := [], tx := [], seq := 1, linkErr := 0, overrun := 0, slip := 0, traceLost := 0, headBound := none,
      lineBound := none } ∧
  State.reset.ntc =
    { flags := 0, bitmap := 0, enables := 0xFF, period := 10, timer := none, nonUrgent := false, outbox := .empty,
      softCause := false, owed := false } ∧
  State.reset.amb = { loud := false, hold := 0, quiet := 0, code := -256, holdSel := 1, quietTime := 960 } ∧
  (State.reset.prot.lower = 0 ∧ State.reset.prot.upper = 7 ∧ State.reset.prot.invert = false ∧
    State.reset.prot.allProtected = false ∧ State.reset.prot.freeze = false ∧
    State.reset.prot.key.stable = false ∧ State.reset.prot.key.count = 0) ∧
  (∀ k, (State.reset.slot k).loaded = false ∧ (State.reset.slot k).generation = 0 ∧
    (State.reset.slot k).occupancy = 0 ∧ (State.reset.slot k).reference = none ∧ (State.reset.slot k).refGen = 0 ∧
    (State.reset.slot k).capture = .idle ∧ (State.reset.slot k).refDone = none ∧ State.reset.lot k = none) ∧
  (∀ b, State.reset.buffer b = none) ∧
  (∀ n, (State.reset.nest n).phase = .idle ∧
    (State.reset.nest n).config = { trim := 128, mcal := 0, zcal := 0, inverted := false, seatCode := 2, bench := false,
                                    benchEnding := false } ∧
    (State.reset.nest n).seat.stable = false ∧ (State.reset.nest n).seat.count = 0 ∧
    (State.reset.nest n).run.present = false ∧ (State.reset.nest n).window = .before ∧
    (State.reset.nest n).engine.mode = .silent ∧ (State.reset.nest n).engine.acc = 0 ∧
    (State.reset.nest n).verdictOut = none) ∧
  State.reset.retest = [] ∧
  (State.reset.mrk.records = [] ∧ State.reset.mrk.port = .idle ∧ State.reset.mrk.code = 1 ∧
    State.reset.mrk.tMark = 500 ∧ State.reset.mrk.tQueue = 200 ∧ State.reset.mrk.stray = 0) ∧
  State.reset.pending = [] ∧
  Engine.initial = { mode := .silent, acc := 0, inc := 0, aeff := 0, step := 0, k := 0, held := false, retry := 0, ext := 0,
                     lobe := .ended, fade := 0, fadeLen := 0, last := .quiet } ∧
  Window.cleared = { h1 := ⟨0, 0⟩, h2 := ⟨0, 0⟩, h3 := ⟨0, 0⟩, h4 := ⟨0, 0⟩, h5 := ⟨0, 0⟩, current := ⟨0, 0⟩, peak := 0,
                     residual := 0, micEnergy := 0, ambEnergy := 0, invalid := 0, clip := false, find := .notFound,
                     slipSeen := false, loudSeen := false } ∧
  Analysis.initial = { lastMic := 0, lastCur := 0, lastRef := 0, m1 := 0, m2 := 0, m3 := 0, m4 := 0,
                       win := Window.cleared } ∧
  (∀ n, State.reset.nest n =
    { config := { trim := 128, mcal := 0, zcal := 0, inverted := false, seatCode := 2, bench := false,
                  benchEnding := false }
      seat := ⟨false, false, 0⟩, phase := .idle
      run := { present := false, slot := 0, generation := 0, serial := 0, golden := false, trace := false,
               kind := .counted, lotId := 0, attempt := 0, startCause := .none, seatTimer := 0, failSet := 0,
               marginalSet := 0, contact := false, disturbed := false, firstFail := 255, clipSeen := false,
               endCause := .isOpen, endStep := 255, bound := false, goldenValues := [] }
      window := .before, retryMarked := false, engine := Engine.initial, analysis := Analysis.initial,
      verdictOut := none, stepOut := none }) ∧
  State.reset.mrk =
    { records := [], port := .idle, req := ⟨false, false, 0⟩, marked := ⟨false, false, 0⟩, jam := ⟨false, false, 0⟩,
      nestLo := ⟨false, false, 0⟩, nestHi := ⟨false, false, 0⟩, code := 1, tMark := 500, tQueue := 200, stray := 0 } ∧
  State.reset.prot.strap = false ∧ State.reset.prot.key = ⟨false, false, 0⟩ ∧
  (∀ k, (State.reset.slot k).tables = ⟨[], [], [], []⟩)

/-- R36, R144, R145, R174: POWER_ON from any state gives every block its power-on values, those of `ResetValues`, with
"all protected" and the strap as the PROTECT strap stands. The levels of the input lines and the queue are kept (the
model's choice, log 2). -/
def Obligations.PowerOnValues : Prop :=
  ∀ (strap : Bool) (s : State), ∃ t : State, exec (.powerOn strap) s = .next t ∧
    t.lnk = State.reset.lnk ∧ t.ntc = State.reset.ntc ∧ t.amb = State.reset.amb ∧ t.slots = State.reset.slots ∧
    t.buffers = State.reset.buffers ∧ t.lots = State.reset.lots ∧ t.retest = [] ∧
    t.prot = { State.reset.prot with allProtected := strap, strap := strap, key := .low s.prot.key.line } ∧
    (∀ n, t.nest n = { State.reset.nest n with seat := .low (s.nest n).seat.line }) ∧
    t.mrk.records = [] ∧ t.mrk.port = .idle ∧ t.mrk.stray = 0 ∧ t.mrk.req.stable = false ∧
    t.mrk.marked.stable = false ∧ t.mrk.jam.stable = false ∧ t.pending = s.pending ∧
    t.mrk = { records := [], port := .idle, req := ⟨s.mrk.req.line, false, 0⟩, marked := ⟨s.mrk.marked.line, false, 0⟩,
              jam := ⟨s.mrk.jam.line, false, 0⟩, nestLo := ⟨s.mrk.nestLo.line, false, 0⟩,
              nestHi := ⟨s.mrk.nestHi.line, false, 0⟩, code := 1, tMark := 500, tQueue := 200, stray := 0 }

/-! ### TBS: staging, swaps, protection -/

/-- R37: the protection test of a slot.
R37: STAGE_OPEN, STAGE_ROWS, STAGE_COMMIT and REF_BEGIN of an accepted length on a protected slot are refused with
LOCKED and change nothing else. -/
def Obligations.ProtectionGuards : Prop :=
  (∀ (p : Protection) (k : SlotId),
     p.protects k = true ↔
       p.allProtected = true ∨
         ¬ ((p.invert = false ∧ p.lower ≤ k.val ∧ k.val ≤ p.upper) ∨
            (p.invert = true ∧ (k.val < p.lower ∨ p.upper < k.val)))) ∧
  (∀ (k : SlotId) (tag : BitVec 8) (w : Word) (body : List Word) (s : State), s.ReplyRoom → s.prot.protects k = true →
     3 ≤ body.length → body.length ≤ 62 →
     exec (.stageOpen (slotScope k) tag w) s = .next (s.reply .stageOpen (slotScope k) tag .locked []) ∧
     exec (.stageRows (slotScope k) tag body) s = .next (s.reply .stageRows (slotScope k) tag .locked []) ∧
     exec (.stageCommit (slotScope k) tag) s = .next (s.reply .stageCommit (slotScope k) tag .locked []).endEvent ∧
     exec (.refBegin (slotScope k) tag w) s = .next (s.reply .refBegin (slotScope k) tag .locked []))

/-- R23: STAGE_OPEN on an unprotected slot without a session, in a mode 0 CLEAR or 1 COPY (COPY only of a LOADED slot),
binds the lowest-numbered FREE buffer and replies its number; nothing else changes.
R23, orders 2 to 5 (order 1 is in `ProtectionGuards`): the first check that fails gives the reply, RANGE, BUSY, NOT_READY
or BUSY, and nothing else changes. -/
def Obligations.StageOpenEffect : Prop :=
  (∀ (k : SlotId) (tag : BitVec 8) (w : Word) (b : Fin 2) (s : State), s.ReplyRoom → s.prot.protects k = false →
    s.session k = none → bits w 0 8 ≤ 1 → (bits w 0 8 = 1 → (s.slot k).loaded = true) →
    s.buffer b = none → (∀ b' : Fin 2, b' < b → s.buffer b' ≠ none) →
    exec (.stageOpen (slotScope k) tag w) s = .next
      ((s.setBuffer b (some
          { slot := k, copy := bits w 0 8 == 1, pending := false,
            tables := if bits w 0 8 = 1 then (s.slot k).tables else ⟨[], [], [], []⟩, planTouched := false })).reply
        .stageOpen (slotScope k) tag .ok [BitVec.ofNat 32 b.val])) ∧
  (∀ (k : SlotId) (tag : BitVec 8) (w : Word) (s : State), s.ReplyRoom → s.prot.protects k = false →
    let refuse (code : ResultCode) : Prop :=
      exec (.stageOpen (slotScope k) tag w) s = .next (s.reply .stageOpen (slotScope k) tag code [])
    (1 < bits w 0 8 → refuse .range) ∧
    (bits w 0 8 ≤ 1 → s.session k ≠ none → refuse .busy) ∧
    (bits w 0 8 = 1 → s.session k = none → (s.slot k).loaded = false → refuse .notReady) ∧
    (bits w 0 8 ≤ 1 → s.session k = none → (bits w 0 8 = 1 → (s.slot k).loaded = true) →
      (∀ b, s.buffer b ≠ none) → refuse .busy))

/-- R24, R25: STAGE_ROWS writes its rows over the staged table from the first row on, their ignored fields zero: in
CLEAR mode at the table's end, in COPY mode within it or at its end; rows of the plan set plan touched; nothing else
changes. Which fields are ignored, and so stored as zero, is the model's reading (DEDUCED, log 17).
R18, R21, R25: the bits kept of each word of a row: of the settings row all but word 7; of a step record all but bits 31:19 of
word 1 and 15:0 of word 3; of a mask row all but bits 31:10 of words 0 and 1; of a grading entry all but word 1.
R24, orders 2 to 7 (order 1 is in `ProtectionGuards`): the first check that fails gives the reply, RANGE, LENGTH, REFUSED,
HELD, SEQUENCE or RANGE, and nothing else changes. R20: the row sizes and the capacities. -/
def Obligations.StageRowsEffect : Prop :=
  (∀ (k : SlotId) (tag : BitVec 8) (b : Fin 2) (e : Session) (table first : Nat) (rows : List Row) (s : State),
    s.ReplyRoom → s.prot.protects k = false → s.sessionBuffer k = some b → s.buffer b = some e →
    e.pending = false → table ≤ 3 → first ≤ 255 → rows ≠ [] → (∀ r ∈ rows, r.length = rowSize table) →
    1 + rows.flatten.length ≤ 62 →
    (if e.copy then first ≤ (e.tables.get table).length else first = (e.tables.get table).length) →
    first + rows.length ≤ capacity table →
    exec (.stageRows (slotScope k) tag ((put table 8 8 ||| put first 0 8) :: rows.flatten)) s = .next
      ((s.setBuffer b (some
          { e with
            tables := e.tables.put table
              ((e.tables.get table).take first ++ rows.map (storedRow table) ++
                (e.tables.get table).drop (first + rows.length))
            planTouched := e.planTouched || table == 1 })).reply .stageRows (slotScope k) tag .ok [])) ∧
  (∀ (k : SlotId) (tag : BitVec 8) (w : Word) (rows : List Word) (s : State), s.ReplyRoom → s.prot.protects k = false →
    2 ≤ rows.length → rows.length ≤ 61 →
    let refuse (code : ResultCode) : Prop :=
      exec (.stageRows (slotScope k) tag (w :: rows)) s = .next (s.reply .stageRows (slotScope k) tag code [])
    let table := bits w 8 8
    let first := bits w 0 8
    let size := rowSize table
    (3 < table → refuse .range) ∧
    (table ≤ 3 → rows.length % size ≠ 0 → refuse .length) ∧
    (table ≤ 3 → rows.length % size = 0 → s.session k = none → refuse .refused) ∧
    (∀ e, table ≤ 3 → rows.length % size = 0 → s.session k = some e →
      let staged := (e.tables.get table).length
      (e.pending = true → refuse .held) ∧
      (e.pending = false → e.copy = false → first ≠ staged → refuse .sequence) ∧
      (e.pending = false → e.copy = true → staged < first → refuse .sequence) ∧
      (e.pending = false → (if e.copy then first ≤ staged else first = staged) →
        capacity table < first + rows.length / size → refuse .range))) ∧
  [0, 1, 2, 3].map rowSize = [8, 4, 6, 2] ∧ [0, 1, 2, 3].map capacity = [1, 128, 64, 16] ∧
  (∀ (r : Row) (table : Nat),
    let kept (i : Nat) : Word := (storedRow table r).getD i 0#32
    let sent (i : Nat) : Word := r.getD i 0#32
    (table ≤ 3 → (storedRow table r).length = rowSize table) ∧
    (table = 0 → (∀ i, i < 7 → kept i = sent i) ∧ kept 7 = 0#32) ∧
    (table = 1 → kept 0 = sent 0 ∧ kept 2 = sent 2 ∧
      (kept 1).extractLsb' 0 19 = (sent 1).extractLsb' 0 19 ∧ (kept 1).extractLsb' 19 13 = 0#13 ∧
      (kept 3).extractLsb' 16 16 = (sent 3).extractLsb' 16 16 ∧ (kept 3).extractLsb' 0 16 = 0#16) ∧
    (table = 2 → (∀ i, i < 2 → (kept i).extractLsb' 0 10 = (sent i).extractLsb' 0 10 ∧
        (kept i).extractLsb' 10 22 = 0#22) ∧
      ∀ i, 2 ≤ i → i < 6 → kept i = sent i) ∧
    (table = 3 → kept 0 = sent 0 ∧ kept 1 = 0#32))

/-- R26, R27, R31: STAGE_COMMIT of an OPEN session: tables that fail validation give INVALID with the table and the row;
valid ones are swapped in at once at occupancy 0, and else wait, PENDING.
R26, orders 2 and 3 (order 1 is in `ProtectionGuards`): REFUSED without a session, HELD with a PENDING one.
R27, R28, R29: what validation examines, and the first row that offends in its order.
R18, R21: the fields that it examines, and that every other rule reads, in the words of the four tables' rows; a row that is
not there reads as zeros (DESIGN CHOICE, log 18). -/
def Obligations.StageCommitEffect : Prop :=
  (∀ (k : SlotId) (tag : BitVec 8) (b : Fin 2) (e : Session) (s : State),
    s.ReplyRoom → s.prot.protects k = false → s.sessionBuffer k = some b → s.buffer b = some e → e.pending = false →
    (∀ table row, validate e.tables = some (table, row) →
      exec (.stageCommit (slotScope k) tag) s = .next
        (s.queueReply (replyMsg (slotScope k) tag
          (0x12060000#32 ||| put table 8 8 ||| put row 0 8) [])).endEvent) ∧
    (validate e.tables = none → (s.slot k).occupancy = 0 →
      exec (.stageCommit (slotScope k) tag) s = .next
        ((s.swap k).reply .stageCommit (slotScope k) tag .ok
          [((s.slot k).generation + 1#16).setWidth 32]).endEvent) ∧
    (validate e.tables = none → (s.slot k).occupancy ≠ 0 →
      exec (.stageCommit (slotScope k) tag) s = .next
        ((s.setBuffer b (some { e with pending := true })).reply .stageCommit (slotScope k) tag .ok
          [0x00010000#32 ||| (s.slot k).generation.setWidth 32]).endEvent)) ∧
  (∀ (k : SlotId) (tag : BitVec 8) (s : State), s.ReplyRoom → s.prot.protects k = false →
    (s.session k = none → exec (.stageCommit (slotScope k) tag) s = .next
      (s.reply .stageCommit (slotScope k) tag .refused []).endEvent) ∧
    (∀ e, s.session k = some e → e.pending = true → exec (.stageCommit (slotScope k) tag) s = .next
      (s.reply .stageCommit (slotScope k) tag .held []).endEvent)) ∧
  (∀ x : Tables,
    let z := x.settingsRow
    let settingsOk : Prop := x.settings ≠ [] ∧ z.retestLimit ≤ 3 ∧ z.retryLimit ≤ 7 ∧ z.seatMode ≤ 1 ∧
      1 ≤ z.seatTimeout ∧ z.fade ≤ 4095 ∧ -4096 ≤ z.polarityCode ∧ z.polarityCode ≤ 0 ∧ z.passLabel.bin ≤ 15 ∧
      z.retestLabel.bin ≤ 15 ∧ z.rejectLabel.bin ≤ 15 ∧ z.lowYield ≤ 1000
    let planOk (i : Nat) : Prop :=
      let p := x.step i
      p.kind ≠ .reserved ∧ 320 ≤ p.freq ∧ p.freq ≤ 320000 ∧ -4096 ≤ p.level ∧ p.level ≤ 0 ∧
        p.ws < p.we ∧ p.we ≤ p.dwell ∧ 64 ≤ p.we - p.ws ∧ (p.rb = true → 4 ≤ p.ws) ∧ (p.harm = true → p.freq ≤ 128000) ∧
        (p.harm = true ∨ p.rb = true ∨ p.imp = true ∨ p.ref = true ∨ p.contact = true → p.kind = .tone) ∧
        (p.contact = true → p.imp = true) ∧
        (p.kind = .tone → (i = 0 ∨ (x.step (i - 1)).kind ≠ .tone) → z.fade ≤ p.ws) ∧
        (p.mask < x.mask.length ∨ p.mask = 127) ∧
        (∀ m, x.maskRow p.mask = some m →
          ((m.lower ≠ none ∧ m.lowerRel = true) ∨ (m.upper ≠ none ∧ m.upperRel = true)) → p.ref = true)
    let maskOk (i : Nat) : Prop :=
      let m := maskOf (x.mask.getD i [])
      (∀ lo hi, m.lower = some lo → m.upper = some hi → m.lowerRel = false → m.upperRel = false → lo ≤ hi) ∧
        (∀ lo hi, m.impLower = some lo → m.impUpper = some hi → lo ≤ hi)
    let gradeOk (i : Nat) : Prop :=
      let g := gradeOf (x.grading.getD i [])
      g.classes.extractLsb' 13 3 = 0#3 ∧ g.label.bin ≤ 15
    let plansOk : Prop := settingsOk ∧ x.plan ≠ [] ∧ ∀ i, i < x.plan.length → planOk i
    let masksOk : Prop := plansOk ∧ ∀ i, i < x.mask.length → maskOk i
    (validate x = none ↔ masksOk ∧ ∀ i, i < x.grading.length → gradeOk i) ∧
    (∀ table row, validate x = some (table, row) →
      (table = 0 ∧ row = 0 ∧ ¬ settingsOk) ∨
      (table = 1 ∧ settingsOk ∧ ((row = 0 ∧ x.plan = []) ∨
        (row < x.plan.length ∧ ¬ planOk row ∧ ∀ i, i < row → planOk i))) ∨
      (table = 2 ∧ plansOk ∧ row < x.mask.length ∧ ¬ maskOk row ∧ ∀ i, i < row → maskOk i) ∨
      (table = 3 ∧ masksOk ∧ row < x.grading.length ∧ ¬ gradeOk row ∧ ∀ i, i < row → gradeOk i))) ∧
  (∀ (x : Tables) (r : Row) (index : Nat),
    let word (i : Nat) : Word := r.getD i 0#32
    let half (i : Nat) : BitVec 16 := (word (i / 2)).extractLsb' (16 * (i % 2)) 16
    let label (i : Nat) : LabelField := ⟨((half i).extractLsb' 8 8).toNat, ((half i).extractLsb' 0 8).toNat⟩
    (r = x.settings.getD 0 [] → x.settingsRow =
      { model := (half 0).toNat, retestLimit := (half 1).toNat, retryLimit := (half 2).toNat
        seatMode := (half 3).toNat, seatTimeout := (half 4).toNat, fade := (half 5).toNat
        settleLimit := (half 6).toNat, ambientLimit := (half 7).toInt, contactFloor := (half 8).toInt
        polarityCode := (half 9).toInt, passLabel := label 10, retestLabel := label 11, rejectLabel := label 12
        lowYield := (half 13).toNat }) ∧
    (r = x.plan.getD index [] → x.step index =
      { kind := if (word 0).extractLsb' 30 2 = 0#2 then .tone else if (word 0).extractLsb' 30 2 = 1#2 then .pulse
          else if (word 0).extractLsb' 30 2 = 2#2 then .gap else .reserved
        harm := (word 0).getLsbD 29, rb := (word 0).getLsbD 28, imp := (word 0).getLsbD 27
        contact := (word 0).getLsbD 26, ref := (word 0).getLsbD 25
        residual := ((word 0).extractLsb' 23 2).toNat + 1, mask := ((word 0).extractLsb' 16 7).toNat
        level := ((word 0).extractLsb' 0 16).toInt, freq := ((word 1).extractLsb' 0 19).toNat
        dwell := ((word 2).extractLsb' 16 16).toNat, ws := ((word 2).extractLsb' 0 16).toNat
        we := ((word 3).extractLsb' 16 16).toNat }) ∧
    (let limit (present i lo : Nat) : Option Level :=
       if (word 0).getLsbD present = true then some ((word i).extractLsb' lo 16).toInt else none
     maskOf r =
      { lower := limit 0 2 16, upper := limit 1 2 0, lowerRel := (word 0).getLsbD 8, upperRel := (word 0).getLsbD 9
        thd := limit 2 3 16, rb := limit 3 3 0, crest := limit 4 4 16, impLower := limit 5 4 0
        impUpper := limit 6 5 16, noise := limit 7 5 0, polarity := ((word 1).extractLsb' 8 2).toNat
        guard := ((word 1).extractLsb' 0 8).toNat }) ∧
    gradeOf r = { classes := half 0, label := label 1 } ∧
    (index = 127 → x.maskRow index = none) ∧ (index ≠ 127 → x.maskRow index = x.mask[index]?.map maskOf))

/-- R30: a swap installs the staged tables, advances the generation, loads the slot, frees the buffer and raises the
lot's commit count; a touched plan empties the reference and cancels a capture, whose REF_DONE, of cause PLAN_SWAP with the
capture's N and k, is built from the slot as it then stands (its fields: `CaptureCommands`); the slot's occupancy and reference generation stay, and so does every other slot, buffer and lot. -/
def Obligations.SwapInstalls : Prop :=
  ∀ (k : SlotId) (b : Fin 2) (e : Session) (s : State), s.sessionBuffer k = some b → s.buffer b = some e →
    let t := s.swap k
    ((t.slot k).tables = e.tables ∧ (t.slot k).generation = (s.slot k).generation + 1#16 ∧
      (t.slot k).loaded = true ∧ (t.slot k).occupancy = (s.slot k).occupancy ∧
      (t.slot k).refGen = (s.slot k).refGen) ∧
    (e.planTouched = false →
      (t.slot k).reference = (s.slot k).reference ∧ (t.slot k).capture = (s.slot k).capture ∧
        (t.slot k).refDone = (s.slot k).refDone ∧ t.nests = s.nests) ∧
    (e.planTouched = true →
      (t.slot k).reference = none ∧ (t.slot k).capture = .idle ∧
        ((s.slot k).capture ≠ .idle → (t.slot k).refDone.isSome = true) ∧
        ((s.slot k).capture = .idle → (t.slot k).refDone = (s.slot k).refDone) ∧
        (∀ target count, ((∃ sums, (s.slot k).capture = .capturing target count sums) ∨
            (∃ values, (s.slot k).capture = .pending target count values)) →
          (t.slot k).refDone = some (refDoneEvent k (t.slot k) .planSwap target count))) ∧
    (∀ k', k' ≠ k → t.slot k' = s.slot k' ∧ t.lot k' = s.lot k') ∧
    (∀ b', t.buffer b' = if b' = b then none else s.buffer b') ∧
    t.lot k = (s.lot k).map (fun l => { l with commits := min (l.commits + 1) 65535 }) ∧
    t.lnk = s.lnk ∧ t.ntc = s.ntc ∧ t.prot = s.prot ∧ t.retest = s.retest ∧ t.mrk = s.mrk ∧ t.amb = s.amb

/-- R34: STAGE_DISCARD without a session, or with one that is PENDING, is refused with REFUSED; else the buffer becomes
FREE. Protection is not tested. Nothing else changes.
R35: READ_ROWS of a table 0–3 of the active bank of a LOADED slot, or of the staged bank of a session, with a first
row within the table, returns the rows from it on, up to the count, the table's end and the 61 words a reply can
carry; nothing else changes. The first check of R35 that fails gives the reply, RANGE, NOT_READY, REFUSED or RANGE. -/
def Obligations.DiscardAndRead : Prop :=
  (∀ (k : SlotId) (tag : BitVec 8) (s : State), s.ReplyRoom →
     (s.session k = none →
       exec (.stageDiscard (slotScope k) tag) s = .next (s.reply .stageDiscard (slotScope k) tag .refused [])) ∧
     (∀ b e, s.sessionBuffer k = some b → s.buffer b = some e →
       exec (.stageDiscard (slotScope k) tag) s = .next
         (if e.pending then s.reply .stageDiscard (slotScope k) tag .refused []
          else (s.setBuffer b none).reply .stageDiscard (slotScope k) tag .ok []))) ∧
  (∀ (k : SlotId) (tag : BitVec 8) (w : Word) (s : State) (x : Tables), s.ReplyRoom →
     (bits w 16 8 = 0 ∧ (s.slot k).loaded = true ∧ x = (s.slot k).tables ∨
       bits w 16 8 = 1 ∧ ∃ e, s.session k = some e ∧ x = e.tables) →
     bits w 24 8 ≤ 3 → bits w 8 8 ≤ (x.get (bits w 24 8)).length →
     exec (.readRows (slotScope k) tag w) s = .next (s.reply .readRows (slotScope k) tag .ok
       (((x.get (bits w 24 8)).drop (bits w 8 8)).take
         (min (bits w 0 8) (61 / rowSize (bits w 24 8)))).flatten)) ∧
  (∀ (k : SlotId) (tag : BitVec 8) (w : Word) (s : State), s.ReplyRoom →
     let refuse (code : ResultCode) : Prop :=
       exec (.readRows (slotScope k) tag w) s = .next (s.reply .readRows (slotScope k) tag code [])
     let table := bits w 24 8
     let bank := bits w 16 8
     let first := bits w 8 8
     (3 < table ∨ 1 < bank → refuse .range) ∧
     (table ≤ 3 → bank = 0 → (s.slot k).loaded = false → refuse .notReady) ∧
     (table ≤ 3 → bank = 1 → s.session k = none → refuse .refused) ∧
     (table ≤ 3 → bank = 0 → (s.slot k).loaded = true → ((s.slot k).tables.get table).length < first → refuse .range) ∧
     (∀ e, table ≤ 3 → bank = 1 → s.session k = some e → (e.tables.get table).length < first → refuse .range))

/-- R38, R39: with the freeze clear PROTECT_RANGE replaces a range that is in order and clears "all protected", and
PROTECT_ALL sets it; with the freeze set both are refused with LOCKED; FREEZE sets the freeze in every state.
Nothing else changes. -/
def Obligations.ProtectionCommands : Prop :=
  ∀ (tag : BitVec 8) (w : Word) (s : State), s.ReplyRoom →
    (s.prot.freeze = false → bits w 16 8 ≤ bits w 8 8 → bits w 8 8 ≤ 7 → bits w 0 8 ≤ 1 →
      exec (.protectRange 15#4 tag w) s = .next
        (let t : State := { s with prot := { s.prot with lower := bits w 16 8, upper := bits w 8 8,
                                                         invert := bits w 0 8 == 1, allProtected := false } }
         t.reply .protectRange 15#4 tag .ok [])) ∧
    (s.prot.freeze = false → (bits w 8 8 < bits w 16 8 ∨ 7 < bits w 8 8 ∨ 1 < bits w 0 8) →
      exec (.protectRange 15#4 tag w) s = .next (s.reply .protectRange 15#4 tag .range [])) ∧
    (s.prot.freeze = false →
      exec (.protectAll 15#4 tag) s = .next
        (let t : State := { s with prot := { s.prot with allProtected := true } }
         t.reply .protectAll 15#4 tag .ok [])) ∧
    (s.prot.freeze = true →
      exec (.protectRange 15#4 tag w) s = .next (s.reply .protectRange 15#4 tag .locked []) ∧
      exec (.protectAll 15#4 tag) s = .next (s.reply .protectAll 15#4 tag .locked [])) ∧
    exec (.freeze 15#4 tag) s = .next
      (let t : State := { s with prot := { s.prot with freeze := true } }
       t.reply .freeze 15#4 tag .ok [])

/-- R38, R39: while the freeze is set, nothing changes the protection range, "all protected" or the freeze but a key that
turns ON and a power-on: no other command, and of the steps only those that take one of these two, or a tick (the model's
tick: log 1) whose sample of the KEY line completes the count. -/
def Obligations.FreezeHolds : Prop :=
  (∀ (c : Instr) (s t : State), s.prot.freeze = true → exec c s = .next t →
    (c = .keyOn ∨ ∃ strap, c = .powerOn strap) ∨
      (t.prot.freeze = true ∧ t.prot.lower = s.prot.lower ∧ t.prot.upper = s.prot.upper ∧
        t.prot.invert = s.prot.invert ∧ t.prot.allProtected = s.prot.allProtected ∧ t.prot.strap = s.prot.strap)) ∧
  (∀ s t : State, s.prot.freeze = true → step s = .next t →
    (∃ rest, s.pending = .keyOn :: rest ∨ ∃ strap, s.pending = .powerOn strap :: rest) ∨
      (s.pending = [] ∧ s.prot.key.line = true ∧ s.prot.key.stable = false ∧ 19 ≤ s.prot.key.count) ∨
      (t.prot.freeze = true ∧ t.prot.lower = s.prot.lower ∧ t.prot.upper = s.prot.upper ∧
        t.prot.invert = s.prot.invert ∧ t.prot.allProtected = s.prot.allProtected ∧ t.prot.strap = s.prot.strap))

/-- R39, R79: KEY_ON with the key OFF and the freeze set clears the freeze and sets "all protected", else it changes no
protection; KEY_OFF with the key ON clears bench at an IDLE bench nest and sets bench ending at a busy one. The
debounced key state follows, its count 0; nothing else changes. That the row sets the KEY line itself to the level it
reports is the model's choice (DESIGN CHOICE, log 10). -/
def Obligations.KeyTurns : Prop :=
  ∀ s : State,
    (s.prot.key.stable = false →
      exec .keyOn s = .next
        { s with prot := { s.prot with
            key := { line := true, stable := true, count := 0 }
            freeze := false
            allProtected := s.prot.freeze || s.prot.allProtected } }) ∧
    (s.prot.key.stable = true → ∃ t : State, exec .keyOff s = .next t ∧
      t.prot = { s.prot with key := { line := false, stable := false, count := 0 } } ∧
      (∀ n, t.nest n = { s.nest n with config := { (s.nest n).config with
          bench := (s.nest n).config.bench && (s.nest n).phase != .idle
          benchEnding := (s.nest n).config.benchEnding || ((s.nest n).config.bench && (s.nest n).phase != .idle) } }) ∧
      t.lnk = s.lnk ∧ t.slots = s.slots ∧ t.buffers = s.buffers ∧ t.amb = s.amb ∧ t.retest = s.retest ∧
      t.mrk = s.mrk ∧ t.lots = s.lots ∧ t.ntc = s.ntc)

/-- R40: PROTECT_QUERY reports the protection state of the slot (bit 1 unprotected, bit 0 not frozen), "all protected",
the slot state, the occupancy, the session (its buffer, mode, phase and plan touched), and the generation; it changes nothing
else. That these four are sent as 0 without a session is the model's choice (DESIGN CHOICE, log 38).
R80: NEST_QUERY replies the nest's 11 words, each field of R18's table in its place, and changes nothing else. The seat
timer outside ARMED reads 0 and the fade frame outside a fade its last value (the model's choices, logs 16 and 32).
R168: LOT_QUERY replies NO_LOT, or the 27 words of the lot report, each field in its place; nothing else changes. The lot
report is the one that a LOT_SUMMARY carries (`LotCompletes`).
R139: RETEST_QUERY replies a summary word and three words for each of the first 20 matching entries, oldest first;
it changes nothing else. -/
def Obligations.QueriesReport : Prop :=
  (∀ (k : SlotId) (tag : BitVec 8) (s : State), s.ReplyRoom →
     ∃ w1 : Word,
       w1.getLsbD 0 = !s.prot.freeze ∧ w1.getLsbD 1 = !s.prot.protects k ∧ w1.getLsbD 2 = s.prot.allProtected ∧
       w1.extractLsb' 4 3 = BitVec.ofNat 3 s.prot.lower ∧ w1.extractLsb' 8 3 = BitVec.ofNat 3 s.prot.upper ∧
       w1.getLsbD 12 = s.prot.invert ∧ w1.getLsbD 16 = (s.slot k).loaded ∧
       w1.extractLsb' 18 3 = BitVec.ofNat 3 (s.slot k).occupancy ∧
       w1.getLsbD 24 = (s.session k).isSome ∧ w1.getLsbD 27 = s.commitPending k ∧
       (s.session k = none → w1.extractLsb' 24 5 = 0#5) ∧
       (∀ b e, s.sessionBuffer k = some b → s.buffer b = some e →
         w1.getLsbD 24 = true ∧ w1.extractLsb' 25 1 = BitVec.ofNat 1 b.val ∧ w1.getLsbD 26 = e.copy ∧
         w1.getLsbD 27 = e.pending ∧ w1.getLsbD 28 = e.planTouched) ∧
       exec (.protectQuery (slotScope k) tag) s = .next
         (s.reply .protectQuery (slotScope k) tag .ok [w1, (s.slot k).generation.setWidth 32])) ∧
  (∀ (n : NestId) (tag : BitVec 8) (s : State), s.ReplyRoom →
     ∃ d : List Word, d.length = 11 ∧ exec (.nestQuery (nestScope n) tag) s = .next
         (s.reply .nestQuery (nestScope n) tag .ok d) ∧
       ((d.getD 0 0#32).extractLsb' 0 3).toNat = (s.nest n).phase.value ∧
       (d.getD 0 0#32).getLsbD 4 = (s.nest n).seat.stable ∧ (d.getD 0 0#32).getLsbD 5 = s.amb.loud ∧
       (d.getD 1 0#32).extractLsb' 0 8 = BitVec.ofNat 8 (s.nest n).config.trim ∧
       (d.getD 3 0#32).getLsbD 0 = (s.nest n).run.present ∧
       (d.getD 3 0#32).extractLsb' 16 16 = (s.nest n).run.generation ∧
       (d.getD 4 0#32).extractLsb' 0 16 ++ d.getD 5 0#32 = (s.nest n).run.serial ∧
       d.getD 6 0#32 = (s.nest n).run.lotId ∧
       (d.getD 7 0#32).getLsbD 7 = (s.nest n).engine.held ∧
       (d.getD 7 0#32).extractLsb' 16 16 = BitVec.ofNat 16 (s.nest n).engine.k ∧
       (d.getD 9 0#32).extractLsb' 16 16 = (s.nest n).run.failSet ∧
       (d.getD 9 0#32).extractLsb' 0 16 = (s.nest n).run.marginalSet ∧
       ((d.getD 10 0#32).extractLsb' 12 4).toNat = (s.nest n).run.endCause.value ∧
       (let w (i : Nat) : Word := d.getD i 0#32
        let x := s.nest n
        let e := x.engine
        let r := x.run
        ((w 0).extractLsb' 0 3).toNat = (match x.phase with
          | .idle => 0 | .armed => 1 | .running => 2 | .closing => 3 | .reporting => 4) ∧
        ((w 0).extractLsb' 6 2).toNat = (match e.mode with
          | .silent => 0 | .step => 1 | .stepFade => 2 | .endFade => 3) ∧
        (w 0).extractLsb' 16 12 = BitVec.ofNat 12 e.fade ∧
        (w 1).getLsbD 8 = x.config.inverted ∧ (w 1).extractLsb' 9 2 = BitVec.ofNat 2 x.config.seatCode ∧
        (w 1).getLsbD 11 = x.config.bench ∧ (w 1).getLsbD 12 = x.config.benchEnding ∧
        (w 2).extractLsb' 16 16 = BitVec.ofInt 16 x.config.mcal ∧ (w 2).extractLsb' 0 16 = BitVec.ofInt 16 x.config.zcal ∧
        (w 3).extractLsb' 1 3 = BitVec.ofNat 3 r.slot.val ∧
        ((w 3).extractLsb' 4 2).toNat = (match r.kind with | .counted => 0 | .golden => 1 | .bench => 2) ∧
        (w 3).getLsbD 6 = r.golden ∧ (w 3).getLsbD 7 = r.trace ∧ (w 3).extractLsb' 8 3 = BitVec.ofNat 3 r.attempt ∧
        ((w 3).extractLsb' 11 2).toNat = (match r.startCause with | .none => 0 | .immediate => 1 | .seat => 2) ∧
        (w 7).extractLsb' 0 7 = BitVec.ofNat 7 e.step ∧
        ((w 7).extractLsb' 8 2).toNat = (match x.window with | .before => 0 | .isOpen => 1 | .closed => 2) ∧
        (w 7).getLsbD 10 = x.retryMarked ∧ (w 7).extractLsb' 11 3 = BitVec.ofNat 3 e.retry ∧
        (w 8).extractLsb' 16 16 = BitVec.ofNat 16 e.ext ∧
        (w 8).extractLsb' 0 16 = BitVec.ofNat 16 (if x.phase = .armed then (r.seatTimer + 9) / 10 else 0) ∧
        (w 10).extractLsb' 24 8 = BitVec.ofNat 8 r.firstFail ∧ (w 10).extractLsb' 16 8 = BitVec.ofNat 8 r.endStep ∧
        ((w 10).extractLsb' 12 4).toNat = (match r.endCause with
          | .isOpen => 0 | .completed => 1 | .contactCheck => 2 | .seatLoss => 3 | .seatTimeout => 4
          | .disturbed => 5 | .aborted _ => 6) ∧
        ((w 10).extractLsb' 10 2).toNat = (match r.endCause with
          | .aborted .command => 1 | .aborted .headLoss => 2 | .aborted .softReset => 3 | _ => 0) ∧
        (w 10).getLsbD 9 = r.contact ∧ (w 10).getLsbD 8 = r.disturbed ∧ (w 10).getLsbD 7 = r.clipSeen)) ∧
  (∀ (k : SlotId) (tag : BitVec 8) (s : State), s.ReplyRoom →
     (s.lot k = none →
       exec (.lotQuery (slotScope k) tag) s = .next (s.reply .lotQuery (slotScope k) tag .noLot [])) ∧
     (∀ l, s.lot k = some l → ∃ d : List Word, d.length = 27 ∧ d = lotReport k l (s.slot k).generation ∧
       exec (.lotQuery (slotScope k) tag) s = .next (s.reply .lotQuery (slotScope k) tag .ok d) ∧
       d.getD 0 0#32 = l.id ∧
       (d.getD 2 0#32).toNat = l.started % 16777216 ∧ (d.getD 3 0#32).toNat = l.inFlight % 16777216 ∧
       (d.getD 4 0#32).toNat = l.awaiting % 16777216 ∧ (d.getD 5 0#32).toNat = l.outstanding % 16777216 ∧
       (d.getD 6 0#32).toNat = l.passed % 16777216 ∧ (d.getD 7 0#32).toNat = l.failed % 16777216 ∧
       (d.getD 8 0#32).toNat = l.aborted % 16777216 ∧ (d.getD 9 0#32).toNat = l.retests % 16777216 ∧
       (let w1 := d.getD 1 0#32
        w1.extractLsb' 0 3 = BitVec.ofNat 3 k.val ∧ w1.getLsbD 4 = l.closing ∧ w1.getLsbD 5 = l.summary.isSome ∧
          w1.getLsbD 6 = l.tripped ∧ w1.extractLsb' 8 7 = BitVec.ofNat 7 l.window.length) ∧
       (∀ i : Fin 13, (d.getD (10 + i.val) 0#32).toNat = l.classes[i] % 16777216) ∧
       d.getD 23 0#32 = BitVec.ofNat 16 l.yield ++ BitVec.ofNat 16 (packedDigits l.yield) ∧
       d.getD 24 0#32 = BitVec.ofNat 16 l.rollingYield ++ BitVec.ofNat 16 (l.window.count true) ∧
       d.getD 25 0#32 = l.genAtOpen ++ (s.slot k).generation ∧ (d.getD 26 0#32).toNat = l.commits % 65536)) ∧
  (∀ (tag : BitVec 8) (s : State), s.ReplyRoom →
     (∃ d : List Word, exec (.retestQuery 15#4 tag) s = .next (s.reply .retestQuery 15#4 tag .ok d) ∧
       d.length = 1 + 3 * min 20 s.retest.length ∧
       (d.getD 0 0#32).extractLsb' 16 8 = BitVec.ofNat 8 s.retest.length ∧
       (d.getD 0 0#32).extractLsb' 8 8 = BitVec.ofNat 8 s.retest.length ∧
       ((d.getD 0 0#32).extractLsb' 0 8).toNat = min 20 s.retest.length ∧
       ∀ i e, i < 20 → s.retest[i]? = some e →
         (d.getD (1 + 3 * i) 0#32).extractLsb' 16 16 = e.classes ∧
         (d.getD (1 + 3 * i) 0#32).extractLsb' 8 3 = BitVec.ofNat 3 e.slot.val ∧
         (d.getD (1 + 3 * i) 0#32).extractLsb' 0 2 = BitVec.ofNat 2 e.attempts ∧
         (d.getD (2 + 3 * i) 0#32).extractLsb' 0 16 ++ d.getD (3 + 3 * i) 0#32 = e.serial) ∧
     (∀ k : SlotId, ∃ d : List Word,
       exec (.retestQuery (slotScope k) tag) s = .next (s.reply .retestQuery (slotScope k) tag .ok d) ∧
       d.length = 1 + 3 * min 20 (s.retest.filter (fun e => e.slot == k)).length ∧
       (d.getD 0 0#32).extractLsb' 16 8 = BitVec.ofNat 8 s.retest.length ∧
       (d.getD 0 0#32).extractLsb' 8 8 = BitVec.ofNat 8 (s.retest.filter (fun e => e.slot == k)).length ∧
       ((d.getD 0 0#32).extractLsb' 0 8).toNat = min 20 (s.retest.filter (fun e => e.slot == k)).length ∧
       ∀ i e, i < 20 → (s.retest.filter (fun e => e.slot == k))[i]? = some e →
         (d.getD (1 + 3 * i) 0#32).extractLsb' 16 16 = e.classes ∧
         (d.getD (1 + 3 * i) 0#32).extractLsb' 8 3 = BitVec.ofNat 3 k.val ∧
         (d.getD (1 + 3 * i) 0#32).extractLsb' 0 2 = BitVec.ofNat 2 e.attempts ∧
         (d.getD (2 + 3 * i) 0#32).extractLsb' 0 16 ++ d.getD (3 + 3 * i) 0#32 = e.serial))

/-- R117: REF_BEGIN with a target of 1 to 8 on an unprotected LOADED slot with no commit or promotion pending, an IDLE
capture and an empty REF_DONE outbox starts a capture with accepted count 0 and sums 0, one for each REF step, and
replies their number, the reference state and the reference generation; nothing else changes. R117, orders 2 to 5 (order 1
is in `ProtectionGuards`): the first check that fails gives the reply, NOT_READY, HELD, BUSY or RANGE.
R123, R118: REF_CANCEL on an IDLE capture is refused with REFUSED; else it ends the capture, clears capture bound in
the slot's golden runs and produces a REF_DONE.
R125: a REF_DONE field by field: outcome, cause, N, k, c, the two generations and, PROMOTED, the first 120 values.
R120, R121: what a run offers its slot's capture at its end: nothing unless it is golden, bound, COMPLETED, with an empty
fail set and a number in every golden value, and the capture CAPTURING; else each value joins its sum and k rises by one; at
N the capture is PENDING with the rounded means, and capture bound is clear in the slot's golden runs (in the completing
run too: the model's choice, log 28). -/
def Obligations.CaptureCommands : Prop :=
  (∀ (k : SlotId) (tag : BitVec 8) (w : Word) (s : State), s.ReplyRoom → s.prot.protects k = false →
     (s.slot k).loaded = true → s.commitPending k = false → (s.slot k).capture = .idle → (s.slot k).refDone = none →
     1 ≤ bits w 0 8 → bits w 0 8 ≤ 8 →
     ∃ w1 : Word, w1.extractLsb' 24 8 = BitVec.ofNat 8 (s.slot k).tables.refCount ∧
       w1.getLsbD 16 = (s.slot k).reference.isSome ∧ w1.extractLsb' 0 16 = (s.slot k).refGen ∧
       exec (.refBegin (slotScope k) tag w) s = .next
         ((s.setSlot k { s.slot k with
             capture := .capturing (bits w 0 8) 0 (List.replicate (s.slot k).tables.refCount 0) }).reply
           .refBegin (slotScope k) tag .ok [w1])) ∧
  (∀ (k : SlotId) (tag : BitVec 8) (w : Word) (s : State), s.ReplyRoom → s.prot.protects k = false →
     let refuse (code : ResultCode) : Prop :=
       exec (.refBegin (slotScope k) tag w) s = .next (s.reply .refBegin (slotScope k) tag code [])
     let held : Prop := s.commitPending k = true ∨ ∃ target count values, (s.slot k).capture = .pending target count values
     let busy : Prop := (∃ target count sums, (s.slot k).capture = .capturing target count sums) ∨ (s.slot k).refDone ≠ none
     ((s.slot k).loaded = false → refuse .notReady) ∧
     ((s.slot k).loaded = true → held → refuse .held) ∧
     ((s.slot k).loaded = true → ¬ held → busy → refuse .busy) ∧
     ((s.slot k).loaded = true → ¬ held → ¬ busy → bits w 0 8 = 0 ∨ 8 < bits w 0 8 → refuse .range)) ∧
  (∀ (k : SlotId) (tag : BitVec 8) (s : State), s.ReplyRoom →
     ((s.slot k).capture = .idle →
       exec (.refCancel (slotScope k) tag) s = .next (s.reply .refCancel (slotScope k) tag .refused []).endEvent) ∧
     ((s.slot k).capture ≠ .idle → ∃ t : State,
       exec (.refCancel (slotScope k) tag) s = .next (t.reply .refCancel (slotScope k) tag .ok []).endEvent ∧
       (∃ e, t.slot k = { s.slot k with capture := .idle, refDone := some e } ∧ e.kind = 0x86#8 ∧
         e.scope = slotScope k ∧ e.body.length = 2 ∧
         ∀ target count, ((∃ sums, (s.slot k).capture = .capturing target count sums) ∨
             (∃ values, (s.slot k).capture = .pending target count values)) →
           e = refDoneEvent k (s.slot k) .command target count) ∧
       (∀ k', k' ≠ k → t.slot k' = s.slot k') ∧
       (∀ n, (t.nest n).run.bound =
           ((s.nest n).run.bound && !((s.nest n).phase.active && (s.nest n).run.kind == .golden &&
             (s.nest n).run.slot == k)) ∧
         { t.nest n with run := { (t.nest n).run with bound := (s.nest n).run.bound } } = s.nest n) ∧
       t.lnk = s.lnk ∧ t.buffers = s.buffers ∧ t.prot = s.prot ∧ t.amb = s.amb ∧ t.retest = s.retest ∧
       t.mrk = s.mrk ∧ t.lots = s.lots ∧ t.ntc = s.ntc)) ∧
  (∀ (k : SlotId) (x : Slot) (o : RefOutcome) (target count : Nat),
     let e := refDoneEvent k x o target count
     let w0 := e.body.getD 0 0#32
     let w1 := e.body.getD 1 0#32
     e.kind = 0x86#8 ∧ e.scope = slotScope k ∧
     (w0.getLsbD 31 = true ↔ o ≠ .promoted) ∧ w0.getLsbD 30 = false ∧
     (w0.extractLsb' 28 2).toNat =
       (match o with | .promoted => 0 | .command => 1 | .planSwap => 2 | .softReset => 3) ∧
     w0.extractLsb' 24 4 = BitVec.ofNat 4 target ∧ w0.extractLsb' 20 4 = 0#4 ∧
     w0.extractLsb' 16 4 = BitVec.ofNat 4 count ∧ w0.extractLsb' 8 8 = 0#8 ∧
     w0.extractLsb' 0 8 = BitVec.ofNat 8 (x.tables.steps.countP (·.ref)) ∧
     w1.extractLsb' 16 16 = x.refGen ∧ w1.extractLsb' 0 16 = x.generation ∧
     (o ≠ .promoted → e.body.length = 2) ∧
     (∀ values, o = .promoted → x.reference = some values →
       e.body.length = 2 + (min values.length 120 + 1) / 2 ∧
       (∀ i v, i < 120 → values[i]? = some v →
         (e.body.getD (2 + i / 2) 0#32).extractLsb' (if i % 2 = 0 then 16 else 0) 16 = BitVec.ofInt 16 v) ∧
       (values.length < 120 → values.length % 2 = 1 →
         (e.body.getD (2 + values.length / 2) 0#32).extractLsb' 0 16 = 0#16))) ∧
  (∀ (s : State) (r : Run),
     let k := r.slot
     let x := s.slot k
     let offers : Prop := r.kind = .golden ∧ r.bound = true ∧ r.endCause = .completed ∧ r.failSet = 0#16 ∧
       ∀ entry ∈ r.goldenValues, ∃ v, entry = some v ∧ v ≠ -32768
     (¬ offers → s.offerCapture r = s) ∧
     ((∀ target count sums, x.capture ≠ .capturing target count sums) → s.offerCapture r = s) ∧
     (∀ values target count sums, offers → r.goldenValues = values.map some →
       x.capture = .capturing target count sums →
       let sums' := List.zipWith (fun a v => a + v) sums values
       (count + 1 < target → s.offerCapture r = s.setSlot k { x with capture := .capturing target (count + 1) sums' }) ∧
       (target ≤ count + 1 → ∃ means t, s.offerCapture r = t ∧ means.length = sums'.length ∧
         t.slot k = { x with capture := .pending target (count + 1) means } ∧
         (0 < target → ∀ (i : Nat) (sum mean : Int), sums'[i]? = some sum → means[i]? = some mean →
           2 * target * mean ≤ 2 * sum + target ∧ 2 * sum + target < 2 * target * (mean + 1)) ∧
         (∀ j, j ≠ k → t.slot j = s.slot j) ∧
         (∀ n, (t.nest n).run.bound =
             ((s.nest n).run.bound && !((s.nest n).phase.active && (s.nest n).run.kind == .golden &&
               (s.nest n).run.slot == k)) ∧
           { t.nest n with run := { (t.nest n).run with bound := (s.nest n).run.bound } } = s.nest n) ∧
         t.lnk = s.lnk ∧ t.ntc = s.ntc ∧ t.lots = s.lots ∧ t.mrk = s.mrk ∧ t.retest = s.retest ∧ t.buffers = s.buffers)))

/-- R32, R33, R122: when a slot's occupancy is 0, a pending commit is swapped in first, then a PENDING capture is
promoted: the reference becomes READY with the pending values, its generation advances, the capture is IDLE and a
REF_DONE stands in the outbox, PROMOTED with the capture's N and k, built from the slot as it then stands (its fields:
`CaptureCommands`). That a DEFERRED_SWAP row without a pending commit changes nothing, and that a PROMOTION row
where a commit is pending makes the swap first, are the model's choices (DESIGN CHOICE, log 3; log 29). -/
def Obligations.ReleaseAtOccupancyZero : Prop :=
  ∀ (k : SlotId) (s : State), (s.slot k).occupancy = 0 →
    (s.commitPending k = true →
      exec (.deferredSwap k) s = .next (((s.swap k).promote k).endEvent) ∧
      exec (.promotion k) s = .next (((s.swap k).promote k).endEvent)) ∧
    (s.commitPending k = false →
      exec (.deferredSwap k) s = .next s ∧ exec (.promotion k) s = .next ((s.promote k).endEvent)) ∧
    (∀ target count values, (s.slot k).capture = .pending target count values →
      let x : Slot := { s.slot k with
        reference := some values, refGen := (s.slot k).refGen + 1#16, capture := .idle }
      s.promote k = s.setSlot k { x with refDone := some (refDoneEvent k x .promoted target count) }) ∧
    ((∀ target count values, (s.slot k).capture ≠ .pending target count values) → s.promote k = s)

/-! ### Nests and runs -/

/-- R61: NEST_CONFIG in IDLE with every field in its range, bench only with the key ON, replaces the whole
configuration, bench ending clear; a changed seat debounce code restarts the count; nothing else changes. That the count
stands when the same seat code is sent again is the model's choice (DESIGN CHOICE, log 22).
R61, the checks in their order: BUSY outside IDLE, RANGE for a field out of its range, REFUSED for bench with the key
OFF; nothing else changes. -/
def Obligations.NestConfigEffect : Prop :=
  (∀ (n : NestId) (tag : BitVec 8) (w0 w1 : Word) (s : State), s.ReplyRoom → (s.nest n).phase = .idle →
    bits w0 0 8 ≠ 0 → bits w0 8 2 ≤ 1 → -8192 ≤ sbits w1 16 16 → sbits w1 16 16 ≤ 8191 → -8192 ≤ sbits w1 0 16 →
    sbits w1 0 16 ≤ 8191 → (w0.getLsbD 12 = true → s.prot.key.stable = true) →
    exec (.nestConfig (nestScope n) tag w0 w1) s = .next
      ((s.setNest n { s.nest n with
          config := { trim := bits w0 0 8, mcal := sbits w1 16 16, zcal := sbits w1 0 16,
                      inverted := bits w0 8 2 == 1, seatCode := bits w0 10 2, bench := w0.getLsbD 12,
                      benchEnding := false }
          seat := { (s.nest n).seat with
            count := if bits w0 10 2 = (s.nest n).config.seatCode then (s.nest n).seat.count else 0 } }).reply
        .nestConfig (nestScope n) tag .ok [])) ∧
  (∀ (n : NestId) (tag : BitVec 8) (w0 w1 : Word) (s : State), s.ReplyRoom →
    let refuse (code : ResultCode) : Prop :=
      exec (.nestConfig (nestScope n) tag w0 w1) s = .next (s.reply .nestConfig (nestScope n) tag code [])
    let inRange : Prop := bits w0 0 8 ≠ 0 ∧ bits w0 8 2 ≤ 1 ∧ -8192 ≤ sbits w1 16 16 ∧ sbits w1 16 16 ≤ 8191 ∧
      -8192 ≤ sbits w1 0 16 ∧ sbits w1 0 16 ≤ 8191
    ((s.nest n).phase ≠ .idle → refuse .busy) ∧
    ((s.nest n).phase = .idle → ¬ inRange → refuse .range) ∧
    ((s.nest n).phase = .idle → inRange → w0.getLsbD 12 = true → s.prot.key.stable = false → refuse .refused))

/-- R66: the ten checks of START in their order. The first that fails gives the reply: BUSY, RANGE, NOT_READY, HELD,
REFUSED, NOT_READY, NOT_READY, NO_LOT, DUPLICATE, LOT_FULL.
R66, R67: a START whose checks pass is taken: the run is started, the reply carries the attempt; a START that a
check refuses changes nothing but the reply queue.
R28, R110, R135: what the checks read: the REL limits of a plan, and the retest entry of a serial. -/
def Obligations.StartCommand : Prop :=
  (∀ (s : State) (n : NestId) (r : StartRequest),
     ((s.nest n).phase ≠ .idle → startCheck s n r = .busy) ∧
     ((s.nest n).phase = .idle → 7 < r.slot → startCheck s n r = .range) ∧
     (∀ k : SlotId, (s.nest n).phase = .idle → r.slot = k.val →
       let counted : Prop := r.golden = false ∧ (s.nest n).config.bench = false
       let empty : Prop := (s.slot k).loaded = false
       let held : Prop := s.commitPending k = true ∨ ∃ target count values, (s.slot k).capture = .pending target count values
       let goldenBench : Prop := r.golden = true ∧ (s.nest n).config.bench = true
       let noCapture : Prop := r.golden = true ∧ ∀ target count sums, (s.slot k).capture ≠ .capturing target count sums
       let noReference : Prop := counted ∧ (s.slot k).tables.hasRel = true ∧ (s.slot k).reference = none
       let noLot : Prop := counted ∧ ∀ l, s.lot k = some l → l.closing = true
       let duplicate : Prop := ∃ m, m ≠ n ∧ ((s.nest m).phase = .armed ∨ (s.nest m).phase = .running) ∧
         (s.nest m).run.serial = r.serial
       let full : Prop := counted ∧ (∀ e, s.retestEntry r.serial = some e → e.slot ≠ k) ∧
         ∃ l, s.lot k = some l ∧ 16777215 ≤ l.started
       (empty → startCheck s n r = .notReady) ∧
       (¬ empty → held → startCheck s n r = .held) ∧
       (¬ empty → ¬ held → goldenBench → startCheck s n r = .refused) ∧
       (¬ empty → ¬ held → ¬ goldenBench → noCapture → startCheck s n r = .notReady) ∧
       (¬ empty → ¬ held → ¬ goldenBench → ¬ noCapture → noReference → startCheck s n r = .notReady) ∧
       (¬ empty → ¬ held → ¬ goldenBench → ¬ noCapture → ¬ noReference → noLot → startCheck s n r = .noLot) ∧
       (¬ empty → ¬ held → ¬ goldenBench → ¬ noCapture → ¬ noReference → ¬ noLot → duplicate →
         startCheck s n r = .duplicate) ∧
       (¬ empty → ¬ held → ¬ goldenBench → ¬ noCapture → ¬ noReference → ¬ noLot → ¬ duplicate → full →
         startCheck s n r = .lotFull) ∧
       (¬ empty → ¬ held → ¬ goldenBench → ¬ noCapture → ¬ noReference → ¬ noLot → ¬ duplicate → ¬ full →
         startCheck s n r = .ok))) ∧
  (∀ (s : State) (n : NestId) (r : StartRequest) (k : SlotId),
     let counted : Prop := r.golden = false ∧ (s.nest n).config.bench = false
     let returning : Prop := ∃ e, s.retestEntry r.serial = some e ∧ e.slot = k
     (startCheck s n r = .ok ∧ r.slot = k.val) ↔
       (r.slot = k.val ∧ (s.nest n).phase = .idle ∧ (s.slot k).loaded = true ∧ s.commitPending k = false ∧
         (∀ target count values, (s.slot k).capture ≠ .pending target count values) ∧
         (r.golden = true → (s.nest n).config.bench = false ∧
           ∃ target count sums, (s.slot k).capture = .capturing target count sums) ∧
         (counted → (s.slot k).tables.hasRel = true → (s.slot k).reference ≠ none) ∧
         (counted → ∃ l, s.lot k = some l ∧ l.closing = false ∧ (returning ∨ l.started < 16777215)) ∧
         (∀ m, m ≠ n → (s.nest m).phase.active = true → (s.nest m).run.serial ≠ r.serial))) ∧
  (∀ (n : NestId) (tag : BitVec 8) (w0 w1 : Word) (s : State), s.ReplyRoom →
     let r : StartRequest := { slot := bits w0 28 4, golden := w0.getLsbD 27, trace := w0.getLsbD 26,
                               serial := w0.extractLsb' 0 16 ++ w1 }
     (∀ k : SlotId, startCheck s n r = .ok → r.slot = k.val →
       exec (.start (nestScope n) tag w0 w1) s = .next
         (let t := s.startRun n k r
          t.reply .start (nestScope n) tag .ok [put (t.nest n).run.attempt 0 3]).endEvent) ∧
     (startCheck s n r ≠ .ok →
       exec (.start (nestScope n) tag w0 w1) s = .next
         (s.reply .start (nestScope n) tag (startCheck s n r) []).endEvent)) ∧
  (∀ x : Tables, x.hasRel = true ↔ ∃ i m, i < x.plan.length ∧ x.maskRow (x.step i).mask = some m ∧
     ((m.lower ≠ none ∧ m.lowerRel = true) ∨ (m.upper ≠ none ∧ m.upperRel = true))) ∧
  (∀ (s : State) (serial : BitVec 48) (e : RetestEntry), s.retestEntry serial = some e ↔
     ∃ before after, s.retest = before ++ e :: after ∧ e.serial = serial ∧ ∀ x ∈ before, x.serial ≠ serial)

/-- R67, R63: a run that starts is bound to its slot, and its nest becomes RUNNING in seat mode IMMEDIATE or with its
seat SEATED, else ARMED with the slot's seat timeout; the slot's occupancy rises by one; the other nests, the other
slots, and the tables, references and captures stay. Its start cause is IMMEDIATE, SEAT or none yet; a golden run has one
empty golden value for each REF step (R118); an uncounted run has lot id 0.
R44, R48, R52, R55: the engine of a nest that becomes RUNNING enters STEP at step 0, k = 0, with retry and extension counts 0,
no frame held, the accumulator 0, the increment and Aeff of step 0, and the lobe OPEN for a PULSE; the window is BEFORE. Its
analysis, its outboxes, its configuration and its seat stay. The model's choices in this: the retry mark is cleared (DESIGN
CHOICE, log 34); the lobe is ENDED where step 0 is no PULSE (log 27); the fade frame is 0 (log 32); `last` says that no frame
of the run has been played (log 15). -/
def Obligations.StartBindsRun : Prop :=
  ∀ (s : State) (n : NestId) (k : SlotId) (r : StartRequest),
    let t := s.startRun n k r
    let kind := runKindOf r.golden (s.nest n).config.bench
    let running : Bool := (s.slot k).tables.settingsRow.seatMode == 0 || (s.nest n).seat.stable
    ((t.nest n).phase = if running then .running else .armed) ∧
    ((t.nest n).run.present = true ∧ (t.nest n).run.slot = k ∧ (t.nest n).run.generation = (s.slot k).generation ∧
      (t.nest n).run.serial = r.serial ∧ (t.nest n).run.golden = r.golden ∧ (t.nest n).run.trace = r.trace ∧
      (t.nest n).run.kind = kind ∧ (t.nest n).run.failSet = 0 ∧ (t.nest n).run.marginalSet = 0 ∧
      (t.nest n).run.contact = false ∧ (t.nest n).run.disturbed = false ∧ (t.nest n).run.firstFail = 255 ∧
      (t.nest n).run.clipSeen = false ∧ (t.nest n).run.endCause = .isOpen ∧ (t.nest n).run.endStep = 255 ∧
      (t.nest n).run.bound = (kind == .golden)) ∧
    (kind = .counted → ∀ l, s.openLot k = some l → (t.nest n).run.lotId = l.id) ∧
    (kind ≠ .counted → (t.nest n).run.lotId = 0#32) ∧
    (t.nest n).run.startCause = (if (s.slot k).tables.settingsRow.seatMode = 0 then .immediate
      else if (s.nest n).seat.stable = true then .seat else .none) ∧
    (t.nest n).run.goldenValues =
      (if kind = .golden then List.replicate ((s.slot k).tables.steps.countP (·.ref)) none else []) ∧
    (running = true → (t.nest n).engine.mode = .step ∧ (t.nest n).engine.step = 0 ∧ (t.nest n).engine.k = 0 ∧
      (t.nest n).engine.acc = 0 ∧ (t.nest n).engine.retry = 0 ∧ (t.nest n).engine.ext = 0 ∧
      (t.nest n).window = .before) ∧
    (running = false → (t.nest n).engine = (s.nest n).engine ∧
      (t.nest n).run.seatTimer = (s.slot k).tables.settingsRow.seatTimeout * 10) ∧
    (t.nest n).config = (s.nest n).config ∧ (t.nest n).seat = (s.nest n).seat ∧
    (running = true →
      let first := (s.slot k).tables.step 0
      t.nest n = { s.nest n with
        phase := .running, run := (t.nest n).run, window := .before, retryMarked := false
        engine := { (s.nest n).engine with
          mode := .step, step := 0, k := 0, held := false, acc := 0, retry := 0, ext := 0, fade := 0, last := .quiet
          inc := BitVec.ofNat 32 (increment first.freq), aeff := stepAmplitude first.level (s.nest n).config.trim
          lobe := if first.kind = .pulse then .isOpen else .ended } }) ∧
    (running = false → t.nest n = { s.nest n with phase := .armed, run := (t.nest n).run }) ∧
    (∀ m, m ≠ n → t.nest m = s.nest m) ∧
    (∀ k', t.slot k' = if k' = k then { s.slot k with occupancy := (s.slot k).occupancy + 1 } else s.slot k') ∧
    t.lnk.replyQ = s.lnk.replyQ ∧ t.buffers = s.buffers ∧ t.prot = s.prot ∧ t.amb = s.amb ∧ t.mrk = s.mrk

/-- R67, R136, R160: a counted START with no retest entry for its serial is attempt 1 and raises started and in_flight
of its slot's lot; one with an entry for its slot takes the entry away, is the next attempt, and moves the unit from
outstanding to in_flight; one with an entry for another slot takes the entry away and gives it up, which its own lot counts
final FAIL with NO_RETURN, and is a first attempt; that lot, the link and NTC change as by the report alone, whose final count
`ResolutionCounts` and `VerdictRecords` give. Every other lot stays. Golden and bench runs are attempt 1 and change no lot and
no entry. -/
def Obligations.StartCountsUnit : Prop :=
  ∀ (s : State) (n : NestId) (k : SlotId) (r : StartRequest),
    let t := s.startRun n k r
    let kind := runKindOf r.golden (s.nest n).config.bench
    (kind ≠ .counted → (t.nest n).run.attempt = 1 ∧ t.lots = s.lots ∧ t.retest = s.retest) ∧
    (kind = .counted → s.retestEntry r.serial = none →
      (t.nest n).run.attempt = 1 ∧ t.retest = s.retest ∧
      t.lot k = (s.lot k).map (fun l => { l with started := l.started + 1, inFlight := l.inFlight + 1 }) ∧
      ∀ k', k' ≠ k → t.lot k' = s.lot k') ∧
    (kind = .counted → ∀ e, s.retestEntry r.serial = some e → e.slot = k →
      (t.nest n).run.attempt = e.attempts + 1 ∧ t.retest = s.retest.filter (fun x => x.serial != r.serial) ∧
      t.lot k = (s.lot k).map (fun l => { l with outstanding := l.outstanding - 1, inFlight := l.inFlight + 1 }) ∧
      ∀ k', k' ≠ k → t.lot k' = s.lot k') ∧
    (kind = .counted → ∀ e j l, s.retestEntry r.serial = some e → e.slot ≠ k → s.lotSlot e.lotId = some j → j ≠ k →
      s.lot j = some l →
      (t.nest n).run.attempt = 1 ∧ t.retest = s.retest.filter (fun x => x.serial != r.serial) ∧
      t.lot k = (s.lot k).map (fun x => { x with started := x.started + 1, inFlight := x.inFlight + 1 }) ∧
      (let given : State := State.reportGivenUp { s with retest := s.retest.filter (fun x => x.serial != r.serial) } e
       t.lot j = given.lot j ∧ t.lnk = given.lnk ∧ t.ntc = given.ntc) ∧
      (∃ x, t.lot j = some x ∧
        x = { l with
          outstanding := l.outstanding - 1, failed := l.failed + 1, classes := x.classes, tripped := x.tripped
          window := (if 64 ≤ l.window.length then l.window.drop 1 else l.window) ++ [false] } ∧
        ∀ i : Fin 13, x.classes[i] = l.classes[i] + (if (e.classes ||| 0x1000#16).getLsbD i.val then 1 else 0)) ∧
      ∀ k', k' ≠ k → k' ≠ j → t.lot k' = s.lot k')

/-- R76: ABORT ends the run of an ARMED or RUNNING nest with cause COMMAND and replies OK; in IDLE, CLOSING and REPORTING
it is refused with REFUSED. -/
def Obligations.AbortEffect : Prop :=
  ∀ (n : NestId) (tag : BitVec 8) (s : State), s.ReplyRoom →
    ((s.nest n).phase = .armed ∨ (s.nest n).phase = .running →
      exec (.abort (nestScope n) tag) s = .next
        ((s.endRun n (.aborted .command)).reply .abort (nestScope n) tag .ok []).endEvent) ∧
    ((s.nest n).phase = .idle ∨ (s.nest n).phase = .closing ∨ (s.nest n).phase = .reporting →
      exec (.abort (nestScope n) tag) s = .next (s.reply .abort (nestScope n) tag .refused []).endEvent)

/-- R59, R63, R73, R75, R77: what a run end does to its nest and its slot: end cause, end step (255 in ARMED), the VERDICT
built, the engine silent or in its fade (silent at once for a head loss) and the nest REPORTING or CLOSING accordingly,
the occupancy one lower; the other slots and the other nests stay, but for capture bound. That window and position stand
after it is the model's reading (DEDUCED, log 14).
R58, its four rows: what the engine does, by its mode and the dwell of the last frame it played (DEDUCED, log 15): a TONE
fades out over Rf frames at the increment and Aeff of its dwell, with Rf = 0 it is silent at once; after a PULSE or a GAP,
or with no frame of the run played, it is silent at once; a STEP_FADE goes on.
R140: the VERDICT's kind, scope and body, field by field as R18 lays it out, of the verdict that R130 gives and the grade
that R132 gives.
R73, R120, R134: the verdict step's records and reports are those of `VerdictRecords`, in a counted run alone, and its offer
to the capture that of `CaptureCommands`; then the occupancy falls, and at 0 the swap and the promotion that wait are made. -/
def Obligations.RunEndLeaves : Prop :=
  (∀ (s : State) (n : NestId) (cause : EndCause), (s.nest n).phase = .armed ∨ (s.nest n).phase = .running →
    let t := s.endRun n cause
    let k := (s.nest n).run.slot
    { (t.nest n).run with bound := false } =
      { (s.nest n).run with bound := false, endCause := cause,
                            endStep := if (s.nest n).phase = .armed then 255 else (s.nest n).engine.step } ∧
    (t.nest n).engine = (if cause = .aborted .headLoss then (s.nest n).engine.silence
      else (s.nest n).engine.endRun (s.slot k).tables) ∧
    ((t.nest n).phase = if (t.nest n).engine.mode = .silent then .reporting else .closing) ∧
    (t.nest n).verdictOut.isSome = true ∧ (t.nest n).config = (s.nest n).config ∧
    (t.nest n).seat = (s.nest n).seat ∧ (t.nest n).window = (s.nest n).window ∧
    (t.nest n).analysis = (s.nest n).analysis ∧
    (t.slot k).occupancy = (s.slot k).occupancy - 1 ∧ (∀ k', k' ≠ k → t.slot k' = s.slot k') ∧
    (∀ m, m ≠ n → { t.nest m with run := { (t.nest m).run with bound := (s.nest m).run.bound } } = s.nest m) ∧
    t.lnk.replyQ = s.lnk.replyQ ∧ t.prot = s.prot ∧ t.amb = s.amb ∧ t.pending = s.pending ∧
    (let r : Run := { (s.nest n).run with
       endCause := cause, endStep := if (s.nest n).phase = .armed then 255 else (s.nest n).engine.step }
     let v := r.verdict (s.slot k).tables.settingsRow.retestLimit
     let g := (s.slot k).tables.grade r.kind v.1 v.2
     let records := s.recordVerdict n r v.1 v.2 g
     let offered := s.offerCapture r
     let left := offered.setSlot k { offered.slot k with occupancy := (s.slot k).occupancy - 1 }
     (t.nest n).verdictOut = some (verdictEvent n r v.1 v.2 g) ∧
     (r.kind = .counted → t.retest = records.retest ∧ t.mrk = records.mrk ∧
       ∀ j, (j ≠ k ∨ s.commitPending k = false ∨ 1 < (s.slot k).occupancy) → t.lot j = records.lot j) ∧
     (r.kind ≠ .counted → t.retest = s.retest ∧ t.mrk = s.mrk ∧
       ∀ j, (j ≠ k ∨ s.commitPending k = false ∨ 1 < (s.slot k).occupancy) → t.lot j = s.lot j) ∧
     t.slot k = (if 1 < (s.slot k).occupancy then left.slot k
       else if s.commitPending k = true then ((left.swap k).promote k).slot k else (left.promote k).slot k))) ∧
  (∀ (e : Engine) (x : Tables),
    let silent : Engine := { e with mode := .silent, lobe := .ended }
    (e.mode = .step →
      (e.last = .here → (x.step e.step).kind = .tone → 0 < x.settingsRow.fade →
        e.endRun x = { e with mode := .endFade, fade := 0, fadeLen := x.settingsRow.fade }) ∧
      (e.last = .here → (x.step e.step).kind = .tone → x.settingsRow.fade = 0 → e.endRun x = silent) ∧
      (e.last = .here → (x.step e.step).kind ≠ .tone → e.endRun x = silent) ∧
      (e.last = .quiet → e.endRun x = silent) ∧
      (∀ inc aeff, e.last = .tone inc aeff → 0 < x.settingsRow.fade →
        e.endRun x = { e with mode := .endFade, fade := 0, fadeLen := x.settingsRow.fade, inc := inc, aeff := aeff }) ∧
      (∀ inc aeff, e.last = .tone inc aeff → x.settingsRow.fade = 0 →
        (e.endRun x).mode = .silent ∧ (e.endRun x).lobe = .ended)) ∧
    (e.mode = .stepFade → e.endRun x = { e with mode := .endFade }) ∧
    (e.mode = .endFade ∨ e.mode = .silent → e.endRun x = e)) ∧
  (∀ (n : NestId) (r : Run) (v : VerdictKind) (classes : ClassSet) (g : LabelField),
    let e := verdictEvent n r v classes g
    let w0 := e.body.getD 0 0#32
    let w1 := e.body.getD 1 0#32
    let w2 := e.body.getD 2 0#32
    e.kind = 0x83#8 ∧ e.scope = BitVec.ofNat 4 n.val ∧ e.body.length = (if r.kind = .counted then 5 else 4) ∧
    w0.extractLsb' 30 2 = BitVec.ofNat 2 n.val ∧ w0.extractLsb' 27 3 = BitVec.ofNat 3 r.slot.val ∧
    w0.extractLsb' 24 3 = BitVec.ofNat 3 r.attempt ∧
    w0.extractLsb' 22 2 = (match v with | .pass => 0#2 | .fail => 1#2 | .retest => 2#2 | .aborted => 3#2) ∧
    (r.endCause = .aborted .command → w0.extractLsb' 20 2 = 1#2) ∧
    (r.endCause = .aborted .headLoss → w0.extractLsb' 20 2 = 2#2) ∧
    ((∀ c, r.endCause ≠ .aborted c) → w0.extractLsb' 20 2 = 0#2) ∧
    w0.getLsbD 19 = (r.kind == .bench) ∧ w0.getLsbD 18 = (r.kind == .golden) ∧ w0.getLsbD 17 = r.clipSeen ∧
    w0.getLsbD 16 = r.trace ∧ w0.extractLsb' 0 16 = r.generation ∧
    w1.extractLsb' 16 16 = classes ∧ w1.extractLsb' 8 8 = BitVec.ofNat 8 g.code ∧
    w1.extractLsb' 4 4 = BitVec.ofNat 4 g.bin ∧ w1.extractLsb' 0 4 = 0#4 ∧
    w2.extractLsb' 24 8 = BitVec.ofNat 8 r.firstFail ∧ w2.extractLsb' 16 8 = 0#8 ∧
    w2.extractLsb' 0 16 ++ e.body.getD 3 0#32 = r.serial ∧ (r.kind = .counted → e.body.getD 4 0#32 = r.lotId))

/-- R130: the verdict kind and class set of a run under retest limit L, by the order of the table.
R132, R133: the grade: the label of PASS, of RETEST, and for a FAIL that of the first grading entry that shares a class
with the set, else the default reject label; 0 for ABORTED and for golden and bench runs. -/
def Obligations.VerdictOrder : Prop :=
  (∀ (r : Run) (limit : Nat),
    let retest : ClassSet := r.marginalSet ||| (if r.contact then 0x200#16 else 0#16) |||
      (if r.disturbed then 0x400#16 else 0#16)
    (∀ c, r.endCause = .aborted c → r.verdict limit = (.aborted, 0#16)) ∧
    ((∀ c, r.endCause ≠ .aborted c) →
      (r.failSet ≠ 0#16 → r.verdict limit = (.fail, r.failSet)) ∧
      (r.failSet = 0#16 → retest ≠ 0#16 → r.attempt ≤ limit → r.verdict limit = (.retest, retest)) ∧
      (r.failSet = 0#16 → retest ≠ 0#16 → limit < r.attempt → r.verdict limit = (.fail, retest)) ∧
      (r.failSet = 0#16 → retest = 0#16 → r.verdict limit = (.pass, 0#16)))) ∧
  (∀ (x : Tables) (classes : ClassSet),
    (∀ kind v, kind ≠ RunKind.counted → x.grade kind v classes = ⟨0, 0⟩) ∧
    x.grade .counted .pass classes = x.settingsRow.passLabel ∧
    x.grade .counted .retest classes = x.settingsRow.retestLabel ∧
    x.grade .counted .aborted classes = ⟨0, 0⟩ ∧
    (∀ before row after, x.grading = before ++ row :: after →
      (∀ y ∈ before, (gradeOf y).classes &&& classes = 0#16) → (gradeOf row).classes &&& classes ≠ 0#16 →
      x.grade .counted .fail classes = (gradeOf row).label) ∧
    ((∀ y ∈ x.grading, (gradeOf y).classes &&& classes = 0#16) →
      x.grade .counted .fail classes = x.settingsRow.rejectLabel))

/-- R134, R137: at the verdict of a counted run a RETEST adds an entry for the unit at the end of the retest list, and a
PASS, FAIL or RETEST adds a QUEUED label record at the end of the label list; neither list outgrows its capacity.
R134, steps 3 to 5: the retest entry, then the report of the verdict, then the label record.
R160: the report of a verdict, by its kind, in the lot that has its lot id, and in no other.
R137: with 32 entries the oldest is given up first, and RETEST_EVICT set; its own lot counts it final FAIL with its classes
plus NO_RETURN. R148: with 8 records the oldest QUEUED one is resolved UNMARKED first (`ResolutionCounts`), and LABEL_FAULT
set. -/
def Obligations.VerdictRecords : Prop :=
  (∀ (s : State) (n : NestId) (r : Run) (v : VerdictKind) (classes : ClassSet) (g : LabelField),
    s.retest.length ≤ 32 → s.mrk.records.length ≤ 8 → (s.mrk.records.filter (·.issued)).length ≤ 1 →
    let t := s.recordVerdict n r v classes g
    (v = .retest → ∃ kept, kept = s.retest.drop (s.retest.length - 31) ∧
      t.retest = kept ++ [⟨r.serial, r.slot, r.lotId, r.attempt, classes⟩]) ∧
    (v ≠ .retest → t.retest = s.retest) ∧ t.retest.length ≤ 32 ∧
    (v = .aborted → t.mrk = s.mrk) ∧
    (v ≠ .aborted → t.mrk.records.getLast? = some
      { nest := n, lotId := r.lotId,
        kind := (match v with | .pass => .finalPass | .fail => .finalFail | .retest | .aborted => .retest),
        code := BitVec.ofNat 8 g.code, bin := BitVec.ofNat 4 g.bin, classes := classes, issued := false, age := 0 }) ∧
    t.mrk.records.length ≤ 8) ∧
  (∀ (s : State) (n : NestId) (r : Run) (v : VerdictKind) (classes : ClassSet) (g : LabelField),
    (v = .aborted → s.recordVerdict n r v classes g = s.reportVerdict v r.lotId) ∧
    (v ≠ .aborted → s.recordVerdict n r v classes g =
      ((if v = .retest then s.addRetest r classes else s).reportVerdict v r.lotId).createLabel
        { nest := n, lotId := r.lotId,
          kind := (match v with | .pass => .finalPass | .fail => .finalFail | .retest | .aborted => .retest),
          code := BitVec.ofNat 8 g.code, bin := BitVec.ofNat 4 g.bin, classes := classes, issued := false, age := 0 })) ∧
  (∀ (s : State) (v : VerdictKind) (k : SlotId) (l : Lot), s.lot k = some l →
    (∀ j m, s.lot j = some m → m.id = l.id → j = k) →
    s.reportVerdict v l.id = s.setLot k (some (match v with
      | .pass | .fail => { l with inFlight := l.inFlight - 1, awaiting := l.awaiting + 1 }
      | .retest => { l with inFlight := l.inFlight - 1, outstanding := l.outstanding + 1,
                            retests := min (l.retests + 1) 16777215 }
      | .aborted => { l with inFlight := l.inFlight - 1, aborted := l.aborted + 1 }))) ∧
  (∀ (s : State) (r : Run) (classes : ClassSet),
    let entry : RetestEntry := ⟨r.serial, r.slot, r.lotId, r.attempt, classes⟩
    (s.retest.length < 32 → s.addRetest r classes = { s with retest := s.retest ++ [entry] }) ∧
    (∀ e rest, s.retest = e :: rest → 32 ≤ s.retest.length →
      let given : State := (State.reportGivenUp { s with retest := rest } e).setFlag .retestEvict
      s.addRetest r classes = { given with retest := rest ++ [entry] } ∧ given.ntc.flags.getLsbD 6 = true)) ∧
  (∀ (s : State) (e : RetestEntry) (k : SlotId) (l : Lot), s.lotSlot e.lotId = some k → s.lot k = some l →
    ∃ x, x = { l with
        outstanding := l.outstanding - 1, failed := l.failed + 1
        classes := x.classes
        window := (if 64 ≤ l.window.length then l.window.drop 1 else l.window) ++ [false] } ∧
      (∀ i : Fin 13, x.classes[i] = l.classes[i] + (if (e.classes ||| 0x1000#16).getLsbD i.val then 1 else 0)) ∧
      s.reportGivenUp e = (s.setLot k (some x)).evaluateAlarm k) ∧
  (∀ (s : State) (r : Label),
    let label : Label := { r with issued := false, age := 0 }
    (s.mrk.records.length < 8 →
      s.createLabel r = { s with mrk := { s.mrk with records := s.mrk.records ++ [label] } }) ∧
    (∀ before q after, s.mrk.records = before ++ q :: after → 8 ≤ s.mrk.records.length → q.issued = false →
      (∀ x ∈ before, x.issued = true) →
      let room : State := (State.reportResolution
        { s with mrk := { s.mrk with records := before ++ after } } q false).setFlag .labelFault
      s.createLabel r = { room with mrk := { s.mrk with records := before ++ after ++ [label] } } ∧
        room.ntc.flags.getLsbD 5 = true))

/-- R62, R68, R74: the seat. SEAT_CLOSED makes an ARMED nest RUNNING with start cause SEAT at step 0, k = 0, and touches
nothing else but the window phase and the retry mark. R44, R48, R52, R55: its engine then has retry and extension counts 0, no
frame held, the accumulator 0, the increment and Aeff of step 0, and the lobe OPEN for a PULSE; that the lobe is ENDED
otherwise, the fade frame 0 and `last` empty are the model's choices (logs 27, 32 and 15). SEAT_LOSS ends a RUNNING run with
SEAT_LOSS after CONTACT has joined its causes; SEAT_TIMEOUT ends an ARMED run so with SEAT_TIMEOUT. The debounced state follows
the event; outside RUNNING a seat that opens does nothing else (R74). Three more clauses are the model's choices. That the retry mark is cleared where the nest becomes
RUNNING is no rule of the spec (DESIGN CHOICE, log 34). That the row sets the SEAT line itself to the level it reports is log
10 (DESIGN CHOICE). That a row which reports the level that stands changes nothing, and that a SEAT_TIMEOUT row outside ARMED
does no more than close its event, is log 3 (DESIGN CHOICE). -/
def Obligations.SeatEvents : Prop :=
  ∀ (n : NestId) (s : State),
    ((s.nest n).seat.stable = false → (s.nest n).phase = .armed → ∃ t : State, exec (.seatClosed n) s = .next t ∧
      (t.nest n).phase = .running ∧ (t.nest n).run = { (s.nest n).run with startCause := .seat } ∧
      (t.nest n).seat = { line := true, stable := true, count := 0 } ∧ (t.nest n).engine.mode = .step ∧
      (t.nest n).engine.step = 0 ∧ (t.nest n).engine.k = 0 ∧ (t.nest n).engine.acc = 0 ∧
      (∀ m, m ≠ n → t.nest m = s.nest m) ∧ t.lnk = s.lnk ∧ t.slots = s.slots ∧ t.lots = s.lots ∧ t.mrk = s.mrk ∧
      t.prot = s.prot ∧ t.ntc = s.ntc ∧ t.buffers = s.buffers ∧ t.amb = s.amb ∧ t.retest = s.retest ∧
      t.pending = s.pending ∧ (t.nest n).config = (s.nest n).config ∧ (t.nest n).analysis = (s.nest n).analysis ∧
      (t.nest n).verdictOut = (s.nest n).verdictOut ∧ (t.nest n).stepOut = (s.nest n).stepOut ∧
      (t.nest n).window = .before ∧ (t.nest n).retryMarked = false ∧
      (let first := (s.runTables n).step 0
       t = s.setNest n { s.nest n with
         phase := .running, seat := ⟨true, true, 0⟩, run := { (s.nest n).run with startCause := .seat }
         window := .before, retryMarked := false
         engine := { (s.nest n).engine with
           mode := .step, step := 0, k := 0, held := false, acc := 0, retry := 0, ext := 0, fade := 0, last := .quiet
           inc := BitVec.ofNat 32 (increment first.freq), aeff := stepAmplitude first.level (s.nest n).config.trim
           lobe := if first.kind = .pulse then .isOpen else .ended } })) ∧
    ((s.nest n).seat.stable = true → exec (.seatClosed n) s = .next s) ∧
    ((s.nest n).seat.stable = false → exec (.seatLoss n) s = .next s) ∧
    ((s.nest n).seat.stable = true → (s.nest n).phase ≠ .running → exec (.seatLoss n) s = .next
      (s.setNest n { s.nest n with seat := { line := false, stable := false, count := 0 } }).endEvent) ∧
    ((s.nest n).seat.stable = false → (s.nest n).phase ≠ .armed →
      exec (.seatClosed n) s = .next
        (s.setNest n { s.nest n with seat := { line := true, stable := true, count := 0 } })) ∧
    ((s.nest n).seat.stable = true → (s.nest n).phase = .running → exec (.seatLoss n) s = .next
      ((s.setNest n { s.nest n with
          seat := { line := false, stable := false, count := 0 }
          run := { (s.nest n).run with contact := true } }).endRun n .seatLoss).endEvent) ∧
    ((s.nest n).phase = .armed → exec (.seatTimeout n) s = .next
      ((s.setNest n { s.nest n with
          run := { (s.nest n).run with seatTimer := 0, contact := true } }).endRun n .seatTimeout).endEvent) ∧
    ((s.nest n).phase ≠ .armed → exec (.seatTimeout n) s = .next s.endEvent)

/-- R70, R84: at k = Ws of a dwell with the window BEFORE, a LOUD monitor holds the frame while the extension count is
below the slot's limit, and else the window opens with its sums cleared; nothing else changes. Elsewhere there is no such
decision (a WINDOW_START row there changes nothing: DESIGN CHOICE, log 4). The decisions of a head frame are those of the row.
R43, R83, R84: a head frame hands a nest's analysis engine the frame's input, and the drive phase and the position as they
stood; it is a window frame exactly when the nest is RUNNING in STEP with its window OPEN, not held, at Ws ≤ k < We.
R83: a frame in an analysis engine: the frame values, the last valid values, the mic history moved on by one.
R84, R85, R86, R95: what a window frame adds, with the frame values and the drive phase: fundamental, harmonic and current
sums, residual peak and energy by the residual order on the history as it stood, mic and reference energy, invalid count,
the flags and the polarity find. -/
def Obligations.WindowStartDecides : Prop :=
  (∀ (n : NestId) (s : State), (s.nest n).phase = .running → (s.nest n).engine.mode = .step →
    (s.nest n).window = .before → (s.nest n).engine.k = (s.stepRec n).ws →
    (s.amb.loud = true → (s.nest n).engine.ext < (s.runSettings n).settleLimit →
      exec (.windowStart n) s = .next (s.setNest n { s.nest n with
        engine := { (s.nest n).engine with held := true, ext := (s.nest n).engine.ext + 1 } })) ∧
    ((s.amb.loud = false ∨ (s.runSettings n).settleLimit ≤ (s.nest n).engine.ext) →
      exec (.windowStart n) s = .next (s.setNest n { s.nest n with
        window := .isOpen, engine := { (s.nest n).engine with held := false },
        analysis := { (s.nest n).analysis with win := Window.cleared } })) ∧
    exec (.windowStart n) s = .next (s.decideWindow n)) ∧
  (∀ (n : NestId) (s : State), ¬ ((s.nest n).phase = .running ∧ (s.nest n).engine.mode = .step ∧
    (s.nest n).window = .before ∧ (s.nest n).engine.k = (s.stepRec n).ws) →
    s.decideWindow n = s ∧ exec (.windowStart n) s = .next s) ∧
  (∀ (n : NestId) (s : State) (inp : FrameInput),
    let e := (s.nest n).engine
    let st := s.stepRec n
    let windowFrame : Prop := (s.nest n).phase = .running ∧ e.mode = .step ∧ (s.nest n).window = .isOpen ∧
      e.held = false ∧ st.ws ≤ e.k ∧ e.k < st.we
    (windowFrame → ((s.nestFrame n inp).nest n).analysis = (s.nest n).analysis.frame inp
      (some { step := st, phase := e.acc, loud := s.amb.loud, threshold := pexp (s.runSettings n).polarityCode })) ∧
    (¬ windowFrame → ((s.nestFrame n inp).nest n).analysis = (s.nest n).analysis.frame inp none)) ∧
  (∀ (x : Analysis) (inp : FrameInput) (win : Option WindowFrame),
    let m := if inp.mic.valid then inp.mic.sample else x.lastMic
    let c := if inp.cur.valid then inp.cur.sample else x.lastCur
    let a := if inp.ref.valid then inp.ref.sample else x.lastRef
    let y := x.frame inp win
    y.lastMic = m ∧ y.lastCur = c ∧ y.lastRef = a ∧ y.m1 = m ∧ y.m2 = x.m1 ∧ y.m3 = x.m2 ∧ y.m4 = x.m3 ∧
    (win = none → y.win = x.win) ∧
    (∀ f, win = some f →
      let w := x.win
      let v := y.win
      let grown (before after : Correlator) (value : Int) (phase : BitVec 32) : Prop :=
        after.i = before.i + value * sineV (phase + 0x40000000#32) ∧ after.q = before.q + value * sineV phase
      grown w.h1 v.h1 m.toInt f.phase ∧
      (f.step.harm = true → grown w.h2 v.h2 m.toInt (2#32 * f.phase) ∧ grown w.h3 v.h3 m.toInt (3#32 * f.phase) ∧
        grown w.h4 v.h4 m.toInt (4#32 * f.phase) ∧ grown w.h5 v.h5 m.toInt (5#32 * f.phase)) ∧
      (f.step.harm = false → v.h2 = w.h2 ∧ v.h3 = w.h3 ∧ v.h4 = w.h4 ∧ v.h5 = w.h5) ∧
      (f.step.imp = true → grown w.current v.current c.toInt f.phase) ∧ (f.step.imp = false → v.current = w.current) ∧
      (∀ r : Int, f.step.rb = true →
        (f.step.residual = 1 → r = m.toInt - x.m1.toInt) →
        (f.step.residual = 2 → r = m.toInt - 2 * x.m1.toInt + x.m2.toInt) →
        (f.step.residual = 3 → r = m.toInt - 3 * x.m1.toInt + 3 * x.m2.toInt - x.m3.toInt) →
        (f.step.residual = 4 → r = m.toInt - 4 * x.m1.toInt + 6 * x.m2.toInt - 4 * x.m3.toInt + x.m4.toInt) →
        1 ≤ f.step.residual → f.step.residual ≤ 4 →
        v.peak = max w.peak r.natAbs ∧ (v.residual : Int) = w.residual + r * r) ∧
      (f.step.rb = false → v.peak = w.peak ∧ v.residual = w.residual) ∧
      (v.micEnergy : Int) = w.micEnergy + m.toInt * m.toInt ∧ (v.ambEnergy : Int) = w.ambEnergy + a.toInt * a.toInt ∧
      v.invalid = w.invalid + (if inp.mic.valid = false then 1 else 0) +
        (if inp.cur.valid = false ∧ f.step.imp = true then 1 else 0) ∧
      (v.clip = true ↔ w.clip = true ∨ m = 0x7FFFFF#24 ∨ m = 0x800000#24) ∧
      (v.slipSeen = true ↔ w.slipSeen = true ∨ inp.slip = true) ∧
      (v.loudSeen = true ↔ w.loudSeen = true ∨ f.loud = true) ∧
      (f.step.kind = .pulse ∧ w.find = .notFound ∧ f.threshold ≤ m.toInt.natAbs →
        v.find = if m.toInt < 0 then .negative else .positive) ∧
      (f.step.kind ≠ .pulse ∨ w.find ≠ .notFound ∨ m.toInt.natAbs < f.threshold → v.find = w.find)))

/-- R71, R105, R107: at frame We − 1 of an open window the window is CLOSED; a disturbed one marks a retry while the retry
count is below the slot's limit, and then nothing but the nest's window, clip seen and STEP_RESULT has changed before
the event closes.
R71, R115: an undisturbed window that passes its contact check, on a step that is not the last, enters the judged
classes into the run record, and the run goes on.
R71, R107: a disturbed window whose retries are exhausted ends the run with DISTURBED, after DISTURBED has joined its
causes; a failed contact check ends it with CONTACT_CHECK, after CONTACT has; the last step's window, judged, ends it with
COMPLETED. R119: a judged window of a golden run on a REF step writes its Lfc into the golden values.
R98: with TRACE set the window's STEP_RESULT, field by field, and without it none.
R110, R111: the reference value that a step's REL limits are judged with: none in a golden run or from an EMPTY reference,
else the value of the step among the REF steps.
R96, R105, R106: a window is disturbed by the first that holds of SLIP (slip seen), DROPOUT (an invalid count above 8),
AMBIENT_PEAK (loud seen) and AMBIENT_LEVEL (La a number above the limit), with cause codes 3, 4, 1 and 2, and by none else.
R97: the contact check fails where Li is none or below the contact floor. -/
def Obligations.WindowEndOutcomes : Prop :=
  (∀ (n : NestId) (s : State) (d : Disturbance), s.windowEndDue n = true →
     (s.windowMeasures n).disturbance (s.runSettings n).ambientLimit = some d →
     (s.nest n).engine.retry < (s.runSettings n).retryLimit →
     ∃ t : State, exec (.windowEnd n) s = .next t.endEvent ∧
       (∃ out, out = (if (s.nest n).run.trace then
           some (stepResultEvent n (s.nest n).engine (s.windowMeasures n) .disturbed d.value) else (s.nest n).stepOut) ∧
         t.nest n = { s.nest n with
         window := .closed, retryMarked := true, stepOut := out
         run := { (s.nest n).run with clipSeen := (s.nest n).run.clipSeen || (s.windowMeasures n).clip } }) ∧
       (∀ m, m ≠ n → t.nest m = s.nest m) ∧ t.lnk = s.lnk ∧ t.slots = s.slots ∧ t.buffers = s.buffers ∧
       t.prot = s.prot ∧ t.amb = s.amb ∧ t.retest = s.retest ∧ t.mrk = s.mrk ∧ t.lots = s.lots ∧ t.ntc = s.ntc) ∧
  (∀ (n : NestId) (s : State), s.windowEndDue n = true →
     (s.windowMeasures n).disturbance (s.runSettings n).ambientLimit = none →
     ((s.stepRec n).contact = true → (s.windowMeasures n).contactFails (s.runSettings n).contactFloor = false) →
     (s.nest n).engine.step + 1 < (s.runTables n).plan.length →
     let j := judgeStep ((s.runTables n).maskRow (s.stepRec n).mask) (s.windowMeasures n) (s.stepRec n).kind
       (s.judgingReference n)
     ∃ t : State, exec (.windowEnd n) s = .next t.endEvent ∧ (t.nest n).phase = .running ∧ (t.nest n).window = .closed ∧
       (t.nest n).engine = (s.nest n).engine ∧
       (t.nest n).run.failSet = (s.nest n).run.failSet ||| j.failed ∧
       (t.nest n).run.marginalSet = (s.nest n).run.marginalSet ||| j.marginal ∧
       (t.nest n).run.firstFail =
         (if j.outcome = .fail ∧ (s.nest n).run.firstFail = 255 then (s.nest n).engine.step
          else (s.nest n).run.firstFail) ∧
       (∀ m, m ≠ n → t.nest m = s.nest m) ∧ t.lnk = s.lnk ∧ t.slots = s.slots ∧ t.lots = s.lots ∧ t.mrk = s.mrk ∧
       t.retest = s.retest ∧ t.prot = s.prot ∧ t.ntc = s.ntc) ∧
  (∀ (n : NestId) (s : State), s.windowEndDue n = true →
     let m := s.windowMeasures n
     let x := s.nest n
     let clip : Run := { x.run with clipSeen := x.run.clipSeen || m.clip }
     let out (o : StepOutcome) (cause : Nat) : Option Event :=
       if x.run.trace then some (stepResultEvent n x.engine m o cause) else x.stepOut
     (∀ d, m.disturbance (s.runSettings n).ambientLimit = some d → (s.runSettings n).retryLimit ≤ x.engine.retry →
       exec (.windowEnd n) s = .next ((s.setNest n { x with
         window := .closed, stepOut := out .disturbed d.value, run := { clip with disturbed := true } }).endRun n
           .disturbed).endEvent) ∧
     (m.disturbance (s.runSettings n).ambientLimit = none → (s.stepRec n).contact = true →
       m.contactFails (s.runSettings n).contactFloor = true →
       exec (.windowEnd n) s = .next ((s.setNest n { x with
         window := .closed, stepOut := out .contact 0, run := { clip with contact := true } }).endRun n
           .contactCheck).endEvent) ∧
     (m.disturbance (s.runSettings n).ambientLimit = none →
       ((s.stepRec n).contact = true → m.contactFails (s.runSettings n).contactFloor = false) →
       let j := judgeStep ((s.runTables n).maskRow (s.stepRec n).mask) m (s.stepRec n).kind (s.judgingReference n)
       let u : State := s.setNest n { x with
         window := .closed, stepOut := out j.outcome 0
         run := { clip with
           failSet := x.run.failSet ||| j.failed
           marginalSet := x.run.marginalSet ||| j.marginal
           firstFail := if j.outcome = .fail ∧ x.run.firstFail = 255 then x.engine.step else x.run.firstFail
           goldenValues := if x.run.kind = .golden ∧ (s.stepRec n).ref = true then
               x.run.goldenValues.set ((s.runTables n).refIndex x.engine.step) (some m.lfc)
             else x.run.goldenValues } }
       exec (.windowEnd n) s = .next
         (if x.engine.step + 1 < (s.runTables n).plan.length then u else u.endRun n .completed).endEvent)) ∧
  (∀ (n : NestId) (e : Engine) (m : Measures) (o : StepOutcome) (cause : Nat), e.step ≤ 127 → e.retry ≤ 7 → cause ≤ 4 →
     let x := stepResultEvent n e m o cause
     let w0 := x.body.getD 0 0#32
     let half (i lo : Nat) : BitVec 16 := (x.body.getD i 0#32).extractLsb' lo 16
     x.kind = 0x84#8 ∧ x.scope = BitVec.ofNat 4 n.val ∧ x.body.length = 6 ∧
     w0.extractLsb' 30 2 = BitVec.ofNat 2 n.val ∧ w0.extractLsb' 23 7 = BitVec.ofNat 7 e.step ∧
     w0.extractLsb' 20 3 = BitVec.ofNat 3 e.retry ∧
     (w0.extractLsb' 17 3).toNat = (match o with
       | .pass => 0 | .marginal => 1 | .fail => 2 | .notJudged => 3 | .disturbed => 4 | .contact => 5) ∧
     w0.extractLsb' 14 3 = BitVec.ofNat 3 cause ∧
     (w0.extractLsb' 12 2).toNat = (match m.polarity with | .unknown => 0 | .pos => 1 | .neg => 2) ∧
     w0.getLsbD 11 = m.clip ∧ w0.extractLsb' 0 11 = 0#11 ∧
     half 1 16 = BitVec.ofNat 16 e.ext ∧ half 1 0 = BitVec.ofNat 16 (min m.invalid 65535) ∧
     half 2 16 = BitVec.ofInt 16 m.lfc ∧ half 2 0 = BitVec.ofInt 16 m.lthd ∧ half 3 16 = BitVec.ofInt 16 m.lrb ∧
     half 3 0 = BitVec.ofInt 16 m.lcr ∧ half 4 16 = BitVec.ofInt 16 m.lz ∧ half 4 0 = BitVec.ofInt 16 m.ln ∧
     half 5 16 = BitVec.ofInt 16 m.la ∧ half 5 0 = 0#16) ∧
  (∀ (n : NestId) (s : State),
     ((s.nest n).run.kind = .golden → s.judgingReference n = none) ∧
     ((s.slot (s.nest n).run.slot).reference = none → s.judgingReference n = none) ∧
     (∀ values v, (s.nest n).run.kind ≠ .golden → (s.slot (s.nest n).run.slot).reference = some values →
       values[((s.runTables n).steps.take (s.nest n).engine.step).countP (·.ref)]? = some v →
       s.judgingReference n = some v)) ∧
  (∀ (m : Measures) (limit : Level),
     (m.slipSeen = true → m.disturbance limit = some .slip) ∧
     (m.slipSeen = false → m.dropout = true → m.disturbance limit = some .dropout) ∧
     (m.slipSeen = false → m.dropout = false → m.loudSeen = true → m.disturbance limit = some .ambientPeak) ∧
     (m.slipSeen = false → m.dropout = false → m.loudSeen = false →
       (m.la ≠ -32768 → limit < m.la → m.disturbance limit = some .ambientLevel) ∧
       (m.la = -32768 ∨ m.la ≤ limit → m.disturbance limit = none))) ∧
  (∀ (n : NestId) (s : State),
     let w := (s.nest n).analysis.win
     s.windowMeasures n = w.measures (s.stepRec n) (s.nest n).config ∧ (s.windowMeasures n).slipSeen = w.slipSeen ∧
       ((s.windowMeasures n).dropout = true ↔ 8 < w.invalid) ∧ (s.windowMeasures n).loudSeen = w.loudSeen) ∧
  (∀ d : Disturbance, d.value = (match d with | .slip => 3 | .dropout => 4 | .ambientPeak => 1 | .ambientLevel => 2)) ∧
  (∀ (m : Measures) (floor : Level), m.contactFails floor = true ↔ m.li = -32768 ∨ m.li < floor)

/-- R72: after frame D − 1 the dwell ends: with a retry marked the same step is played again, the retry count one higher;
else the next step follows with retry count 0. k and the extension count are 0, the window is BEFORE; nothing else
changes.
R44, R46, R50, R52, R75: after the last STEP_FADE frame the engine enters the next dwell in STEP at k = 0, its phase 0 in a
dwell that is no TONE, its increment and amplitude those of the step, its lobe OPEN for a PULSE, and nothing else changes;
FADE_END moves a CLOSING nest to REPORTING with its engine SILENT, and
nothing else before the event closes.
R44, R46, R48, R50, R52, R56: at the end of a TONE dwell before a dwell that is no TONE, with Rf above 0, the engine enters
STEP_FADE at f = 0 with its phase, increment and Aeff kept; else it is at k = 0 of the next dwell, in STEP, with that
step's increment and Aeff, its phase continued from TONE to TONE and else 0, its lobe OPEN for a PULSE. What the last frame
played belongs to, which R58 asks for, follows (the model's own field, log 15): at a run start nothing; after a STEP frame
the present dwell; after a dwell that has ended in a TONE, that TONE; after a STEP_FADE, nothing that sounds. That the lobe is
ENDED on entering a TONE or a GAP dwell, and that the fade frame is 0 from a run start on, are the model's choices too
(DESIGN CHOICE, logs 27 and 32).
R43, R69, R50: a head frame in a nest, after its analysis: outside SILENT the accumulator advances by the increment; a held
frame stays at k = Ws; else at We − 1 of an open window the window ends as WINDOW_END has it, and if the run goes on the
dwell ends at D − 1 as DWELL_END has it, or k rises by one; a fade frame moves to f + 1, and the last one ends the fade as
STEP_FADE_END or FADE_END has it. -/
def Obligations.DwellsAndFadesEnd : Prop :=
  (∀ (n : NestId) (s : State), s.dwellEndDue n = true → ∃ t : State, exec (.dwellEnd n) s = .next t ∧
     ((s.nest n).retryMarked = true →
       (t.nest n).engine.step = (s.nest n).engine.step ∧ (t.nest n).engine.retry = (s.nest n).engine.retry + 1) ∧
     ((s.nest n).retryMarked = false →
       (t.nest n).engine.step = (s.nest n).engine.step + 1 ∧ (t.nest n).engine.retry = 0) ∧
     (t.nest n).engine.k = 0 ∧ (t.nest n).engine.ext = 0 ∧ (t.nest n).engine.held = false ∧
     (t.nest n).window = .before ∧ (t.nest n).retryMarked = false ∧ (t.nest n).run = (s.nest n).run ∧
     (t.nest n).phase = (s.nest n).phase ∧ (t.nest n).config = (s.nest n).config ∧
     (∀ m, m ≠ n → t.nest m = s.nest m) ∧ t.lnk = s.lnk ∧ t.slots = s.slots ∧ t.lots = s.lots ∧ t.mrk = s.mrk ∧
     t.retest = s.retest ∧ t.prot = s.prot ∧ t.amb = s.amb ∧ t.ntc = s.ntc ∧ t.buffers = s.buffers ∧
     t = s.setNest n { s.nest n with window := .before, retryMarked := false, engine := (t.nest n).engine } ∧
     (let e := (s.nest n).engine
      let y := (t.nest n).engine
      let x := s.runTables n
      let next := x.step (if (s.nest n).retryMarked then e.step else e.step + 1)
      ((s.stepRec n).kind = .tone ∧ next.kind ≠ .tone ∧ 0 < x.settingsRow.fade →
        y.mode = .stepFade ∧ y.fade = 0 ∧ y.fadeLen = x.settingsRow.fade ∧ y.acc = e.acc ∧ y.inc = e.inc ∧
          y.aeff = e.aeff) ∧
      (¬ ((s.stepRec n).kind = .tone ∧ next.kind ≠ .tone ∧ 0 < x.settingsRow.fade) →
        y.mode = .step ∧ y.inc = BitVec.ofNat 32 (increment next.freq) ∧
          y.aeff = stepAmplitude next.level (s.nest n).config.trim ∧
          y.acc = (if (s.stepRec n).kind = .tone ∧ next.kind = .tone then e.acc else 0#32) ∧
          y.lobe = (if next.kind = .pulse then .isOpen else .ended) ∧
          y.last = (if (s.stepRec n).kind = .tone then .tone e.inc e.aeff else .quiet)))) ∧
  (∀ (e : Engine) (x : Tables) (trim : Nat),
     (e.startRun x trim).last = .quiet ∧ (e.startRun x trim).fade = 0 ∧
     (e.mode = .step → (e.advance x).last = .here) ∧ (e.mode ≠ .step → (e.advance x).last = e.last)) ∧
  (∀ (n : NestId) (s : State) (inp : FrameInput),
     let e := (s.nest n).engine
     let t := s.nestFrame n inp
     let analysed : Nest := { s.nest n with analysis := (t.nest n).analysis }
     let played (y : Engine) : State := s.setNest n { analysed with engine := y }
     let sounded : Engine := { e with acc := e.acc + e.inc }
     (e.mode = .silent → t = played e) ∧
     (e.mode = .step → (s.nest n).phase = .running →
       let stepped : Engine := { sounded with
         last := .here
         lobe := if (s.stepRec n).kind = .pulse ∧ e.lobe = .isOpen ∧ 2 ^ 31 ≤ e.acc.toNat then .ended else e.lobe }
       let u := played stepped
       (e.held = true → t = u) ∧
       (e.held = false → s.windowEndDue n = false → s.dwellEndDue n = false →
         t = played { stepped with k := e.k + 1 }) ∧
       (s.windowEndDue n = false → s.dwellEndDue n = true → exec (.dwellEnd n) u = .next t) ∧
       (s.windowEndDue n = true →
         let w := u.closeWindow n
         exec (.windowEnd n) u = .next w.endEvent ∧
         ((w.nest n).phase ≠ .running → t = w) ∧
         ((w.nest n).phase = .running →
           (w.dwellEndDue n = true → exec (.dwellEnd n) w = .next t) ∧
           (w.dwellEndDue n = false → t = w.setNest n { w.nest n with
             engine := { (w.nest n).engine with k := e.k + 1 } })))) ∧
     (e.mode = .stepFade →
       (e.fade + 1 < e.fadeLen → t = played { sounded with fade := e.fade + 1 }) ∧
       (e.fadeLen ≤ e.fade + 1 → exec (.stepFadeEnd n) (played sounded) = .next t)) ∧
     (e.mode = .endFade →
       (e.fade + 1 < e.fadeLen → t = played { sounded with fade := e.fade + 1 }) ∧
       (e.fadeLen ≤ e.fade + 1 → (s.nest n).phase = .closing → exec (.fadeEnd n) (played sounded) = .next t.endEvent ∧
         t = s.setNest n { analysed with phase := .reporting, engine := { sounded with mode := .silent } })) ∧
     (s.windowEndDue n = true ↔ (s.nest n).phase = .running ∧ e.mode = .step ∧ (s.nest n).window = .isOpen ∧
       e.held = false ∧ e.k + 1 = (s.stepRec n).we) ∧
     (s.dwellEndDue n = true ↔ (s.nest n).phase = .running ∧ e.mode = .step ∧ (s.nest n).window = .closed ∧
       e.held = false ∧ e.k + 1 = (s.stepRec n).dwell)) ∧
  (∀ (n : NestId) (s : State),
     (s.stepFadeEndDue n = true → ∃ t : State, exec (.stepFadeEnd n) s = .next t ∧
       (t.nest n).engine.mode = .step ∧ (t.nest n).engine.k = 0 ∧ (t.nest n).engine.last = .quiet ∧
       ((s.stepRec n).kind ≠ .tone → (t.nest n).engine.acc = 0) ∧
       (t.nest n).engine.step = (s.nest n).engine.step ∧
       (t.nest n).engine.aeff = stepAmplitude (s.stepRec n).level (s.nest n).config.trim ∧
       (let y := (t.nest n).engine
        y = { (s.nest n).engine with
          mode := .step, k := 0, held := false, last := .quiet, acc := y.acc
          inc := BitVec.ofNat 32 (increment (s.stepRec n).freq)
          aeff := stepAmplitude (s.stepRec n).level (s.nest n).config.trim
          lobe := if (s.stepRec n).kind = .pulse then .isOpen else .ended } ∧
        t = s.setNest n { s.nest n with engine := y }) ∧
       (t.nest n).run = (s.nest n).run ∧ (t.nest n).phase = (s.nest n).phase ∧
       (∀ m, m ≠ n → t.nest m = s.nest m) ∧ t.lnk = s.lnk ∧ t.slots = s.slots ∧ t.lots = s.lots ∧ t.mrk = s.mrk ∧
       t.retest = s.retest ∧ t.prot = s.prot ∧ t.amb = s.amb ∧ t.ntc = s.ntc) ∧
     ((s.nest n).phase = .closing → exec (.fadeEnd n) s = .next
       (s.setNest n { s.nest n with
         phase := .reporting, engine := { (s.nest n).engine with mode := .silent } }).endEvent))

/-! ### AMB -/

/-- R100, its table: a frame is loud when its A sample is marked invalid or its magnitude is at or above the threshold
amplitude, and quiet else. That a valid −8,388,607 is loud at code 0, where R100's prose has only the two extremes of the
range, is the model's choice (DESIGN CHOICE, log 37).
R100, R101: the counting of a classified frame, state by state: the H-th consecutive loud frame turns a QUIET monitor
LOUD and sets AMBIENT, the Q-th consecutive quiet frame turns a LOUD one QUIET.
R101: in PRESENT AMBIENT_LOUD turns a QUIET monitor LOUD and sets AMBIENT; AMBIENT_QUIET turns a LOUD one QUIET and sets
no flag; both counts become 0, the configuration stays. R99: outside PRESENT the monitor stands still, and neither row
changes anything (the row there: DESIGN CHOICE, log 3).
R103: AMBIENT_CONFIG with a quiet time above 0 and a code in −4096..0 replaces the configuration and zeroes both
counts, the monitor state kept; else it is refused with RANGE; nothing else changes. -/
def Obligations.AmbientMonitor : Prop :=
  (∀ s : State,
     let h := [1, 4, 16, 64].getD s.amb.holdSel 64
     (s.amb.loud = false → s.amb.hold + 1 < h →
       s.countFrame true = { s with amb := { s.amb with hold := s.amb.hold + 1 } }) ∧
     (s.amb.loud = false → h ≤ s.amb.hold + 1 →
       (s.countFrame true).amb = { s.amb with loud := true, hold := 0, quiet := 0 } ∧
       (s.countFrame true).ntc.flags.getLsbD 3 = true) ∧
     (s.amb.loud = false → s.countFrame false = { s with amb := { s.amb with hold := 0 } }) ∧
     (s.amb.loud = true → s.amb.quiet + 1 < s.amb.quietTime →
       s.countFrame false = { s with amb := { s.amb with quiet := s.amb.quiet + 1 } }) ∧
     (s.amb.loud = true → s.amb.quietTime ≤ s.amb.quiet + 1 →
       s.countFrame false = { s with amb := { s.amb with loud := false, hold := 0, quiet := 0 } }) ∧
     (s.amb.loud = true → s.countFrame true = { s with amb := { s.amb with quiet := 0 } })) ∧
  (∀ (s : State) (c : Channel),
     (c.valid = false ∨ pexp s.amb.code ≤ c.sample.toInt.natAbs → s.hearFrame c = s.countFrame true) ∧
     (c.valid = true → c.sample.toInt.natAbs < pexp s.amb.code → s.hearFrame c = s.countFrame false)) ∧
  (∀ s : State, s.lnk.presence ≠ .present → exec .ambientLoud s = .next s ∧ exec .ambientQuiet s = .next s) ∧
  (∀ s : State, s.lnk.presence = .present →
     (s.amb.loud = false → ∃ t : State, exec .ambientLoud s = .next t ∧
       t.amb = { s.amb with loud := true, hold := 0, quiet := 0 } ∧ t.ntc.flags = s.ntc.flags ||| 8#8 ∧
       t.ntc.enables = s.ntc.enables ∧ t.lnk.replyQ = s.lnk.replyQ ∧ t.slots = s.slots ∧ t.buffers = s.buffers ∧
       t.prot = s.prot ∧ t.nests = s.nests ∧ t.retest = s.retest ∧ t.mrk = s.mrk ∧ t.lots = s.lots) ∧
     (s.amb.loud = true →
       exec .ambientQuiet s = .next { s with amb := { s.amb with loud := false, hold := 0, quiet := 0 } })) ∧
  (∀ (tag : BitVec 8) (w : Word) (s : State), s.ReplyRoom →
     (bits w 16 16 ≠ 0 → -4096 ≤ sbits w 0 13 → sbits w 0 13 ≤ 0 →
       exec (.ambientConfig 15#4 tag w) s = .next
         (let t : State := { s with amb := { s.amb with quietTime := bits w 16 16, holdSel := bits w 14 2,
                                                        code := sbits w 0 13, hold := 0, quiet := 0 } }
          t.reply .ambientConfig 15#4 tag .ok [])) ∧
     ((bits w 16 16 = 0 ∨ sbits w 0 13 < -4096 ∨ 0 < sbits w 0 13) →
       exec (.ambientConfig 15#4 tag w) s = .next (s.reply .ambientConfig 15#4 tag .range [])))

/-! ### The tick -/

/-- R4, R39, R62, R144: a debounced level follows its line after as many samples at the new level as its setting asks for,
and no sooner; a tick (the model's tick: log 1) takes one sample of each input, 20 for KEY and 1, 5 or 20 by code for
SEAT and the marking port (that with code 0 a level that a configuration or a soft reset has left apart from its line
follows at the tick is the model's choice, log 10); in PRESENT it counts toward the loss.
R39, R62, R68, R79: where the count of KEY or of a SEAT completes, the tick does what the event's row does, and else it takes
the sample alone; the loss of R4 is HEAD_LOSS's.
R144, R149 to R153: where the count of a marking input completes, the tick takes every sample and then, in this order, a REQ
rising with the debounced NEST value, or a REQ falling, a MARKED rising and a JAM rising as their rows do
(`RequestHandshake`, `MarkingResults`); MARKED and JAM falling do nothing.
R68: the seat timer of an ARMED nest falls by one, and its end is a SEAT_TIMEOUT. R146, R154, R155: every label's age rises by
one; those that reach T_mark × 10 ticks ISSUED, or T_queue × 1000 QUEUED, are resolved UNMARKED, oldest first. R171: a
running period timer rises by one, and at the period it expires. The order of these parts within a tick is the model's
choice (DESIGN CHOICE, log 9), and so is that R134's nest order holds within a part and not across the parts (DESIGN CHOICE,
log 40) and that the lots which its run ends make due complete at the close, after all of them (DESIGN CHOICE, log 41). That
the time since the last head frame is counted in PRESENT alone is the model's reading (DEDUCED, log 24). -/
def Obligations.TickSamples : Prop :=
  (∀ (d : Debounce) (need i : Nat), d.count = 0 → 1 ≤ need → d.line ≠ d.stable →
     (i < need → ((fun x : Debounce => x.sample need)^[i] d).stable = d.stable) ∧
     (need ≤ i → ((fun x : Debounce => x.sample need)^[i] d).stable = d.line)) ∧
  (∀ s : State, ∃ t : State, s.tick = t ∧ t.prot.key = s.prot.key.sample 20 ∧
     (∀ n, (t.nest n).seat = (s.nest n).seat.sample ([1, 1, 5, 20].getD (s.nest n).config.seatCode 20)) ∧
     (let need := [1, 1, 5, 20].getD s.mrk.code 20
      t.mrk.req = s.mrk.req.sample need ∧ t.mrk.marked = s.mrk.marked.sample need ∧
        t.mrk.jam = s.mrk.jam.sample need ∧ t.mrk.nestLo = s.mrk.nestLo.sample need ∧
        t.mrk.nestHi = s.mrk.nestHi.sample need) ∧
     (s.lnk.presence = .present → s.lnk.elapsed < 9 → t.lnk.presence = .present ∧ t.lnk.elapsed = s.lnk.elapsed + 1) ∧
     (s.lnk.presence = .present → 9 ≤ s.lnk.elapsed → t.lnk.presence = .lost)) ∧
  (∀ s : State, s.tick = (allNests.foldl State.tickSeatTimer
    (allNests.foldl State.tickSeat s.tickNotices.tickLabels.tickKey).tickMarking.tickPresence).endEvent) ∧
  (∀ s : State,
     (s.ntc.timer = none → s.tickNotices = s) ∧
     (∀ e, s.ntc.timer = some e → e + 1 < s.ntc.period * 100 →
       s.tickNotices = { s with ntc := { s.ntc with timer := some (e + 1) } }) ∧
     (∀ e, s.ntc.timer = some e → s.ntc.period * 100 ≤ e + 1 → exec .noticePeriodExpiry s = .next s.tickNotices)) ∧
  (∀ s : State,
     let aged := s.mrk.records.map fun r => { r with age := r.age + 1 }
     let due (r : Label) : Bool := if r.issued then s.mrk.tMark * 10 ≤ r.age else s.mrk.tQueue * 1000 ≤ r.age
     let t := s.tickLabels
     ((∀ r ∈ aged, due r = false) → t = { s with mrk := { s.mrk with records := aged } }) ∧
     t.mrk = { s.mrk with records := aged.filter fun r => !due r } ∧
     t.lots = ((aged.filter due).foldl (fun u r => u.reportResolution r false) s).lots ∧
     ((∃ r ∈ aged, due r = true) → t.ntc.flags.getLsbD 5 = true) ∧
     t.nests = s.nests ∧ t.slots = s.slots ∧ t.buffers = s.buffers ∧ t.prot = s.prot ∧ t.retest = s.retest ∧
     t.amb = s.amb ∧ t.lnk.replyQ = s.lnk.replyQ) ∧
  (∀ (n : NestId) (s : State),
     ((s.nest n).phase ≠ .armed → s.tickSeatTimer n = s) ∧
     ((s.nest n).phase = .armed → 1 < (s.nest n).run.seatTimer → s.tickSeatTimer n = s.setNest n { s.nest n with
       run := { (s.nest n).run with seatTimer := (s.nest n).run.seatTimer - 1 } }) ∧
     ((s.nest n).phase = .armed → (s.nest n).run.seatTimer ≤ 1 →
       exec (.seatTimeout n) s = .next (s.tickSeatTimer n).endEvent ∧
       s.tickSeatTimer n = (s.setNest n { s.nest n with
         run := { (s.nest n).run with seatTimer := 0, contact := true } }).endRun n .seatTimeout)) ∧
  (∀ s : State,
     let d := s.prot.key
     (d.line = true → d.stable = false → 19 ≤ d.count → exec .keyOn s = .next s.tickKey) ∧
     (d.line = false → d.stable = true → 19 ≤ d.count → exec .keyOff s = .next s.tickKey) ∧
     (d.line = d.stable ∨ d.count < 19 → s.tickKey = { s with prot := { s.prot with key := d.sample 20 } })) ∧
  (∀ (n : NestId) (s : State),
     let d := (s.nest n).seat
     let need := [1, 1, 5, 20].getD (s.nest n).config.seatCode 20
     (d.line = true → d.stable = false → need ≤ d.count + 1 → exec (.seatClosed n) s = .next (s.tickSeat n)) ∧
     (d.line = false → d.stable = true → need ≤ d.count + 1 → exec (.seatLoss n) s = .next (s.tickSeat n).endEvent) ∧
     (d.line = d.stable ∨ d.count + 1 < need →
       s.tickSeat n = s.setNest n { s.nest n with seat := d.sample need })) ∧
  (∀ s : State,
     (s.lnk.presence ≠ .present → s.tickPresence = s) ∧
     (s.lnk.presence = .present → s.lnk.elapsed < 9 →
       s.tickPresence = { s with lnk := { s.lnk with elapsed := s.lnk.elapsed + 1 } }) ∧
     (s.lnk.presence = .present → 9 ≤ s.lnk.elapsed → exec .headLoss s = .next s.tickPresence.endEvent)) ∧
  (∀ s : State,
     let m := s.mrk
     let need := [0, 1, 5, 20].getD m.code 20
     let rises (d : Debounce) : Prop := d.line = true ∧ d.stable = false ∧ need ≤ d.count + 1
     let falls (d : Debounce) : Prop := d.line = false ∧ d.stable = true ∧ need ≤ d.count + 1
     let sampled : State := { s with mrk := { m with
       req := m.req.sample need, marked := m.marked.sample need, jam := m.jam.sample need
       nestLo := m.nestLo.sample need, nestHi := m.nestHi.sample need } }
     ∃ requested marked : State,
       (rises m.req → ∃ n : NestId, requested = sampled.requestRising n ∧
         n.val = (if sampled.mrk.nestLo.stable then 1 else 0) + (if sampled.mrk.nestHi.stable then 2 else 0)) ∧
       (falls m.req → requested = sampled.requestFalling) ∧
       (¬ rises m.req → ¬ falls m.req → requested = sampled) ∧
       (rises m.marked → marked = requested.markedRising) ∧ (¬ rises m.marked → marked = requested) ∧
       (rises m.jam → s.tickMarking = marked.jamRising) ∧ (¬ rises m.jam → s.tickMarking = marked))

/-! ### YLD -/

/-- R160, R162: every report that moves a unit keeps a lot balanced, where the counter that it lowers is not 0.
R19, R135, R141, R146, R157, R162: every step keeps `CountsOk`: each lot balanced, its in_flight, awaiting_mark and outstanding
equal to the counted nests, FINAL label records and retest entries of its units; each occupancy equal to the nests in ARMED
or RUNNING on the slot; at most 32 retest entries, one a serial; at most 8 labels, at most one ISSUED. R141: a VERDICT stands
at a nest in CLOSING or REPORTING alone. -/
def Obligations.ReportsKeepBalance : Prop :=
  (∀ (s : State) (k : SlotId), (∀ j l, s.lot j = some l → l.Balanced) →
    (∀ j l, (s.reportFirst k).lot j = some l → l.Balanced) ∧
    ((∀ l, s.lot k = some l → 0 < l.outstanding) → ∀ j l, (s.reportReturn k).lot j = some l → l.Balanced) ∧
    (∀ v id, (∀ l, s.lot k = some l → 0 < l.inFlight) → s.lotSlot id = some k →
      ∀ j l, (s.reportVerdict v id).lot j = some l → l.Balanced) ∧
    (∀ (r : Label) (marked : Bool), (∀ l, s.lot k = some l → 0 < l.awaiting) → s.lotSlot r.lotId = some k →
      ∀ j l, (s.reportResolution r marked).lot j = some l → l.Balanced) ∧
    (∀ e : RetestEntry, (∀ l, s.lot k = some l → 0 < l.outstanding) → s.lotSlot e.lotId = some k →
      ∀ j l, (s.reportGivenUp e).lot j = some l → l.Balanced)) ∧
  (∀ s t : State, CountsOk s → step s = .next t → CountsOk t)

/-- R158: LOT_OPEN on a LOADED slot without a lot, with an id that no lot of the table has, creates an OPEN lot with
every counter 0 and replies the slot's generation; nothing else changes. The first check that fails gives the reply, BUSY,
NOT_READY or DUPLICATE.
R159: LOT_CLOSE without a lot is refused with NO_LOT, on a CLOSING lot with REFUSED, and makes an OPEN lot CLOSING
with OK; a completion comes at the end of the event. -/
def Obligations.LotCommands : Prop :=
  (∀ (k : SlotId) (tag : BitVec 8) (id : Word) (s : State), s.ReplyRoom → s.lot k = none →
     (s.slot k).loaded = true → (∀ j l, s.lot j = some l → l.id ≠ id) →
     exec (.lotOpen (slotScope k) tag id) s = .next
       ((s.setLot k (some
           { id, closing := false, summary := none, genAtOpen := (s.slot k).generation, commits := 0, started := 0,
             inFlight := 0, awaiting := 0, outstanding := 0, passed := 0, failed := 0, aborted := 0, retests := 0,
             classes := Vector.replicate 13 0, window := [], tripped := false })).reply
         .lotOpen (slotScope k) tag .ok [(s.slot k).generation.setWidth 32])) ∧
  (∀ (k : SlotId) (tag : BitVec 8) (id : Word) (s : State), s.ReplyRoom →
     let refuse (code : ResultCode) : Prop :=
       exec (.lotOpen (slotScope k) tag id) s = .next (s.reply .lotOpen (slotScope k) tag code [])
     (s.lot k ≠ none → refuse .busy) ∧
     (s.lot k = none → (s.slot k).loaded = false → refuse .notReady) ∧
     (∀ j l, s.lot k = none → (s.slot k).loaded = true → s.lot j = some l → l.id = id → refuse .duplicate)) ∧
  (∀ (k : SlotId) (tag : BitVec 8) (s : State), s.ReplyRoom →
     (s.lot k = none →
       exec (.lotClose (slotScope k) tag) s = .next (s.reply .lotClose (slotScope k) tag .noLot []).endEvent) ∧
     (∀ l, s.lot k = some l → l.closing = true →
       exec (.lotClose (slotScope k) tag) s = .next (s.reply .lotClose (slotScope k) tag .refused []).endEvent) ∧
     (∀ l, s.lot k = some l → l.closing = false →
       exec (.lotClose (slotScope k) tag) s = .next
         ((s.setLot k (some { l with closing := true })).reply .lotClose (slotScope k) tag .ok []).endEvent))

/-- R164: a lot is due when it is CLOSING, its summary does not wait, and its in_flight and awaiting_mark are 0. Where the
slot's lot is not due, LOT_COMPLETE changes nothing (the row there: DESIGN CHOICE, log 3).
R138, R164: a due lot completes: its retest entries, and no others, leave the list, its LOT_SUMMARY of 27 words is
built, and it is CLOSING with summary waiting; nests, slots, labels and the reply queue stay; then the event closes.
R138, R160, R163: the entries are given up oldest first, each a final FAIL of the lot with its classes plus NO_RETURN: it
lowers outstanding, raises failed and the counters of its classes, and joins the rolling window of 64, the alarm evaluated
after each (`VerdictRecords`, `ResolutionCounts`). No other lot changes.
R164, R168: the LOT_SUMMARY is the lot report, as `QueriesReport` lays it out, of the lot as it stands after them, CLOSING,
its summary not waiting. -/
def Obligations.LotCompletes : Prop :=
  (∀ (k : SlotId) (l : Lot) (s : State), s.lot k = some l → l.closing = true → l.summary = none → l.inFlight = 0 →
    l.awaiting = 0 → ∃ t : State, exec (.lotComplete k) s = .next t.endEvent ∧
      t.retest = s.retest.filter (fun e => e.lotId != l.id) ∧
      (∃ x e, t.lot k = some x ∧ x.summary = some e ∧ x.closing = true ∧ x.id = l.id ∧ e.kind = 0x85#8 ∧
        e.scope = slotScope k ∧ e.body.length = 27) ∧
      t.nests = s.nests ∧ t.slots = s.slots ∧ t.buffers = s.buffers ∧ t.mrk = s.mrk ∧ t.prot = s.prot ∧
      t.amb = s.amb ∧ t.lnk.replyQ = s.lnk.replyQ) ∧
  (∀ (k : SlotId) (s : State),
    (s.lotDue k = true ↔
      ∃ l, s.lot k = some l ∧ l.closing = true ∧ l.summary = none ∧ l.inFlight = 0 ∧ l.awaiting = 0) ∧
    (s.lotDue k = true → exec (.lotComplete k) s = .next (s.completeLot k).endEvent) ∧
    (s.lotDue k = false → s.completeLot k = s ∧ exec (.lotComplete k) s = .next s)) ∧
  (∀ (k : SlotId) (l : Lot) (s : State), s.lot k = some l → l.closing = true → l.summary = none → l.inFlight = 0 →
    l.awaiting = 0 → (∀ j m, s.lot j = some m → m.id = l.id → j = k) →
    let mine := s.retest.filter fun e => e.lotId == l.id
    let given := mine.foldl State.reportGivenUp { s with retest := s.retest.filter fun e => e.lotId != l.id }
    ∃ x, given.lot k = some x ∧
      s.completeLot k = given.setLot k (some { x with
        summary := some ⟨0x85#8, slotScope k, lotReport k x (s.slot k).generation⟩ }) ∧
      x = { l with
        outstanding := l.outstanding - mine.length, failed := l.failed + mine.length
        classes := x.classes, tripped := x.tripped
        window := (l.window ++ List.replicate mine.length false).drop (mine.length - (64 - l.window.length)) } ∧
      (∀ i : Fin 13, x.classes[i] =
        l.classes[i] + mine.countP fun e => (e.classes ||| 0x1000#16).getLsbD i.val) ∧
      (∀ j, j ≠ k → (s.completeLot k).lot j = s.lot j) ∧ (mine = [] → x = l ∧ given = s) ∧
      (let d := lotReport k x (s.slot k).generation
       (d.getD 1 0#32).getLsbD 4 = true ∧ (d.getD 1 0#32).getLsbD 5 = false ∧ d.getD 3 0#32 = 0#32 ∧
         d.getD 4 0#32 = 0#32 ∧ (l.outstanding ≤ mine.length → d.getD 5 0#32 = 0#32)))

/-- R165: the lot yield lies in 0–1000, and its four packed digits spell it.
R166: the rolling yield is 0 at fill 0, else floor(1000 × passes / fill). -/
def Obligations.YieldFigures : Prop :=
  (∀ l : Lot,
     (l.passed + l.failed = 0 → l.yield = 0) ∧
     (l.passed + l.failed ≠ 0 → l.yield = 1000 * l.passed / (l.passed + l.failed)) ∧ l.yield ≤ 1000 ∧
     (∃ a b c d, a ≤ 1 ∧ b ≤ 9 ∧ c ≤ 9 ∧ d ≤ 9 ∧ l.yield = 1000 * a + 100 * b + 10 * c + d ∧
       packedDigits l.yield = 4096 * a + 256 * b + 16 * c + d)) ∧
  (∀ l : Lot,
     (l.window.length = 0 → l.rollingYield = 0) ∧
     (l.window.length ≠ 0 → l.rollingYield = 1000 * l.window.count true / l.window.length))

/-! ### VRD and MRK commands, the marking port -/

/-- R145: MARK_CONFIG with T_mark 1 to 1000 and T_queue 1 to 600 replaces the three values, restarts the inputs' counts
when the debounce code changes, and replies three words; else it is refused with RANGE; no record, level, port answer
or count of strays changes.
R145, R18: the three words: the configuration as now stored; the records, those QUEUED for each nest, the ISSUED record's
nest and kind, the port answer and the debounced REQ, MARKED and JAM; the stray count. That nest and kind are sent as 0 with
no record ISSUED is the model's choice (DESIGN CHOICE, log 38). -/
def Obligations.MarkConfigEffect : Prop :=
  ∀ (tag : BitVec 8) (w : Word) (s : State), s.ReplyRoom →
    (1 ≤ bits w 10 10 → bits w 10 10 ≤ 1000 → 1 ≤ bits w 0 10 → bits w 0 10 ≤ 600 →
      ∃ (m : Marking) (d : List Word), d.length = 3 ∧
        exec (.markConfig 15#4 tag w) s = .next
          (let t : State := { s with mrk := m }
           t.reply .markConfig 15#4 tag .ok d) ∧
        m.code = bits w 20 2 ∧ m.tMark = bits w 10 10 ∧ m.tQueue = bits w 0 10 ∧ m.records = s.mrk.records ∧
        m.port = s.mrk.port ∧ m.stray = s.mrk.stray ∧ m.req.stable = s.mrk.req.stable ∧
        m.marked.stable = s.mrk.marked.stable ∧ m.jam.stable = s.mrk.jam.stable ∧
        m.nestValue = s.mrk.nestValue ∧
        (bits w 20 2 ≠ s.mrk.code → m.req.count = 0 ∧ m.marked.count = 0 ∧ m.jam.count = 0 ∧ m.nestLo.count = 0 ∧
          m.nestHi.count = 0) ∧
        (let w1 := d.getD 0 0#32
         let w2 := d.getD 1 0#32
         let w3 := d.getD 2 0#32
         let list := s.mrk.records
         let queued (n : NestId) : BitVec 4 := BitVec.ofNat 4 (list.countP fun r => !r.issued && r.nest == n)
         (w1.extractLsb' 0 22 = w.extractLsb' 0 22 ∧ w1.extractLsb' 22 10 = 0#10) ∧
         w2.extractLsb' 28 4 = BitVec.ofNat 4 list.length ∧ w2.extractLsb' 24 4 = queued 0 ∧
         w2.extractLsb' 20 4 = queued 1 ∧ w2.extractLsb' 16 4 = queued 2 ∧ w2.extractLsb' 12 4 = queued 3 ∧
         ((∀ r ∈ list, r.issued = false) → w2.extractLsb' 7 5 = 0#5) ∧
         (∀ before r after, list = before ++ r :: after → r.issued = true → (∀ x ∈ before, x.issued = false) →
           w2.getLsbD 11 = true ∧ w2.extractLsb' 9 2 = BitVec.ofNat 2 r.nest.val ∧
           w2.extractLsb' 7 2 = (match r.kind with | .finalPass => 0#2 | .finalFail => 1#2 | .retest => 2#2)) ∧
         w2.extractLsb' 5 2 = (match s.mrk.port with | .idle => 0#2 | .issue => 1#2 | .noLabel => 2#2) ∧
         w2.getLsbD 4 = s.mrk.req.stable ∧ w2.getLsbD 3 = s.mrk.marked.stable ∧ w2.getLsbD 2 = s.mrk.jam.stable ∧
         w2.extractLsb' 0 2 = 0#2 ∧ w3.extractLsb' 0 16 = BitVec.ofNat 16 s.mrk.stray ∧ w3.extractLsb' 16 16 = 0#16)) ∧
    ((bits w 10 10 = 0 ∨ 1000 < bits w 10 10 ∨ bits w 0 10 = 0 ∨ 600 < bits w 0 10) →
      exec (.markConfig 15#4 tag w) s = .next (s.reply .markConfig 15#4 tag .range []))

/-- R149: a REQ rising with no record ISSUED issues the oldest QUEUED record of the nest, its age 0, with ACK; with no
such record it answers EMPTY. No other record changes. With a record ISSUED that record is first resolved UNMARKED,
which its lot counts (`ResolutionCounts`), and the request is answered then.
R150: a REQ falling makes the port answer IDLE, ACK and EMPTY fall; every record stays, and the label presented with
it. That the REQ_RISING row is a rising also where REQ stands high is the model's choice (DESIGN CHOICE, log 36).
R149: the rising and the falling themselves, which a tick takes too (`TickSamples`); the rows first set the lines of REQ and
NEST to the levels they report (DESIGN CHOICE, log 10). -/
def Obligations.RequestHandshake : Prop :=
  (∀ (n : NestId) (s : State),
     (∀ before r after, s.mrk.records = before ++ r :: after → (∀ x ∈ before ++ r :: after, x.issued = false) →
       r.nest = n → (∀ x ∈ before, x.nest ≠ n) →
       ∃ m : Marking, exec (.reqRising n) s = .next (State.endEvent { s with mrk := m }) ∧
         m.records = before ++ { r with issued := true, age := 0 } :: after ∧ m.port = .issue ∧ m.ack = true ∧
         m.empty = false ∧ m.codeOut = r.code ∧ m.binOut = r.bin ∧ m.stray = s.mrk.stray) ∧
     ((∀ x ∈ s.mrk.records, x.issued = false ∧ x.nest ≠ n) →
       ∃ m : Marking, exec (.reqRising n) s = .next (State.endEvent { s with mrk := m }) ∧
         m.records = s.mrk.records ∧ m.port = .noLabel ∧ m.ack = true ∧ m.empty = true ∧ m.codeOut = 0 ∧
         m.binOut = 0 ∧ m.stray = s.mrk.stray) ∧
     (∀ before r after, s.mrk.records = before ++ r :: after → r.issued = true → (∀ x ∈ before, x.issued = false) →
       ∃ t : State, exec (.reqRising n) s = .next (t.answerRequest n).endEvent ∧ t.mrk.records = before ++ after ∧
         t.lots = (s.reportResolution r false).lots ∧ t.ntc.flags.getLsbD 5 = true ∧ t.nests = s.nests ∧ t.slots = s.slots ∧ t.retest = s.retest)) ∧
  (∀ s : State, ∃ m : Marking, exec .reqFalling s = .next { s with mrk := m } ∧ m.port = .idle ∧ m.ack = false ∧
     m.empty = false ∧ m.records = s.mrk.records ∧ m.codeOut = s.mrk.codeOut ∧ m.binOut = s.mrk.binOut ∧
     m.stray = s.mrk.stray) ∧
  (∀ (n : NestId) (s : State),
     let settled (b : Bool) : Debounce := ⟨b, b, 0⟩
     exec (.reqRising n) s = .next (State.requestRising { s with mrk := { s.mrk with
       req := settled true, nestLo := settled (n.val % 2 == 1), nestHi := settled (n.val / 2 == 1) } } n).endEvent ∧
     exec .reqFalling s = .next (State.requestFalling { s with mrk := { s.mrk with req := settled false } }) ∧
     s.requestFalling = { s with mrk := { s.mrk with port := .idle } } ∧
     ((∀ r ∈ s.mrk.records, r.issued = false) → s.requestRising n = s.answerRequest n) ∧
     (∀ before r after, s.mrk.records = before ++ r :: after → r.issued = true → (∀ x ∈ before, x.issued = false) →
       s.requestRising n = ((State.reportResolution
         { s with mrk := { s.mrk with records := before ++ after } } r false).setFlag .labelFault).answerRequest n) ∧
     (∀ before r after, s.mrk.records = before ++ r :: after → r.issued = false → r.nest = n →
       (∀ x ∈ before, x.issued = true ∨ x.nest ≠ n) →
       s.answerRequest n = { s with mrk := { s.mrk with
         port := .issue, records := before ++ { r with issued := true, age := 0 } :: after } }) ∧
     ((∀ x ∈ s.mrk.records, x.issued = true ∨ x.nest ≠ n) →
       s.answerRequest n = { s with mrk := { s.mrk with port := .noLabel } }))

/-- R147, R151–R155: MARKED resolves the ISSUED record MARKED; JAM and the issue timeout resolve it UNMARKED, and the
queue expiry resolves the QUEUED record it names; the record leaves the list, its lot counts the resolution as
`ResolutionCounts` says, MARKED for a MARKED result alone, the port answer stays, an UNMARKED resolution sets LABEL_FAULT;
before the event closes nothing changes but MRK, the lots and the notice unit.
R153: a MARKED or a JAM with no record ISSUED is a stray result: the stray count rises, saturating, and LABEL_FAULT
is set; no record, no port answer and no lot counter changes.
R151 to R153: the risings of MARKED and JAM themselves, which a tick takes too (`TickSamples`); the rows take theirs with the
pulse gone from the line, the level high but with code 0 (DESIGN CHOICE, log 10). -/
def Obligations.MarkingResults : Prop :=
  (∀ (s : State) (before after : List Label) (r : Label), s.mrk.records = before ++ r :: after →
     (r.issued = true → (∀ x ∈ before ++ after, x.issued = false) → ∀ c : Instr, c = .markedResult ∨ c = .jamResult ∨ c = .issueTimeout →
       ∃ t : State, exec c s = .next t.endEvent ∧ t.mrk.records = before ++ after ∧ t.mrk.port = s.mrk.port ∧
         t.mrk.codeOut = 0 ∧ t.mrk.binOut = 0 ∧ t.mrk.stray = s.mrk.stray ∧
         t.lots = (s.reportResolution r (c == .markedResult)).lots ∧
         (c ≠ .markedResult → t.ntc.flags.getLsbD 5 = true) ∧
         t.nests = s.nests ∧ t.slots = s.slots ∧ t.buffers = s.buffers ∧ t.prot = s.prot ∧ t.retest = s.retest ∧
         t.amb = s.amb ∧ t.lnk.replyQ = s.lnk.replyQ) ∧
     (r.issued = false → ∀ i : Fin 8, i.val = before.length →
       ∃ t : State, exec (.queueExpiry i) s = .next t.endEvent ∧ t.mrk = { s.mrk with records := before ++ after } ∧
         t.lots = (s.reportResolution r false).lots ∧
         t.ntc.flags.getLsbD 5 = true ∧ t.nests = s.nests ∧ t.slots = s.slots ∧ t.buffers = s.buffers ∧
         t.prot = s.prot ∧ t.retest = s.retest ∧ t.amb = s.amb ∧ t.lnk.replyQ = s.lnk.replyQ)) ∧
  (∀ (s : State) (c : Instr), (∀ r ∈ s.mrk.records, r.issued = false) → c = .markedResult ∨ c = .jamResult →
     ∃ t : State, exec c s = .next t.endEvent ∧ t.mrk.stray = min (s.mrk.stray + 1) 65535 ∧
       t.mrk.records = s.mrk.records ∧ t.mrk.port = s.mrk.port ∧ t.ntc.flags.getLsbD 5 = true ∧ t.lots = s.lots ∧
       t.nests = s.nests ∧ t.slots = s.slots ∧ t.retest = s.retest ∧ t.prot = s.prot) ∧
  (∀ s : State,
     let pulsed : Debounce := ⟨false, s.mrk.code != 0, 0⟩
     let stray : State := State.setFlag
       { s with mrk := { s.mrk with stray := min (s.mrk.stray + 1) 65535 } } .labelFault
     exec .markedResult s = .next (State.markedRising { s with mrk := { s.mrk with marked := pulsed } }).endEvent ∧
     exec .jamResult s = .next (State.jamRising { s with mrk := { s.mrk with jam := pulsed } }).endEvent ∧
     ((∀ r ∈ s.mrk.records, r.issued = false) → s.markedRising = stray ∧ s.jamRising = stray) ∧
     (∀ before r after, s.mrk.records = before ++ r :: after → r.issued = true → (∀ x ∈ before, x.issued = false) →
       let gone : State := { s with mrk := { s.mrk with records := before ++ after } }
       s.markedRising = gone.reportResolution r true ∧
       s.jamRising = (gone.reportResolution r false).setFlag .labelFault))

/-- R147, R160, R163: how a resolution counts: a FINAL_PASS MARKED passes its unit; any other FINAL resolution fails it,
with the record's classes, plus UNMARKED when unmarked; a RETEST record counts nothing. The outcome joins the end of the
lot's rolling window of 64, and then the alarm is evaluated.
R167: an ARMED alarm trips with 64 outcomes, a threshold above 0 and a rolling yield below it, which sets the slot's bit in
the bitmap and LOW_YIELD; a TRIPPED one arms again at the re-arm level; nothing else changes. -/
def Obligations.ResolutionCounts : Prop :=
  (∀ (s : State) (r : Label) (marked : Bool) (k : SlotId) (l : Lot), s.lotSlot r.lotId = some k → s.lot k = some l →
    (r.kind = .retest → s.reportResolution r marked = s) ∧
    (r.kind ≠ .retest → ∃ x, (s.reportResolution r marked).lot k = some x ∧ x.awaiting = l.awaiting - 1 ∧
      x = { l with
        awaiting := l.awaiting - 1, passed := x.passed, failed := x.failed, classes := x.classes, window := x.window
        tripped := x.tripped } ∧
      (r.kind = .finalPass → marked = true →
        x.passed = l.passed + 1 ∧ x.failed = l.failed ∧ x.classes = l.classes) ∧
      (r.kind = .finalFail ∨ marked = false →
        x.passed = l.passed ∧ x.failed = l.failed + 1 ∧
        ∀ i : Fin 13, x.classes[i] = l.classes[i] +
          (if ((if r.kind = .finalFail then r.classes else 0#16) |||
            (if marked then 0#16 else 0x0800#16)).getLsbD i.val then 1 else 0)) ∧
      x.started = l.started ∧ x.inFlight = l.inFlight ∧ x.outstanding = l.outstanding ∧ x.aborted = l.aborted ∧
      x.window = (if 64 ≤ l.window.length then l.window.drop 1 else l.window) ++ [r.kind == .finalPass && marked] ∧
      ∃ y, y = { x with tripped := l.tripped } ∧ s.reportResolution r marked = (s.setLot k (some y)).evaluateAlarm k)) ∧
  (∀ (s : State) (k : SlotId) (l : Lot), s.lot k = some l →
    let t := s.evaluateAlarm k
    let threshold := (s.slot k).tables.settingsRow.lowYield
    let trips : Prop := l.window.length = 64 ∧ threshold ≠ 0 ∧ l.rollingYield < threshold
    (l.tripped = false → trips →
      t.lot k = some { l with tripped := true } ∧ t.ntc.bitmap = s.ntc.bitmap ||| (1#8 <<< k.val) ∧
      t.ntc.flags = s.ntc.flags ||| 0x10#8 ∧ (∀ j, j ≠ k → t.lot j = s.lot j) ∧ t.slots = s.slots ∧
      t.nests = s.nests ∧ t.retest = s.retest ∧ t.mrk = s.mrk ∧ t.prot = s.prot ∧ t.amb = s.amb ∧
      t.lnk.replyQ = s.lnk.replyQ) ∧
    (l.tripped = false → ¬ trips → t = s) ∧
    (l.tripped = true → min (threshold + 20) 1000 ≤ l.rollingYield → t = s.setLot k (some { l with tripped := false })) ∧
    (l.tripped = true → l.rollingYield < min (threshold + 20) 1000 → t = s))

/-! ### Frames, the event queue, notices -/

/-- R5: a line-side frame outside PRESENT is discarded without a count; one with a wrong sync pattern is a link error;
else it is stored, and one that replaces a stored frame is a link error. -/
def Obligations.LineFrameStored : Prop :=
  ∀ (w c a : Word) (s : State),
    (s.lnk.presence ≠ .present → exec (.lineFrame w c a) s = .next s) ∧
    (s.lnk.presence = .present → w.extractLsb' 8 24 ≠ 0x3CA51E#24 →
      exec (.lineFrame w c a) s = .next s.linkError ∧ s.linkError.lnk.store = s.lnk.store ∧
      s.linkError.lnk.linkErr = min (s.lnk.linkErr + 1) 65535 ∧ s.linkError.ntc.flags.getLsbD 0 = true) ∧
    (s.lnk.presence = .present → w.extractLsb' 8 24 = 0x3CA51E#24 →
      let t : State := { s with lnk := { s.lnk with store := some ⟨c, a⟩ } }
      exec (.lineFrame w c a) s = .next (if s.lnk.store.isSome then t.linkError else t))

/-- R1–R6: what every head frame leaves in LNK: PRESENT with the time restarted, the expectation of R3 (advanced by one
after a wrong sync pattern, VOID kept), the store empty, both frames sent with the count as received and the held aux
words, and the aux words of this head frame and of the consumed line-side frame held.
R1, R7, R15, R18, R43: after the control word, the monitor and the decisions at window starts, the frames carry the drive
samples of the four nests, the tap samples and the transmitter's control word.
R1, step 3, R5: the assembler takes the control word of the stored line-side frame, or the idle word where there is none,
and the store is empty (what the word does: `MessageTests`, `AssemblerTakesMessage`).
R2, R3: a wrong sync pattern or an unexpected count is a slip: counted, saturating, and SLIP set; else nothing is.
R7: the tap samples by source. R43, R48–R53: the drive sample by mode and kind of step. R15: what the transmitter sends.
R1, R43, R69, R83: once the frames are sent each nest, 0 to 3, has its frame (`State.nestFrame`: the accumulator, the
position and the ends in `DwellsAndFadesEnd`, the analysis in `WindowStartDecides`) on the channels of this head frame, M, C
and A, invalid all in one with a wrong sync pattern; then the event closes. That these ends come after the frames are built
is the model's reading (DEDUCED, log 5); that the frames sent can be read from the state is its choice (DESIGN CHOICE,
log 19), and so is that a run which the control word ends comes before those that end at the nests' moves (DESIGN CHOICE,
log 40), and that the lots which the frame's run ends make due complete at the close, after all of them (DESIGN CHOICE,
log 41). That one close serves the command of the control word and the frame is the model's reading (DEDUCED, log 30), and
that a lot which the control word's LOT_CLOSE finds or makes due completes only there is its choice (DESIGN CHOICE, log 42). -/
def Obligations.HeadFrameAnswered : Prop :=
  (∀ (f : HeadFrame) (s : State), ∃ t : State, exec (.headFrame f) s = .next t ∧
    (t.lnk.presence = .present ∧ t.lnk.elapsed = 0 ∧ t.lnk.store = none) ∧
    (f.word0.extractLsb' 8 24 = 0xC35A7E#24 → t.lnk.expect = some (f.word0.extractLsb' 0 8 + 1#8) ∧
      t.lnk.auxToLine = f.aux) ∧
    (f.word0.extractLsb' 8 24 ≠ 0xC35A7E#24 → t.lnk.expect = s.lnk.expect.map (· + 1#8) ∧ t.lnk.auxToLine = 0#32) ∧
    t.lnk.auxToHead = (match s.lnk.store with | some x => x.aux | none => 0#32) ∧
    (∃ h, t.lnk.headBound = some h ∧ h.word0 = 0xC35A81#24 ++ f.word0.extractLsb' 0 8 ∧ h.aux = s.lnk.auxToHead) ∧
    (∃ p, t.lnk.lineBound = some p ∧ p.word0 = 0x3CA5E1#24 ++ f.word0.extractLsb' 0 8 ∧ p.aux = s.lnk.auxToLine) ∧
    t.pending = s.pending ∧
    (let u := allNests.foldl State.decideWindow (((s.arriveHead f).consumeLine).hearFrame (frameChannel f 8))
     (∃ h, t.lnk.headBound = some h ∧
       h.drive = #v[(u.driveSample 0).signExtend 32, (u.driveSample 1).signExtend 32, (u.driveSample 2).signExtend 32,
         (u.driveSample 3).signExtend 32]) ∧
     (∃ p, t.lnk.lineBound = some p ∧ p.tap0 = (u.tapSample f u.lnk.tap0).signExtend 32 ∧
       p.tap1 = (u.tapSample f u.lnk.tap1).signExtend 32 ∧ p.control = u.nextControl.1) ∧
     t.lnk.tx = u.nextControl.2.lnk.tx ∧ t.lnk.replyQ = u.nextControl.2.lnk.replyQ ∧
     (let lineAux := (match s.lnk.store with | some x => x.aux | none => 0#32)
      let v := u.sendFrames f lineAux
      t = (allNests.foldl (fun w n => w.nestFrame n (frameInput f n (s.lnk.slips f))) v).endEvent ∧
      v = { u.nextControl.2 with lnk := { u.nextControl.2.lnk with
        headBound := v.lnk.headBound, lineBound := v.lnk.lineBound, auxToLine := v.lnk.auxToLine
        auxToHead := v.lnk.auxToHead } } ∧
      v.amb = u.amb ∧ v.mrk = u.mrk ∧ v.retest = u.retest ∧ v.prot = u.prot ∧ v.buffers = u.buffers ∧
      ∀ n, (v.nest n).engine = (u.nest n).engine ∧ (v.nest n).analysis = (u.nest n).analysis ∧
        (v.nest n).run = (u.nest n).run ∧ (v.nest n).window = (u.nest n).window ∧
        ((v.nest n).phase = (u.nest n).phase ∨ (v.nest n).phase = .idle)))) ∧
  (∀ (f : HeadFrame) (n : NestId) (slip : Bool),
    let x := frameInput f n slip
    let channel (c : Channel) (i : Fin 9) : Prop := c.sample = f.samples[i].extractLsb' 0 24 ∧
      (c.valid = true ↔ f.word0.extractLsb' 8 24 = 0xC35A7E#24 ∧ f.samples[i].getLsbD 31 = true)
    (∀ i : Fin 9, i.val = n.val → channel x.mic i) ∧ (∀ i : Fin 9, i.val = n.val + 4 → channel x.cur i) ∧
    channel x.ref 8 ∧ channel (frameChannel f 8) 8 ∧ x.slip = slip) ∧
  (∀ (f : HeadFrame) (s : State),
    let slips : Prop := f.word0.extractLsb' 8 24 ≠ 0xC35A7E#24 ∨ ∃ e, s.lnk.expect = some e ∧ f.word0.extractLsb' 0 8 ≠ e
    (s.lnk.slips f = true ↔ slips) ∧
    (slips → (s.arriveHead f).lnk.slip = min (s.lnk.slip + 1) 65535 ∧
      (s.arriveHead f).ntc.flags = s.ntc.flags ||| 4#8) ∧
    (¬ slips → (s.arriveHead f).lnk.slip = s.lnk.slip ∧ (s.arriveHead f).ntc = s.ntc)) ∧
  (∀ (f : HeadFrame) (s : State) (source : BitVec 8),
    (source = 0#8 → s.tapSample f source = 0#24) ∧
    (∀ i : Fin 9, source.toNat = i.val + 1 → s.tapSample f source = f.samples[i].extractLsb' 0 24) ∧
    (∀ n : NestId, source.toNat = n.val + 10 → s.tapSample f source = s.driveSample n)) ∧
  (∀ (s : State) (n : NestId),
    let e := (s.nest n).engine
    let x := s.runTables n
    let is (v : Int) : Prop := s.driveSample n = BitVec.ofInt 24 v
    (e.mode = .silent → is 0) ∧
    (e.mode = .stepFade ∨ e.mode = .endFade → is (drivenSample e.aeff e.acc (256 * (e.fadeLen - 1 - e.fade) / e.fadeLen))) ∧
    (e.mode = .step →
      ((s.stepRec n).kind = .gap → is 0) ∧
      ((s.stepRec n).kind = .pulse → e.lobe = .isOpen → e.acc.toNat < 2 ^ 31 → is (drivenSample e.aeff e.acc 256)) ∧
      ((s.stepRec n).kind = .pulse → (e.lobe = .ended ∨ 2 ^ 31 ≤ e.acc.toNat) → is 0) ∧
      ((s.stepRec n).kind = .tone →
        let first : Prop := e.retry = 0 ∧ (e.step = 0 ∨ (x.step (e.step - 1)).kind ≠ .tone)
        (first → e.k < x.settingsRow.fade → is (drivenSample e.aeff e.acc (256 * e.k / x.settingsRow.fade))) ∧
        (¬ first ∨ x.settingsRow.fade ≤ e.k → is (drivenSample e.aeff e.acc 256))))) ∧
  (∀ s : State,
    (∀ w rest, s.lnk.tx = w :: rest → s.nextControl = (w, { s with lnk := { s.lnk with tx := rest } })) ∧
    (∀ (m : Msg) rest, s.lnk.tx = [] → s.lnk.replyQ = m :: rest →
      ∃ h ws, messageWords m.kind m.scope m.tag m.body = h :: ws ∧
        s.nextControl = (h, { s with lnk := { s.lnk with tx := ws, replyQ := rest } })) ∧
    (∀ (m : Msg) rest, s.lnk.tx = [] → s.lnk.replyQ = [] → s.lnk.eventQ = m :: rest →
      ∃ h ws, messageWords m.kind m.scope m.tag m.body = h :: ws ∧
        s.nextControl = (h, State.fillPlaces { s with lnk := { s.lnk with tx := ws, eventQ := rest } })) ∧
    (s.lnk.tx = [] → s.lnk.replyQ = [] → s.lnk.eventQ = [] → s.nextControl = (0#32, s))) ∧
  (∀ s : State, s.consumeLine = State.assemble { s with lnk := { s.lnk with store := none } }
    (match s.lnk.store with | some x => x.control | none => 0#32))

/-- R4, R59, R77: entering LOST sets HEAD_LOSS, makes the expectation VOID, empties the store, drops the partial message
and leaves no nest ARMED, RUNNING or CLOSING and no engine of those nests sounding; the reply queue, the message being
sent and protection stay. Nest 0 to 3, the run of an ARMED or RUNNING nest ends with ABORTED, HEAD_LOSS as `RunEndLeaves`
has it, its VERDICT in the outbox until it is admitted, and a CLOSING nest is REPORTING with its engine silent. That the lots
which these run ends make due complete at the close, after all of them, is the model's choice (DESIGN CHOICE, log 41). That the
elapsed time stands at 10 in LOST is its reading (DEDUCED, log 24). -/
def Obligations.HeadLossEntered : Prop :=
  ∀ s : State, s.lnk.presence = .present → ∃ t : State, exec .headLoss s = .next t ∧ t.lnk.presence = .lost ∧
    t.lnk.expect = none ∧ t.lnk.store = none ∧ t.lnk.asm = .hunt ∧ t.lnk.replyQ = s.lnk.replyQ ∧
    t.lnk.tx = s.lnk.tx ∧ t.lnk.auxToLine = s.lnk.auxToLine ∧ t.lnk.auxToHead = s.lnk.auxToHead ∧
    t.ntc.flags.getLsbD 1 = true ∧ t.prot = s.prot ∧ t.amb = s.amb ∧
    (∀ n, (t.nest n).phase = .idle ∨ (t.nest n).phase = .reporting) ∧
    (∀ n, (s.nest n).phase ≠ .idle → (s.nest n).phase ≠ .reporting → (t.nest n).engine.mode = .silent) ∧
    (let lost : State := State.setFlag { s with lnk := { s.lnk with
       presence := .lost, elapsed := 10, expect := none, store := none, asm := .hunt } } .headLoss
     let u := allNests.foldl (fun w n =>
       if (w.nest n).phase = .armed ∨ (w.nest n).phase = .running then w.endRun n (.aborted .headLoss)
       else if (w.nest n).phase = .closing then w.setNest n { w.nest n with
         phase := .reporting, engine := { (w.nest n).engine with mode := .silent, lobe := .ended } }
       else w) lost
     t = u.endEvent ∧
     ∀ n, ((s.nest n).phase = .armed ∨ (s.nest n).phase = .running →
         (u.nest n).phase = .reporting ∧ (u.nest n).verdictOut.isSome = true ∧
         { (t.nest n).run with bound := false } = { (s.nest n).run with
           bound := false, endCause := .aborted .headLoss
           endStep := if (s.nest n).phase = .armed then 255 else (s.nest n).engine.step }) ∧
       (¬ ((s.nest n).phase = .armed ∨ (s.nest n).phase = .running) → (t.nest n).run = (s.nest n).run))

/-- R13, R14, R174: NTC's request for a NOTICE: absorbed where one waits; else admitted at once when a place is free and
the wait line is empty; else it waits at the end of the line. The NOTICE is formed from the state as it stands: flags,
bitmap, monitor state, the reset cause while its report is owed, and the four counters. -/
def Obligations.NoticeRequest : Prop :=
  ∀ s : State,
    (s.ntc.outbox = .waiting → s.askNotice = s) ∧
    (s.ntc.outbox = .empty → s.lnk.eventQ.length < 16 → s.lnk.waitLine = [] →
      ∃ (body : List Word) (w0 w1 w2 : Word), body.length = 3 ∧ body = [w0, w1, w2] ∧
        w0.extractLsb' 0 8 = s.ntc.flags ∧ w0.extractLsb' 8 8 = s.ntc.bitmap ∧ w0.getLsbD 16 = s.amb.loud ∧
        w0.getLsbD 17 = s.ntc.owed ∧ w0.getLsbD 18 = (s.ntc.owed && s.ntc.softCause) ∧ w0.extractLsb' 19 13 = 0#13 ∧
        w1.extractLsb' 16 16 = BitVec.ofNat 16 s.lnk.linkErr ∧ w1.extractLsb' 0 16 = BitVec.ofNat 16 s.lnk.overrun ∧
        w2.extractLsb' 16 16 = BitVec.ofNat 16 s.lnk.slip ∧ w2.extractLsb' 0 16 = BitVec.ofNat 16 s.lnk.traceLost ∧
        s.askNotice = { s with
        lnk := { s.lnk with eventQ := s.lnk.eventQ ++ [⟨0x82#8, 15#4, s.lnk.seq, body⟩], seq := s.lnk.seq + 1#8 }
        ntc := { s.ntc with owed := false } }) ∧
    (s.ntc.outbox = .empty → (16 ≤ s.lnk.eventQ.length ∨ s.lnk.waitLine ≠ []) →
      s.askNotice = { s with
        lnk := { s.lnk with waitLine := s.lnk.waitLine ++ [.ntc] }
        ntc := { s.ntc with outbox := .waiting } })

/-- R170, R171: setting a flag that is set changes nothing; a rising of a flag that is off asks for nothing; a rising of
an enabled urgent flag clears non-urgent pending and asks for a NOTICE; of an enabled non-urgent one asks and starts
the timer when it is STOPPED, and else makes it pending.
R171: at the expiry of a running period timer a pending non-urgent rising is reported and the timer starts again;
with none pending the timer stops. -/
def Obligations.FlagsAndPeriod : Prop :=
  (∀ (s : State) (f : Flag),
     let risen : Notices := { s.ntc with flags := s.ntc.flags ||| (1#8 <<< f.index) }
     (s.ntc.flags.getLsbD f.index = true → s.setFlag f = s) ∧
     (s.ntc.flags.getLsbD f.index = false →
       (s.ntc.enables.getLsbD f.index = false → s.setFlag f = { s with ntc := risen }) ∧
       (s.ntc.enables.getLsbD f.index = true →
         (f = .linkFault ∨ f = .headLoss ∨ f = .labelFault ∨ f = .retestEvict →
           s.setFlag f = State.askNotice { s with ntc := { risen with nonUrgent := false } }) ∧
         (f = .slip ∨ f = .ambient ∨ f = .lowYield ∨ f = .traceLost →
           (s.ntc.timer = none → s.setFlag f = State.askNotice { s with ntc := { risen with timer := some 0 } }) ∧
           (s.ntc.timer ≠ none → s.setFlag f = { s with ntc := { risen with nonUrgent := true } }))))) ∧
  (∀ s : State, s.ntc.timer ≠ none →
     (s.ntc.nonUrgent = true → exec .noticePeriodExpiry s = .next
       (State.askNotice { s with ntc := { s.ntc with nonUrgent := false, timer := some 0 } })) ∧
     (s.ntc.nonUrgent = false → exec .noticePeriodExpiry s = .next { s with ntc := { s.ntc with timer := none } }))

/-- R14, R141, R125, R164, R174: with a place free the producer at the head of the wait line leaves it and its message
is admitted with the current sequence number; NTC's outbox empties, a nest returns to IDLE, a REF_DONE outbox
empties, a lot record is freed. The NOTICE is formed at this moment, from the state as it stands. R79: at the return to IDLE
bench ending set clears bench and itself, else the configuration stays; the rest of that nest and of the state stays.
R14: the admissions that a freed place brings (`State.fillPlaces`, which `HeadFrameAnswered` uses) are WAIT_LINE_ADMIT
repeated while a place is free and the wait line is not empty. With no place free or an empty line the row changes nothing
(DESIGN CHOICE, log 3). -/
def Obligations.WaitLineAdmits : Prop :=
  (∀ s : State,
    (s.lnk.waitLine = [] ∨ 16 ≤ s.lnk.eventQ.length → s.fillPlaces = s ∧ exec .waitLineAdmit s = .next s) ∧
    (s.lnk.waitLine ≠ [] → s.lnk.eventQ.length < 16 → ∃ t : State, exec .waitLineAdmit s = .next t ∧
      t.lnk.waitLine = s.lnk.waitLine.drop 1 ∧ s.fillPlaces = t.fillPlaces) ∧
    (s.fillPlaces.lnk.waitLine = [] ∨ 16 ≤ s.fillPlaces.lnk.eventQ.length)) ∧
  (∀ (s : State) (p : Producer) (rest : List Producer), s.lnk.waitLine = p :: rest → s.lnk.eventQ.length < 16 →
    (p = .ntc → ∃ t : State, exec .waitLineAdmit s = .next t ∧ t.lnk.waitLine = rest ∧
      t.lnk.eventQ.length = s.lnk.eventQ.length + 1 ∧ t.ntc.outbox = .empty ∧ t.nests = s.nests ∧ t.lots = s.lots ∧
      ∃ (body : List Word) (w0 w1 w2 : Word), body = [w0, w1, w2] ∧
        w0.extractLsb' 0 8 = s.ntc.flags ∧ w0.extractLsb' 8 8 = s.ntc.bitmap ∧ w0.getLsbD 16 = s.amb.loud ∧
        w0.getLsbD 17 = s.ntc.owed ∧ w0.getLsbD 18 = (s.ntc.owed && s.ntc.softCause) ∧ w0.extractLsb' 19 13 = 0#13 ∧
        w1.extractLsb' 16 16 = BitVec.ofNat 16 s.lnk.linkErr ∧ w1.extractLsb' 0 16 = BitVec.ofNat 16 s.lnk.overrun ∧
        w2.extractLsb' 16 16 = BitVec.ofNat 16 s.lnk.slip ∧ w2.extractLsb' 0 16 = BitVec.ofNat 16 s.lnk.traceLost ∧
        t = { s with
          lnk := { s.lnk with
            waitLine := rest, seq := s.lnk.seq + 1#8
            eventQ := s.lnk.eventQ ++ [⟨0x82#8, 15#4, s.lnk.seq, body⟩] }
          ntc := { s.ntc with outbox := .empty, owed := false } }) ∧
    (∀ n e, p = .vrd n → (s.nest n).verdictOut = some e → ∃ t : State, exec .waitLineAdmit s = .next t ∧
      t.lnk = { s.lnk with
        waitLine := rest, seq := s.lnk.seq + 1#8
        eventQ := s.lnk.eventQ ++ [⟨e.kind, e.scope, s.lnk.seq, e.body⟩] } ∧
      (t.nest n).phase = .idle ∧ (t.nest n).verdictOut = none ∧ (t.nest n).run = (s.nest n).run ∧
      (∀ m, m ≠ n → t.nest m = s.nest m) ∧ t.slots = s.slots ∧ t.lots = s.lots ∧ t.ntc = s.ntc ∧
      t.nest n = { s.nest n with
        phase := .idle, verdictOut := none
        config := if (s.nest n).config.benchEnding = true then
            { (s.nest n).config with bench := false, benchEnding := false }
          else (s.nest n).config } ∧
      t.buffers = s.buffers ∧ t.prot = s.prot ∧ t.amb = s.amb ∧ t.retest = s.retest ∧ t.mrk = s.mrk ∧
      t.pending = s.pending) ∧
    (∀ k e, p = .tbs k → (s.slot k).refDone = some e → exec .waitLineAdmit s = .next
      (State.setSlot
        { s with lnk := { s.lnk with
            waitLine := rest, seq := s.lnk.seq + 1#8
            eventQ := s.lnk.eventQ ++ [⟨e.kind, e.scope, s.lnk.seq, e.body⟩] } } k
        { s.slot k with refDone := none })) ∧
    (∀ k l e, p = .yld k → s.lot k = some l → l.summary = some e → exec .waitLineAdmit s = .next
      (State.setLot
        { s with lnk := { s.lnk with
            waitLine := rest, seq := s.lnk.seq + 1#8
            eventQ := s.lnk.eventQ ++ [⟨e.kind, e.scope, s.lnk.seq, e.body⟩] } } k none)))

/-- R13, R14, R164: the close of an event changes nothing where no lot is due and no message is to be offered; in every
state it leaves protection, buffers, the monitor, the labels and the reply queue, and each nest's run and engine and
each slot's tables, generation, occupancy, reference and capture. R79, R141: a nest stands as it stood, but for its
STEP_RESULT, or returns from REPORTING to IDLE, its VERDICT gone; there bench ending set clears bench and itself, and else the
configuration stays.
R164: the close first completes the lots that are due, slot 0 to 7 (`LotCompletes`), and no lot is due after it; that every
event's close does so, in slot order, is the model's reading (DEDUCED, log 25). Then the offers are made.
R13: a STEP_RESULT is admitted to a queue of 10 messages or fewer, and else dropped, counted, and TRACE_LOST set; after the
close none is left. With 11 messages or more in the queue every one of them is dropped.
R14: the producers that join the wait line at the close join behind those that wait, in the order NTC, VRD by nest, TBS by
slot, YLD by slot; with an empty wait line, no lot due and room for all, the event queue gains the offered messages in
that order, a nest's STEP_RESULT before its VERDICT, each with the next sequence number as its tag. That NTC's NOTICE of a
TRACE_LOST set at the close comes first is the model's reading (DEDUCED, log 8). -/
def Obligations.EndOfEvent : Prop :=
  (∀ s : State, s.Settled → s.endEvent = s) ∧
  (∀ s : State,
    let done := allSlots.foldl State.completeLot s
    s.endEvent = done.endEvent ∧ (∀ k, done.lotDue k = false) ∧ (∀ k, s.endEvent.lotDue k = false)) ∧
  (∀ s : State, s.endEvent.prot = s.prot ∧ s.endEvent.buffers = s.buffers ∧ s.endEvent.amb = s.amb ∧
    s.endEvent.mrk = s.mrk ∧ s.endEvent.lnk.replyQ = s.lnk.replyQ ∧ s.endEvent.pending = s.pending ∧
    (∀ n, (s.endEvent.nest n).run = (s.nest n).run ∧ (s.endEvent.nest n).engine = (s.nest n).engine ∧
      (s.endEvent.nest n).analysis = (s.nest n).analysis ∧ (s.endEvent.nest n).window = (s.nest n).window ∧
      (s.endEvent.nest n).seat = (s.nest n).seat ∧
      ((s.endEvent.nest n).phase = (s.nest n).phase ∨ (s.endEvent.nest n).phase = .idle)) ∧
    (∀ k, (s.endEvent.slot k) = { s.slot k with refDone := (s.endEvent.slot k).refDone }) ∧
    (∀ n, s.endEvent.nest n = { s.nest n with stepOut := none } ∨
      ((s.nest n).phase = .reporting ∧ (s.nest n).verdictOut.isSome = true ∧
        s.endEvent.nest n = { s.nest n with
          stepOut := none, phase := .idle, verdictOut := none
          config := if (s.nest n).config.benchEnding = true then
              { (s.nest n).config with bench := false, benchEnding := false }
            else (s.nest n).config }))) ∧
  (∀ (s : State) (n : NestId) (e : Event), (s.nest n).stepOut = some e →
    let t := s.offerStepResult n
    (s.lnk.eventQ.length ≤ 10 → t = State.setNest
      { s with lnk := { s.lnk with
          eventQ := s.lnk.eventQ ++ [⟨e.kind, e.scope, s.lnk.seq, e.body⟩], seq := s.lnk.seq + 1#8 } } n
      { s.nest n with stepOut := none }) ∧
    (10 < s.lnk.eventQ.length → t = State.setFlag (State.setNest
      { s with lnk := { s.lnk with traceLost := min (s.lnk.traceLost + 1) 65535 } } n
      { s.nest n with stepOut := none }) .traceLost)) ∧
  (∀ s : State,
    (∀ n, (s.endEvent.nest n).stepOut = none) ∧
    (10 < s.lnk.eventQ.length → ∀ lost, lost = (allNests.filter fun n => (s.nest n).stepOut.isSome).length → lost ≠ 0 →
      s.endEvent.lnk.traceLost = min (s.lnk.traceLost + lost) 65535 ∧ s.endEvent.ntc.flags.getLsbD 7 = true) ∧
    (let rank (p : Producer) : Nat := match p with
       | .ntc => 0 | .vrd n => 1 + n.val | .tbs k => 5 + k.val | .yld k => 13 + k.val
     ∃ joined, s.endEvent.lnk.waitLine = s.lnk.waitLine ++ joined ∧ (joined.map rank).Pairwise (· < ·)) ∧
    (let offered : List Event :=
       (allNests.flatMap fun n => (s.nest n).stepOut.toList ++
         (if (s.nest n).phase = .reporting then (s.nest n).verdictOut.toList else [])) ++
       (allSlots.flatMap fun k => (s.slot k).refDone.toList) ++
       (allSlots.flatMap fun k => ((s.lot k).bind (·.summary)).toList)
     s.lnk.waitLine = [] → (∀ k, s.lotDue k = false) → s.lnk.eventQ.length + offered.length ≤ 11 →
       s.endEvent.lnk.waitLine = [] ∧ s.endEvent.lnk.seq = s.lnk.seq + BitVec.ofNat 8 offered.length ∧
       s.endEvent.lnk.eventQ = s.lnk.eventQ ++
         offered.zipIdx.map fun (e, i) => ⟨e.kind, e.scope, s.lnk.seq + BitVec.ofNat 8 i, e.body⟩))

/-! ### Arithmetic -/

/-- R81: PLOG by its leading one and its mantissa, with the values of the rule's table. -/
def Obligations.PlogValues : Prop :=
  (∀ x : Nat, 1 ≤ x → ∃ p m : Nat, 2 ^ p ≤ x ∧ x < 2 ^ (p + 1) ∧ m + 256 = x * 256 / 2 ^ p ∧ m ≤ 255 ∧
    plog x = 256 * p + m) ∧
  (∀ x : Nat, 1 ≤ x → plog (2 * x) = plog x + 256) ∧
  (∀ x : Nat, 1 ≤ x → x < 2 ^ 111 → 0 ≤ plog x ∧ plog x ≤ 28415) ∧
  plog 1 = 0 ∧ plog 3 = 384 ∧ plog 5 = 576 ∧ plog 128 = 1792 ∧ plog 255 = 2046 ∧ plog 4800 = 3116 ∧
  plog 65535 = 4095 ∧ plog 144000000 = 6930 ∧ plog (25 * 2 ^ 88) = 23696

/-- R47: PEXP over the level codes, with the values of the rule's table. -/
def Obligations.PexpValues : Prop :=
  (∀ c : Int, -4096 ≤ c → c ≤ 0 → ∃ (q : Int) (m : Nat), -16 ≤ q ∧ q ≤ 0 ∧ c = 256 * q + m ∧ m ≤ 255 ∧
    (-15 ≤ q → pexp c = min 8388607 ((256 + m) * 2 ^ (15 + q).toNat)) ∧ (q = -16 → pexp c = (256 + m) / 2)) ∧
  (∀ c : Int, -4096 ≤ c → c < 0 → pexp c < 8388607) ∧
  pexp 0 = 8388607 ∧ pexp (-1) = 8372224 ∧ pexp (-300) = 3833856 ∧ pexp (-512) = 2097152 ∧ pexp (-4095) = 128 ∧
  pexp (-4096) = 128

/-- R48: a drive sample lies within ±8,388,607 for every amplitude the part can hold, every phase and every gain, and
PEXP rises with its code.
R45: V is odd about half a cycle, positive in quadrants 0 and 1, and never 0: 25 ≤ |V| ≤ 32767; the values that the rule
gives; V looks at no bit below bit 20 and is symmetric about a quarter of a cycle.
R44: the increment is the nearest integer, with the values of the rule's table. R48: step amplitude and drive sample, each
division truncated toward zero. -/
def Obligations.DriveArithmetic : Prop :=
  ((∀ (aeff gain : Nat) (phase : BitVec 32), aeff ≤ 8388607 → gain ≤ 256 →
     -8388607 ≤ drivenSample aeff phase gain ∧ drivenSample aeff phase gain ≤ 8388607) ∧
   (∀ c d : Int, -4096 ≤ c → c ≤ d → d ≤ 0 → pexp c ≤ pexp d)) ∧
  (∀ phase : BitVec 32,
     sineV (phase + 0x80000000#32) = -sineV phase ∧
     (phase.toNat < 2 ^ 31 → 25 ≤ sineV phase ∧ sineV phase ≤ 32767) ∧
     sineV (phase &&& 0xFFF00000#32) = sineV phase ∧ sineV (0x7FFFFFFF#32 - phase) = sineV phase) ∧
  [0#32, 0x20000000#32, 0x40000000#32, 0x60000000#32, 0x80000000#32, 0xA0000000#32, 0xC0000000#32, 0xE0000000#32].map sineV =
    [25, 23188, 32767, 23152, -25, -23188, -32767, -23152] ∧
  (∀ f : Nat, 2 * 1536000 * increment f ≤ 2 * f * 2 ^ 32 + 1536000 ∧ 2 * f * 2 ^ 32 + 1536000 < 2 * 1536000 * (increment f + 1)) ∧
  [320, 16000, 128000, 192000, 320000].map increment = [894785, 44739243, 357913941, 536870912, 894784853] ∧
  (∀ (level : Int) (trim : Nat), stepAmplitude level trim = min 8388607 (pexp level * trim / 128)) ∧
  (∀ (aeff gain : Nat) (phase : BitVec 32),
     drivenSample aeff phase gain = ((((aeff : Int) * sineV phase).tdiv 32768) * gain).tdiv 256)

/-- R112: a lower limit and its measure.
R113: an upper limit and its measure, the rows tested in order. -/
def Obligations.LimitComparison : Prop :=
  (∀ (lo v : Level) (guard : Nat),
     (v = -32768 → judgeLower lo v guard = .fail) ∧
     (v ≠ -32768 → lo ≤ v → judgeLower lo v guard = .pass) ∧
     (v ≠ -32768 → lo - guard ≤ v → v < lo → judgeLower lo v guard = .marginal) ∧
     (v ≠ -32768 → v < lo - guard → judgeLower lo v guard = .fail)) ∧
  (∀ (hi v : Level) (guard : Nat),
     (v = -32768 → judgeUpper hi v guard = .pass) ∧
     (v = 32767 → hi < 32767 → judgeUpper hi v guard = .fail) ∧
     (v = 32767 → hi = 32767 → judgeUpper hi v guard = .pass) ∧
     (v ≠ -32768 → v ≠ 32767 → v ≤ hi → judgeUpper hi v guard = .pass) ∧
     (v ≠ -32768 → v ≠ 32767 → hi < v → v ≤ hi + guard → judgeUpper hi v guard = .marginal) ∧
     (v ≠ -32768 → v ≠ 32767 → hi + guard < v → judgeUpper hi v guard = .fail))

/-- R115: a step is FAIL when a judged limit failed, else MARGINAL when one was marginal, else PASS; a class is failed or
marginal when a judged limit of that class was; a step without a row is NOT_JUDGED.
R109, R110, R111, R114: the limits of a mask row that are judged, each with its measure and its class: a present ABS limit
is its field; a present REL limit is judged where there is a reference value, and is that value plus the field, clamped; a
polarity expectation is judged on a PULSE step.
R87 to R95: the measure record of a window of W frames from its sums, with the zero cases and the clamps. -/
def Obligations.StepOutcomes : Prop :=
  (∀ js : List Judged,
    ((judgementOf js).outcome = .fail ↔ ∃ j ∈ js, j.result = .fail) ∧
    ((judgementOf js).outcome = .marginal ↔ (∀ j ∈ js, j.result ≠ .fail) ∧ ∃ j ∈ js, j.result = .marginal) ∧
    ((judgementOf js).outcome = .pass ↔ ∀ j ∈ js, j.result = .pass) ∧
    (∀ i, (judgementOf js).failed.getLsbD i = true ↔ ∃ j ∈ js, j.result = .fail ∧ j.cls.getLsbD i = true) ∧
    (∀ i, (judgementOf js).marginal.getLsbD i = true ↔ ∃ j ∈ js, j.result = .marginal ∧ j.cls.getLsbD i = true)) ∧
  (∀ x kind ref, judgeStep none x kind ref = ⟨.notJudged, 0#16, 0#16⟩) ∧
  (∀ m x kind ref, judgeStep (some m) x kind ref = judgementOf (m.judge x kind ref)) ∧
  (∀ (m : Mask) (x : Measures) (kind : StepKind) (reference : Option Level) (j : Judged),
     let limit (field : Option Level) (rel : Bool) (v : Level) : Prop :=
       ∃ f, field = some f ∧ ((rel = false ∧ v = f) ∨
         (rel = true ∧ ∃ r, reference = some r ∧ v = max (-32767) (min 32767 (r + f))))
     let polarity : Verge := if m.polarity = 3 ∨ (m.polarity = 1 ∧ x.polarity = .pos) ∨
       (m.polarity = 2 ∧ x.polarity = .neg) then .pass else .fail
     j ∈ m.judge x kind reference ↔
       (∃ v, limit m.lower m.lowerRel v ∧ j = ⟨0x001#16, judgeLower v x.lfc m.guard⟩) ∨
       (∃ v, limit m.upper m.upperRel v ∧ j = ⟨0x002#16, judgeUpper v x.lfc m.guard⟩) ∨
       (∃ v, m.thd = some v ∧ j = ⟨0x004#16, judgeUpper v x.lthd m.guard⟩) ∨
       (∃ v, m.rb = some v ∧ j = ⟨0x008#16, judgeUpper v x.lrb m.guard⟩) ∨
       (∃ v, m.crest = some v ∧ j = ⟨0x010#16, judgeUpper v x.lcr m.guard⟩) ∨
       (∃ v, m.impLower = some v ∧ j = ⟨0x020#16, judgeLower v x.lz m.guard⟩) ∨
       (∃ v, m.impUpper = some v ∧ j = ⟨0x040#16, judgeUpper v x.lz m.guard⟩) ∨
       (∃ v, m.noise = some v ∧ j = ⟨0x100#16, judgeUpper v x.ln m.guard⟩) ∨
       (m.polarity ≠ 0 ∧ kind = .pulse ∧ j = ⟨0x080#16, polarity⟩)) ∧
  (∀ (w : Window) (st : Step) (c : NestConfig),
    let m := w.measures st c
    let width : Int := plog (st.we - st.ws)
    let clamp (v : Int) : Int := max (-32767) (min 32767 v)
    let sq (p : Correlator) : Nat := (p.i * p.i + p.q * p.q).toNat
    let s1 := sq w.h1
    let sc := sq w.current
    let h := sq w.h2 + sq w.h3 + sq w.h4 + sq w.h5
    (s1 = 0 → m.lf = -32768 ∧ m.lfc = -32768) ∧
    (s1 ≠ 0 → m.lf = clamp (plog s1 / 2 - width - 9472) ∧ m.lfc = clamp (m.lf + c.mcal)) ∧
    (h = 0 → m.lthd = -32768) ∧ (h ≠ 0 → s1 = 0 → m.lthd = 32767) ∧
    (h ≠ 0 → s1 ≠ 0 → m.lthd = clamp (plog h / 2 - plog s1 / 2)) ∧
    (w.peak = 0 → m.lp = -32768 ∧ m.lrb = -32768 ∧ m.lcr = 0) ∧
    (w.peak ≠ 0 → m.lp = clamp (plog (w.peak * w.peak) / 2 - 5888) ∧ m.lcr = clamp (m.lp - m.lrms) ∧
      (s1 = 0 → m.lrb = 32767) ∧ (s1 ≠ 0 → m.lrb = clamp (m.lp - m.lf))) ∧
    (w.residual = 0 → m.lrms = -32768) ∧
    (w.residual ≠ 0 → m.lrms = clamp ((plog w.residual - width) / 2 - 5888)) ∧
    (sc = 0 → m.li = -32768 ∧ m.lz = 32767) ∧
    (sc ≠ 0 → m.li = clamp (plog sc / 2 - width - 9472) ∧
      m.lz = clamp ((st.level + plog c.trim - 1792) - m.li + c.zcal)) ∧
    (w.micEnergy = 0 → m.ln = -32768) ∧
    (w.micEnergy ≠ 0 → m.ln = clamp ((plog w.micEnergy - width) / 2 - 5888 + c.mcal)) ∧
    (w.ambEnergy = 0 → m.la = -32768) ∧
    (w.ambEnergy ≠ 0 → m.la = clamp ((plog w.ambEnergy - width) / 2 - 5888)) ∧
    (st.kind ≠ .pulse ∨ w.find = .notFound → m.polarity = .unknown) ∧
    (st.kind = .pulse → w.find = .positive → m.polarity = if c.inverted then .neg else .pos) ∧
    (st.kind = .pulse → w.find = .negative → m.polarity = if c.inverted then .pos else .neg) ∧
    m.clip = w.clip ∧ m.invalid = w.invalid ∧ (m.dropout = true ↔ 8 < w.invalid) ∧ m.slipSeen = w.slipSeen ∧
    m.loudSeen = w.loudSeen)
end

