-- ==== Sys2Proof/Laws/State.lean ====
section
/-! SUPPORT. The updates of State field by field, and reading one nest, slot, lot or buffer after writing another.
For each update one lemma names every field it leaves alone; simp takes it as one rewrite for each field. -/

namespace Sys2Proof.Machine

variable (s : State)

@[simp] theorem setNest_frame (n : NestId) (v : Nest) :
    (s.setNest n v).lnk = s.lnk ∧ (s.setNest n v).slots = s.slots ∧ (s.setNest n v).buffers = s.buffers ∧
      (s.setNest n v).prot = s.prot ∧ (s.setNest n v).amb = s.amb ∧ (s.setNest n v).retest = s.retest ∧
      (s.setNest n v).mrk = s.mrk ∧ (s.setNest n v).lots = s.lots ∧ (s.setNest n v).ntc = s.ntc ∧
      (s.setNest n v).pending = s.pending :=
  ⟨rfl, rfl, rfl, rfl, rfl, rfl, rfl, rfl, rfl, rfl⟩

@[simp] theorem modNest_frame (n : NestId) (f : Nest → Nest) :
    (s.modNest n f).lnk = s.lnk ∧ (s.modNest n f).slots = s.slots ∧ (s.modNest n f).buffers = s.buffers ∧
      (s.modNest n f).prot = s.prot ∧ (s.modNest n f).amb = s.amb ∧ (s.modNest n f).retest = s.retest ∧
      (s.modNest n f).mrk = s.mrk ∧ (s.modNest n f).lots = s.lots ∧ (s.modNest n f).ntc = s.ntc ∧
      (s.modNest n f).pending = s.pending :=
  ⟨rfl, rfl, rfl, rfl, rfl, rfl, rfl, rfl, rfl, rfl⟩

@[simp] theorem modEngine_frame (n : NestId) (f : Engine → Engine) :
    (s.modEngine n f).lnk = s.lnk ∧ (s.modEngine n f).slots = s.slots ∧ (s.modEngine n f).buffers = s.buffers ∧
      (s.modEngine n f).prot = s.prot ∧ (s.modEngine n f).amb = s.amb ∧ (s.modEngine n f).retest = s.retest ∧
      (s.modEngine n f).mrk = s.mrk ∧ (s.modEngine n f).lots = s.lots ∧ (s.modEngine n f).ntc = s.ntc ∧
      (s.modEngine n f).pending = s.pending :=
  ⟨rfl, rfl, rfl, rfl, rfl, rfl, rfl, rfl, rfl, rfl⟩

@[simp] theorem modRun_frame (n : NestId) (f : Run → Run) :
    (s.modRun n f).lnk = s.lnk ∧ (s.modRun n f).slots = s.slots ∧ (s.modRun n f).buffers = s.buffers ∧
      (s.modRun n f).prot = s.prot ∧ (s.modRun n f).amb = s.amb ∧ (s.modRun n f).retest = s.retest ∧
      (s.modRun n f).mrk = s.mrk ∧ (s.modRun n f).lots = s.lots ∧ (s.modRun n f).ntc = s.ntc ∧
      (s.modRun n f).pending = s.pending :=
  ⟨rfl, rfl, rfl, rfl, rfl, rfl, rfl, rfl, rfl, rfl⟩

@[simp] theorem setSlot_frame (k : SlotId) (v : Slot) :
    (s.setSlot k v).lnk = s.lnk ∧ (s.setSlot k v).buffers = s.buffers ∧ (s.setSlot k v).prot = s.prot ∧
      (s.setSlot k v).nests = s.nests ∧ (s.setSlot k v).amb = s.amb ∧ (s.setSlot k v).retest = s.retest ∧
      (s.setSlot k v).mrk = s.mrk ∧ (s.setSlot k v).lots = s.lots ∧ (s.setSlot k v).ntc = s.ntc ∧
      (s.setSlot k v).pending = s.pending :=
  ⟨rfl, rfl, rfl, rfl, rfl, rfl, rfl, rfl, rfl, rfl⟩

@[simp] theorem modSlot_frame (k : SlotId) (f : Slot → Slot) :
    (s.modSlot k f).lnk = s.lnk ∧ (s.modSlot k f).buffers = s.buffers ∧ (s.modSlot k f).prot = s.prot ∧
      (s.modSlot k f).nests = s.nests ∧ (s.modSlot k f).amb = s.amb ∧ (s.modSlot k f).retest = s.retest ∧
      (s.modSlot k f).mrk = s.mrk ∧ (s.modSlot k f).lots = s.lots ∧ (s.modSlot k f).ntc = s.ntc ∧
      (s.modSlot k f).pending = s.pending :=
  ⟨rfl, rfl, rfl, rfl, rfl, rfl, rfl, rfl, rfl, rfl⟩

@[simp] theorem setLot_frame (k : SlotId) (v : Option Lot) :
    (s.setLot k v).lnk = s.lnk ∧ (s.setLot k v).slots = s.slots ∧ (s.setLot k v).buffers = s.buffers ∧
      (s.setLot k v).prot = s.prot ∧ (s.setLot k v).nests = s.nests ∧ (s.setLot k v).amb = s.amb ∧
      (s.setLot k v).retest = s.retest ∧ (s.setLot k v).mrk = s.mrk ∧ (s.setLot k v).ntc = s.ntc ∧
      (s.setLot k v).pending = s.pending :=
  ⟨rfl, rfl, rfl, rfl, rfl, rfl, rfl, rfl, rfl, rfl⟩

@[simp] theorem modLot_frame (k : SlotId) (f : Lot → Lot) :
    (s.modLot k f).lnk = s.lnk ∧ (s.modLot k f).slots = s.slots ∧ (s.modLot k f).buffers = s.buffers ∧
      (s.modLot k f).prot = s.prot ∧ (s.modLot k f).nests = s.nests ∧ (s.modLot k f).amb = s.amb ∧
      (s.modLot k f).retest = s.retest ∧ (s.modLot k f).mrk = s.mrk ∧ (s.modLot k f).ntc = s.ntc ∧
      (s.modLot k f).pending = s.pending :=
  ⟨rfl, rfl, rfl, rfl, rfl, rfl, rfl, rfl, rfl, rfl⟩

@[simp] theorem setBuffer_frame (b : Fin 2) (v : Option Session) :
    (s.setBuffer b v).lnk = s.lnk ∧ (s.setBuffer b v).slots = s.slots ∧ (s.setBuffer b v).prot = s.prot ∧
      (s.setBuffer b v).nests = s.nests ∧ (s.setBuffer b v).amb = s.amb ∧ (s.setBuffer b v).retest = s.retest ∧
      (s.setBuffer b v).mrk = s.mrk ∧ (s.setBuffer b v).lots = s.lots ∧ (s.setBuffer b v).ntc = s.ntc ∧
      (s.setBuffer b v).pending = s.pending :=
  ⟨rfl, rfl, rfl, rfl, rfl, rfl, rfl, rfl, rfl, rfl⟩

@[simp] theorem modLnk_frame (f : Link → Link) :
    (s.modLnk f).slots = s.slots ∧ (s.modLnk f).buffers = s.buffers ∧ (s.modLnk f).prot = s.prot ∧
      (s.modLnk f).nests = s.nests ∧ (s.modLnk f).amb = s.amb ∧ (s.modLnk f).retest = s.retest ∧
      (s.modLnk f).mrk = s.mrk ∧ (s.modLnk f).lots = s.lots ∧ (s.modLnk f).ntc = s.ntc ∧
      (s.modLnk f).pending = s.pending :=
  ⟨rfl, rfl, rfl, rfl, rfl, rfl, rfl, rfl, rfl, rfl⟩

@[simp] theorem modNtc_frame (f : Notices → Notices) :
    (s.modNtc f).lnk = s.lnk ∧ (s.modNtc f).slots = s.slots ∧ (s.modNtc f).buffers = s.buffers ∧
      (s.modNtc f).prot = s.prot ∧ (s.modNtc f).nests = s.nests ∧ (s.modNtc f).amb = s.amb ∧
      (s.modNtc f).retest = s.retest ∧ (s.modNtc f).mrk = s.mrk ∧ (s.modNtc f).lots = s.lots ∧
      (s.modNtc f).pending = s.pending :=
  ⟨rfl, rfl, rfl, rfl, rfl, rfl, rfl, rfl, rfl, rfl⟩

@[simp] theorem modMrk_frame (f : Marking → Marking) :
    (s.modMrk f).lnk = s.lnk ∧ (s.modMrk f).slots = s.slots ∧ (s.modMrk f).buffers = s.buffers ∧
      (s.modMrk f).prot = s.prot ∧ (s.modMrk f).nests = s.nests ∧ (s.modMrk f).amb = s.amb ∧
      (s.modMrk f).retest = s.retest ∧ (s.modMrk f).lots = s.lots ∧ (s.modMrk f).ntc = s.ntc ∧
      (s.modMrk f).pending = s.pending :=
  ⟨rfl, rfl, rfl, rfl, rfl, rfl, rfl, rfl, rfl, rfl⟩

@[simp] theorem queueReply_frame (m : Msg) :
    (s.queueReply m).slots = s.slots ∧ (s.queueReply m).buffers = s.buffers ∧ (s.queueReply m).prot = s.prot ∧
      (s.queueReply m).nests = s.nests ∧ (s.queueReply m).amb = s.amb ∧ (s.queueReply m).retest = s.retest ∧
      (s.queueReply m).mrk = s.mrk ∧ (s.queueReply m).lots = s.lots ∧ (s.queueReply m).ntc = s.ntc ∧
      (s.queueReply m).pending = s.pending :=
  ⟨rfl, rfl, rfl, rfl, rfl, rfl, rfl, rfl, rfl, rfl⟩

@[simp] theorem reply_frame (k : Kind) (scope : BitVec 4) (tag : BitVec 8) (code : ResultCode) (data : List Word) :
    (s.reply k scope tag code data).slots = s.slots ∧ (s.reply k scope tag code data).buffers = s.buffers ∧
      (s.reply k scope tag code data).prot = s.prot ∧ (s.reply k scope tag code data).nests = s.nests ∧
      (s.reply k scope tag code data).amb = s.amb ∧ (s.reply k scope tag code data).retest = s.retest ∧
      (s.reply k scope tag code data).mrk = s.mrk ∧ (s.reply k scope tag code data).lots = s.lots ∧
      (s.reply k scope tag code data).ntc = s.ntc ∧ (s.reply k scope tag code data).pending = s.pending :=
  ⟨rfl, rfl, rfl, rfl, rfl, rfl, rfl, rfl, rfl, rfl⟩

@[simp] theorem admitEvent_frame (e : Event) :
    (s.admitEvent e).slots = s.slots ∧ (s.admitEvent e).buffers = s.buffers ∧ (s.admitEvent e).prot = s.prot ∧
      (s.admitEvent e).nests = s.nests ∧ (s.admitEvent e).amb = s.amb ∧ (s.admitEvent e).retest = s.retest ∧
      (s.admitEvent e).mrk = s.mrk ∧ (s.admitEvent e).lots = s.lots ∧ (s.admitEvent e).ntc = s.ntc ∧
      (s.admitEvent e).pending = s.pending :=
  ⟨rfl, rfl, rfl, rfl, rfl, rfl, rfl, rfl, rfl, rfl⟩

@[simp] theorem countOverrun_frame :
    (s.countOverrun).slots = s.slots ∧ (s.countOverrun).buffers = s.buffers ∧ (s.countOverrun).prot = s.prot ∧
      (s.countOverrun).nests = s.nests ∧ (s.countOverrun).amb = s.amb ∧ (s.countOverrun).retest = s.retest ∧
      (s.countOverrun).mrk = s.mrk ∧ (s.countOverrun).lots = s.lots ∧ (s.countOverrun).ntc = s.ntc ∧
      (s.countOverrun).pending = s.pending :=
  ⟨rfl, rfl, rfl, rfl, rfl, rfl, rfl, rfl, rfl, rfl⟩

@[simp] theorem modLnk_lnk (f : Link → Link) : (s.modLnk f).lnk = f s.lnk := rfl

@[simp] theorem modNtc_ntc (f : Notices → Notices) : (s.modNtc f).ntc = f s.ntc := rfl

@[simp] theorem modMrk_mrk (f : Marking → Marking) : (s.modMrk f).mrk = f s.mrk := rfl

@[simp] theorem queueReply_lnk (m : Msg) : (s.queueReply m).lnk = { s.lnk with replyQ := s.lnk.replyQ ++ [m] } := rfl

@[simp] theorem reply_lnk (k : Kind) (scope : BitVec 4) (tag : BitVec 8) (code : ResultCode) (data : List Word) : (s.reply k scope tag code data).lnk = 
      { s.lnk with replyQ := s.lnk.replyQ ++ [replyMsg scope tag (replyWord k.code code 0 0) data] } := rfl

@[simp] theorem admitEvent_lnk (e : Event) : (s.admitEvent e).lnk = 
      { s.lnk with eventQ := s.lnk.eventQ ++ [⟨e.kind, e.scope, s.lnk.seq, e.body⟩], seq := s.lnk.seq + 1#8 } := rfl

@[simp] theorem countOverrun_lnk : s.countOverrun.lnk = { s.lnk with overrun := satInc s.lnk.overrun } := rfl

/-! ### One part after a write -/

@[simp] theorem nest_setNest (n n' : NestId) (v : Nest) :
    (s.setNest n v).nest n' = if n = n' then v else s.nest n' := by
  simp [State.nest, State.setNest, Vector.getElem_set, Fin.ext_iff]

@[simp] theorem nest_modNest (n n' : NestId) (f : Nest → Nest) :
    (s.modNest n f).nest n' = if n = n' then f (s.nest n) else s.nest n' := by
  simp [State.modNest]

@[simp] theorem slot_setSlot (k k' : SlotId) (v : Slot) :
    (s.setSlot k v).slot k' = if k = k' then v else s.slot k' := by
  simp [State.slot, State.setSlot, Vector.getElem_set, Fin.ext_iff]

@[simp] theorem slot_modSlot (k k' : SlotId) (f : Slot → Slot) :
    (s.modSlot k f).slot k' = if k = k' then f (s.slot k) else s.slot k' := by
  simp [State.modSlot]

@[simp] theorem lot_setLot (k k' : SlotId) (v : Option Lot) :
    (s.setLot k v).lot k' = if k = k' then v else s.lot k' := by
  simp [State.lot, State.setLot, Vector.getElem_set, Fin.ext_iff]

@[simp] theorem buffer_setBuffer (b b' : Fin 2) (v : Option Session) :
    (s.setBuffer b v).buffer b' = if b = b' then v else s.buffer b' := by
  simp [State.buffer, State.setBuffer, Vector.getElem_set, Fin.ext_iff]

@[simp] theorem lot_modLot (k k' : SlotId) (f : Lot → Lot) :
    (s.modLot k f).lot k' = if k = k' then (s.lot k).map f else s.lot k' := by
  simp [State.modLot]

@[simp] theorem setNest_setNest (n : NestId) (v w : Nest) : (s.setNest n v).setNest n w = s.setNest n w := by
  simp [State.setNest]

@[simp] theorem setSlot_setSlot (k : SlotId) (v w : Slot) : (s.setSlot k v).setSlot k w = s.setSlot k w := by
  simp [State.setSlot]

@[simp] theorem setLot_setLot (k : SlotId) (v w : Option Lot) : (s.setLot k v).setLot k w = s.setLot k w := by
  simp [State.setLot]

theorem nest_congr {s t : State} (h : t.nests = s.nests) (n : NestId) : t.nest n = s.nest n := by simp [State.nest, h]
theorem slot_congr {s t : State} (h : t.slots = s.slots) (k : SlotId) : t.slot k = s.slot k := by simp [State.slot, h]
theorem lot_congr {s t : State} (h : t.lots = s.lots) (k : SlotId) : t.lot k = s.lot k := by simp [State.lot, h]
theorem buffer_congr {s t : State} (h : t.buffers = s.buffers) (b : Fin 2) : t.buffer b = s.buffer b := by
  simp [State.buffer, h]

/-- A nest that returns to IDLE changes its phase and its configuration alone (R75, R79). -/
theorem returnIdle_eq (x : Nest) :
    x.returnIdle = { x with
      phase := .idle
      config := if x.config.benchEnding = true then { x.config with bench := false, benchEnding := false }
        else x.config } := rfl

end Sys2Proof.Machine
end

