-- ==== Sys2Proof/Laws/Frames.lean ====
section
/-! SUPPORT. What each shared operation leaves alone: one lemma for each, naming every part of State that it does not
touch. `Link.still` is the part of the link interface that no block outside LNK touches. -/

namespace Sys2Proof.Machine

/-- The link interface without its event queue, wait line, sequence number and trace-lost count. -/
def Link.still (l : Link) : Link := { l with eventQ := [], waitLine := [], seq := 0, traceLost := 0 }

/-- What equal still parts have in common. -/
theorem Link.still_fields {l m : Link} (h : l.still = m.still) :
    l.expect = m.expect ∧ l.presence = m.presence ∧ l.elapsed = m.elapsed ∧ l.store = m.store ∧
    l.auxToLine = m.auxToLine ∧ l.auxToHead = m.auxToHead ∧ l.tap0 = m.tap0 ∧ l.tap1 = m.tap1 ∧ l.asm = m.asm ∧
    l.replyQ = m.replyQ ∧ l.tx = m.tx ∧ l.linkErr = m.linkErr ∧ l.overrun = m.overrun ∧ l.slip = m.slip ∧
    l.headBound = m.headBound ∧ l.lineBound = m.lineBound := by
  simpa [Link.still] using h

@[simp] theorem admitEvent_still (s : State) (e : Event) : (s.admitEvent e).lnk.still = s.lnk.still := rfl

@[simp] theorem admitLink_still (l : Link) (q : List Msg) (n : BitVec 8) :
    Link.still { l with eventQ := q, seq := n } = l.still := rfl

@[simp] theorem joinLine_still (l : Link) (w : List Producer) : Link.still { l with waitLine := w } = l.still := rfl

@[simp] theorem countTraceLost_still (l : Link) (c : Nat) : Link.still { l with traceLost := c } = l.still := rfl

variable (s : State)

@[simp] theorem admitNotice_frame :
    (s.admitNotice).lnk.still = s.lnk.still ∧ (s.admitNotice).slots = s.slots ∧
      (s.admitNotice).buffers = s.buffers ∧ (s.admitNotice).prot = s.prot ∧ (s.admitNotice).nests = s.nests ∧
      (s.admitNotice).amb = s.amb ∧ (s.admitNotice).retest = s.retest ∧ (s.admitNotice).mrk = s.mrk ∧
      (s.admitNotice).lots = s.lots ∧ (s.admitNotice).pending = s.pending := by
  simp [State.admitNotice, State.noticeEvent]

@[simp] theorem askNotice_frame :
    (s.askNotice).lnk.still = s.lnk.still ∧ (s.askNotice).slots = s.slots ∧ (s.askNotice).buffers = s.buffers ∧
      (s.askNotice).prot = s.prot ∧ (s.askNotice).nests = s.nests ∧ (s.askNotice).amb = s.amb ∧
      (s.askNotice).retest = s.retest ∧ (s.askNotice).mrk = s.mrk ∧ (s.askNotice).lots = s.lots ∧
      (s.askNotice).pending = s.pending := by
  simp only [State.askNotice]
  (repeat' split) <;> simp

@[simp] theorem notifyRising_frame (f : Flag) :
    (s.notifyRising f).lnk.still = s.lnk.still ∧ (s.notifyRising f).slots = s.slots ∧
      (s.notifyRising f).buffers = s.buffers ∧ (s.notifyRising f).prot = s.prot ∧
      (s.notifyRising f).nests = s.nests ∧ (s.notifyRising f).amb = s.amb ∧ (s.notifyRising f).retest = s.retest ∧
      (s.notifyRising f).mrk = s.mrk ∧ (s.notifyRising f).lots = s.lots ∧ (s.notifyRising f).pending = s.pending := by
  simp only [State.notifyRising]
  (repeat' split) <;> simp

@[simp] theorem setFlag_frame (f : Flag) :
    (s.setFlag f).lnk.still = s.lnk.still ∧ (s.setFlag f).slots = s.slots ∧ (s.setFlag f).buffers = s.buffers ∧
      (s.setFlag f).prot = s.prot ∧ (s.setFlag f).nests = s.nests ∧ (s.setFlag f).amb = s.amb ∧
      (s.setFlag f).retest = s.retest ∧ (s.setFlag f).mrk = s.mrk ∧ (s.setFlag f).lots = s.lots ∧
      (s.setFlag f).pending = s.pending := by
  simp only [State.setFlag]
  (repeat' split) <;> simp

@[simp] theorem periodExpiry_frame :
    (s.periodExpiry).lnk.still = s.lnk.still ∧ (s.periodExpiry).slots = s.slots ∧
      (s.periodExpiry).buffers = s.buffers ∧ (s.periodExpiry).prot = s.prot ∧ (s.periodExpiry).nests = s.nests ∧
      (s.periodExpiry).amb = s.amb ∧ (s.periodExpiry).retest = s.retest ∧ (s.periodExpiry).mrk = s.mrk ∧
      (s.periodExpiry).lots = s.lots ∧ (s.periodExpiry).pending = s.pending := by
  simp only [State.periodExpiry]
  (repeat' split) <;> simp

@[simp] theorem linkError_frame :
    (s.linkError).slots = s.slots ∧ (s.linkError).buffers = s.buffers ∧ (s.linkError).prot = s.prot ∧
      (s.linkError).nests = s.nests ∧ (s.linkError).amb = s.amb ∧ (s.linkError).retest = s.retest ∧
      (s.linkError).mrk = s.mrk ∧ (s.linkError).lots = s.lots ∧ (s.linkError).pending = s.pending := by
  simp [State.linkError]

@[simp] theorem admitProducer_frame (p : Producer) :
    (s.admitProducer p).lnk.still = s.lnk.still ∧ (s.admitProducer p).buffers = s.buffers ∧
      (s.admitProducer p).prot = s.prot ∧ (s.admitProducer p).amb = s.amb ∧ (s.admitProducer p).retest = s.retest ∧
      (s.admitProducer p).mrk = s.mrk ∧ (s.admitProducer p).pending = s.pending := by
  cases p <;> simp only [State.admitProducer] <;> (repeat' split) <;> simp

@[simp] theorem offer_frame (p : Producer) :
    (s.offer p).lnk.still = s.lnk.still ∧ (s.offer p).buffers = s.buffers ∧ (s.offer p).prot = s.prot ∧
      (s.offer p).amb = s.amb ∧ (s.offer p).retest = s.retest ∧ (s.offer p).mrk = s.mrk ∧
      (s.offer p).pending = s.pending := by
  simp only [State.offer]
  (repeat' split) <;> simp

@[simp] theorem admitHead_frame :
    (s.admitHead).lnk.still = s.lnk.still ∧ (s.admitHead).buffers = s.buffers ∧ (s.admitHead).prot = s.prot ∧
      (s.admitHead).amb = s.amb ∧ (s.admitHead).retest = s.retest ∧ (s.admitHead).mrk = s.mrk ∧
      (s.admitHead).pending = s.pending := by
  simp only [State.admitHead]
  (repeat' split) <;> simp

@[simp] theorem drainWaitLine_frame (fuel : Nat) :
    (s.drainWaitLine fuel).lnk.still = s.lnk.still ∧ (s.drainWaitLine fuel).buffers = s.buffers ∧
      (s.drainWaitLine fuel).prot = s.prot ∧ (s.drainWaitLine fuel).amb = s.amb ∧
      (s.drainWaitLine fuel).retest = s.retest ∧ (s.drainWaitLine fuel).mrk = s.mrk ∧
      (s.drainWaitLine fuel).pending = s.pending := by
  induction fuel generalizing s with
  | zero => simp [State.drainWaitLine]
  | succ m ih => simp only [State.drainWaitLine]; split <;> simp [ih]

@[simp] theorem fillPlaces_frame :
    (s.fillPlaces).lnk.still = s.lnk.still ∧ (s.fillPlaces).buffers = s.buffers ∧ (s.fillPlaces).prot = s.prot ∧
      (s.fillPlaces).amb = s.amb ∧ (s.fillPlaces).retest = s.retest ∧ (s.fillPlaces).mrk = s.mrk ∧
      (s.fillPlaces).pending = s.pending := by
  simp [State.fillPlaces]

@[simp] theorem evaluateAlarm_frame (k : SlotId) :
    (s.evaluateAlarm k).lnk.still = s.lnk.still ∧ (s.evaluateAlarm k).slots = s.slots ∧
      (s.evaluateAlarm k).buffers = s.buffers ∧ (s.evaluateAlarm k).prot = s.prot ∧
      (s.evaluateAlarm k).nests = s.nests ∧ (s.evaluateAlarm k).amb = s.amb ∧
      (s.evaluateAlarm k).retest = s.retest ∧ (s.evaluateAlarm k).mrk = s.mrk ∧
      (s.evaluateAlarm k).pending = s.pending := by
  simp only [State.evaluateAlarm]
  (repeat' split) <;> simp

@[simp] theorem finalCount_frame (k : SlotId) (pass : Bool) (classes : ClassSet) :
    (s.finalCount k pass classes).lnk.still = s.lnk.still ∧ (s.finalCount k pass classes).slots = s.slots ∧
      (s.finalCount k pass classes).buffers = s.buffers ∧ (s.finalCount k pass classes).prot = s.prot ∧
      (s.finalCount k pass classes).nests = s.nests ∧ (s.finalCount k pass classes).amb = s.amb ∧
      (s.finalCount k pass classes).retest = s.retest ∧ (s.finalCount k pass classes).mrk = s.mrk ∧
      (s.finalCount k pass classes).pending = s.pending := by
  simp only [State.finalCount]
  (repeat' split) <;> simp

@[simp] theorem reportFirst_frame (k : SlotId) :
    (s.reportFirst k).lnk = s.lnk ∧ (s.reportFirst k).slots = s.slots ∧ (s.reportFirst k).buffers = s.buffers ∧
      (s.reportFirst k).prot = s.prot ∧ (s.reportFirst k).nests = s.nests ∧ (s.reportFirst k).amb = s.amb ∧
      (s.reportFirst k).retest = s.retest ∧ (s.reportFirst k).mrk = s.mrk ∧ (s.reportFirst k).ntc = s.ntc ∧
      (s.reportFirst k).pending = s.pending := by
  simp [State.reportFirst]

@[simp] theorem reportReturn_frame (k : SlotId) :
    (s.reportReturn k).lnk = s.lnk ∧ (s.reportReturn k).slots = s.slots ∧ (s.reportReturn k).buffers = s.buffers ∧
      (s.reportReturn k).prot = s.prot ∧ (s.reportReturn k).nests = s.nests ∧ (s.reportReturn k).amb = s.amb ∧
      (s.reportReturn k).retest = s.retest ∧ (s.reportReturn k).mrk = s.mrk ∧ (s.reportReturn k).ntc = s.ntc ∧
      (s.reportReturn k).pending = s.pending := by
  simp [State.reportReturn]

@[simp] theorem reportVerdict_frame (v : VerdictKind) (id : Word) :
    (s.reportVerdict v id).lnk = s.lnk ∧ (s.reportVerdict v id).slots = s.slots ∧
      (s.reportVerdict v id).buffers = s.buffers ∧ (s.reportVerdict v id).prot = s.prot ∧
      (s.reportVerdict v id).nests = s.nests ∧ (s.reportVerdict v id).amb = s.amb ∧
      (s.reportVerdict v id).retest = s.retest ∧ (s.reportVerdict v id).mrk = s.mrk ∧
      (s.reportVerdict v id).ntc = s.ntc ∧ (s.reportVerdict v id).pending = s.pending := by
  simp only [State.reportVerdict]
  (repeat' split) <;> simp

@[simp] theorem reportResolution_frame (r : Label) (marked : Bool) :
    (s.reportResolution r marked).lnk.still = s.lnk.still ∧ (s.reportResolution r marked).slots = s.slots ∧
      (s.reportResolution r marked).buffers = s.buffers ∧ (s.reportResolution r marked).prot = s.prot ∧
      (s.reportResolution r marked).nests = s.nests ∧ (s.reportResolution r marked).amb = s.amb ∧
      (s.reportResolution r marked).retest = s.retest ∧ (s.reportResolution r marked).mrk = s.mrk ∧
      (s.reportResolution r marked).pending = s.pending := by
  simp only [State.reportResolution]
  (repeat' split) <;> simp

@[simp] theorem reportGivenUp_frame (e : RetestEntry) :
    (s.reportGivenUp e).lnk.still = s.lnk.still ∧ (s.reportGivenUp e).slots = s.slots ∧
      (s.reportGivenUp e).buffers = s.buffers ∧ (s.reportGivenUp e).prot = s.prot ∧
      (s.reportGivenUp e).nests = s.nests ∧ (s.reportGivenUp e).amb = s.amb ∧
      (s.reportGivenUp e).retest = s.retest ∧ (s.reportGivenUp e).mrk = s.mrk ∧
      (s.reportGivenUp e).pending = s.pending := by
  simp only [State.reportGivenUp]
  (repeat' split) <;> simp

@[simp] theorem foldGivenUp_frame (es : List RetestEntry) :
    (es.foldl State.reportGivenUp s).lnk.still = s.lnk.still ∧ (es.foldl State.reportGivenUp s).slots = s.slots ∧
      (es.foldl State.reportGivenUp s).buffers = s.buffers ∧ (es.foldl State.reportGivenUp s).prot = s.prot ∧
      (es.foldl State.reportGivenUp s).nests = s.nests ∧ (es.foldl State.reportGivenUp s).amb = s.amb ∧
      (es.foldl State.reportGivenUp s).retest = s.retest ∧ (es.foldl State.reportGivenUp s).mrk = s.mrk ∧
      (es.foldl State.reportGivenUp s).pending = s.pending := by
  induction es generalizing s with
  | nil => simp
  | cons e es ih => simp [ih]

@[simp] theorem giveUpLot_frame (id : Word) :
    (s.giveUpLot id).lnk.still = s.lnk.still ∧ (s.giveUpLot id).slots = s.slots ∧
      (s.giveUpLot id).buffers = s.buffers ∧ (s.giveUpLot id).prot = s.prot ∧ (s.giveUpLot id).nests = s.nests ∧
      (s.giveUpLot id).amb = s.amb ∧ (s.giveUpLot id).mrk = s.mrk ∧ (s.giveUpLot id).pending = s.pending := by
  simp [State.giveUpLot]

@[simp] theorem completeLot_frame (k : SlotId) :
    (s.completeLot k).lnk.still = s.lnk.still ∧ (s.completeLot k).slots = s.slots ∧
      (s.completeLot k).buffers = s.buffers ∧ (s.completeLot k).prot = s.prot ∧ (s.completeLot k).nests = s.nests ∧
      (s.completeLot k).amb = s.amb ∧ (s.completeLot k).mrk = s.mrk ∧ (s.completeLot k).pending = s.pending := by
  simp only [State.completeLot]
  (repeat' split) <;> simp

@[simp] theorem completeLots_frame :
    (s.completeLots).lnk.still = s.lnk.still ∧ (s.completeLots).slots = s.slots ∧
      (s.completeLots).buffers = s.buffers ∧ (s.completeLots).prot = s.prot ∧ (s.completeLots).nests = s.nests ∧
      (s.completeLots).amb = s.amb ∧ (s.completeLots).mrk = s.mrk ∧ (s.completeLots).pending = s.pending := by
  simp [State.completeLots, allSlots, List.foldl]

@[simp] theorem discardResult_frame (n : NestId) :
    (s.discardResult n).lnk.still = s.lnk.still ∧ (s.discardResult n).slots = s.slots ∧
      (s.discardResult n).buffers = s.buffers ∧ (s.discardResult n).prot = s.prot ∧
      (s.discardResult n).amb = s.amb ∧ (s.discardResult n).retest = s.retest ∧
      (s.discardResult n).mrk = s.mrk ∧ (s.discardResult n).lots = s.lots ∧
      (s.discardResult n).pending = s.pending := by
  simp [State.discardResult]

@[simp] theorem foldDiscard_frame (ns : List NestId) :
    (ns.foldl State.discardResult s).lnk.still = s.lnk.still ∧ (ns.foldl State.discardResult s).slots = s.slots ∧
      (ns.foldl State.discardResult s).buffers = s.buffers ∧ (ns.foldl State.discardResult s).prot = s.prot ∧
      (ns.foldl State.discardResult s).amb = s.amb ∧ (ns.foldl State.discardResult s).retest = s.retest ∧
      (ns.foldl State.discardResult s).mrk = s.mrk ∧ (ns.foldl State.discardResult s).lots = s.lots ∧
      (ns.foldl State.discardResult s).pending = s.pending := by
  induction ns generalizing s with
  | nil => simp
  | cons n ns ih => simp [ih]

@[simp] theorem dropResults_frame :
    (s.dropResults).lnk.still = s.lnk.still ∧ (s.dropResults).slots = s.slots ∧
      (s.dropResults).buffers = s.buffers ∧ (s.dropResults).prot = s.prot ∧ (s.dropResults).amb = s.amb ∧
      (s.dropResults).retest = s.retest ∧ (s.dropResults).mrk = s.mrk ∧ (s.dropResults).lots = s.lots ∧
      (s.dropResults).pending = s.pending := by
  simp only [State.dropResults]
  (repeat' split) <;> simp

@[simp] theorem offerStepResult_frame (n : NestId) :
    (s.offerStepResult n).lnk.still = s.lnk.still ∧ (s.offerStepResult n).slots = s.slots ∧
      (s.offerStepResult n).buffers = s.buffers ∧ (s.offerStepResult n).prot = s.prot ∧
      (s.offerStepResult n).amb = s.amb ∧ (s.offerStepResult n).retest = s.retest ∧
      (s.offerStepResult n).mrk = s.mrk ∧ (s.offerStepResult n).lots = s.lots ∧
      (s.offerStepResult n).pending = s.pending := by
  simp only [State.offerStepResult]
  (repeat' split) <;> simp

@[simp] theorem offerNest_frame (n : NestId) :
    (s.offerNest n).lnk.still = s.lnk.still ∧ (s.offerNest n).buffers = s.buffers ∧ (s.offerNest n).prot = s.prot ∧
      (s.offerNest n).amb = s.amb ∧ (s.offerNest n).retest = s.retest ∧ (s.offerNest n).mrk = s.mrk ∧
      (s.offerNest n).pending = s.pending := by
  simp only [State.offerNest]
  (repeat' split) <;> simp

@[simp] theorem offerRefDone_frame (k : SlotId) :
    (s.offerRefDone k).lnk.still = s.lnk.still ∧ (s.offerRefDone k).buffers = s.buffers ∧
      (s.offerRefDone k).prot = s.prot ∧ (s.offerRefDone k).amb = s.amb ∧ (s.offerRefDone k).retest = s.retest ∧
      (s.offerRefDone k).mrk = s.mrk ∧ (s.offerRefDone k).pending = s.pending := by
  simp only [State.offerRefDone]
  (repeat' split) <;> simp

@[simp] theorem offerSummary_frame (k : SlotId) :
    (s.offerSummary k).lnk.still = s.lnk.still ∧ (s.offerSummary k).buffers = s.buffers ∧
      (s.offerSummary k).prot = s.prot ∧ (s.offerSummary k).amb = s.amb ∧ (s.offerSummary k).retest = s.retest ∧
      (s.offerSummary k).mrk = s.mrk ∧ (s.offerSummary k).pending = s.pending := by
  simp only [State.offerSummary]
  (repeat' split) <;> simp

@[simp] theorem makeOffers_frame :
    (s.makeOffers).lnk.still = s.lnk.still ∧ (s.makeOffers).buffers = s.buffers ∧ (s.makeOffers).prot = s.prot ∧
      (s.makeOffers).amb = s.amb ∧ (s.makeOffers).retest = s.retest ∧ (s.makeOffers).mrk = s.mrk ∧
      (s.makeOffers).pending = s.pending := by
  simp [State.makeOffers, allNests, allSlots, List.foldl]

@[simp] theorem endEvent_frame :
    (s.endEvent).lnk.still = s.lnk.still ∧ (s.endEvent).buffers = s.buffers ∧ (s.endEvent).prot = s.prot ∧
      (s.endEvent).amb = s.amb ∧ (s.endEvent).mrk = s.mrk ∧ (s.endEvent).pending = s.pending := by
  simp [State.endEvent]

@[simp] theorem resolveLabel_frame (i : Nat) (marked fault : Bool) :
    (s.resolveLabel i marked fault).lnk.still = s.lnk.still ∧ (s.resolveLabel i marked fault).slots = s.slots ∧
      (s.resolveLabel i marked fault).buffers = s.buffers ∧ (s.resolveLabel i marked fault).prot = s.prot ∧
      (s.resolveLabel i marked fault).nests = s.nests ∧ (s.resolveLabel i marked fault).amb = s.amb ∧
      (s.resolveLabel i marked fault).retest = s.retest ∧ (s.resolveLabel i marked fault).pending = s.pending := by
  simp only [State.resolveLabel]
  (repeat' split) <;> simp

@[simp] theorem resolveIssued_frame (marked : Bool) :
    (s.resolveIssued marked).lnk.still = s.lnk.still ∧ (s.resolveIssued marked).slots = s.slots ∧
      (s.resolveIssued marked).buffers = s.buffers ∧ (s.resolveIssued marked).prot = s.prot ∧
      (s.resolveIssued marked).nests = s.nests ∧ (s.resolveIssued marked).amb = s.amb ∧
      (s.resolveIssued marked).retest = s.retest ∧ (s.resolveIssued marked).pending = s.pending := by
  simp only [State.resolveIssued]
  (repeat' split) <;> simp

@[simp] theorem makeRoom_frame :
    (s.makeRoom).lnk.still = s.lnk.still ∧ (s.makeRoom).slots = s.slots ∧ (s.makeRoom).buffers = s.buffers ∧
      (s.makeRoom).prot = s.prot ∧ (s.makeRoom).nests = s.nests ∧ (s.makeRoom).amb = s.amb ∧
      (s.makeRoom).retest = s.retest ∧ (s.makeRoom).pending = s.pending := by
  simp only [State.makeRoom]
  (repeat' split) <;> simp

@[simp] theorem createLabel_frame (r : Label) :
    (s.createLabel r).lnk.still = s.lnk.still ∧ (s.createLabel r).slots = s.slots ∧
      (s.createLabel r).buffers = s.buffers ∧ (s.createLabel r).prot = s.prot ∧ (s.createLabel r).nests = s.nests ∧
      (s.createLabel r).amb = s.amb ∧ (s.createLabel r).retest = s.retest ∧ (s.createLabel r).pending = s.pending := by
  simp [State.createLabel]

@[simp] theorem requestRising_frame (n : NestId) :
    (s.requestRising n).lnk.still = s.lnk.still ∧ (s.requestRising n).slots = s.slots ∧
      (s.requestRising n).buffers = s.buffers ∧ (s.requestRising n).prot = s.prot ∧
      (s.requestRising n).nests = s.nests ∧ (s.requestRising n).amb = s.amb ∧
      (s.requestRising n).retest = s.retest ∧ (s.requestRising n).pending = s.pending := by
  simp only [State.requestRising, State.answerRequest]
  (repeat' split) <;> simp

@[simp] theorem requestFalling_frame :
    (s.requestFalling).lnk = s.lnk ∧ (s.requestFalling).slots = s.slots ∧ (s.requestFalling).buffers = s.buffers ∧
      (s.requestFalling).prot = s.prot ∧ (s.requestFalling).nests = s.nests ∧ (s.requestFalling).amb = s.amb ∧
      (s.requestFalling).retest = s.retest ∧ (s.requestFalling).lots = s.lots ∧ (s.requestFalling).ntc = s.ntc ∧
      (s.requestFalling).pending = s.pending := by
  simp [State.requestFalling]

@[simp] theorem strayResult_frame :
    (s.strayResult).lnk.still = s.lnk.still ∧ (s.strayResult).slots = s.slots ∧
      (s.strayResult).buffers = s.buffers ∧ (s.strayResult).prot = s.prot ∧ (s.strayResult).nests = s.nests ∧
      (s.strayResult).amb = s.amb ∧ (s.strayResult).retest = s.retest ∧ (s.strayResult).lots = s.lots ∧
      (s.strayResult).pending = s.pending := by
  simp [State.strayResult]

@[simp] theorem markedRising_frame :
    (s.markedRising).lnk.still = s.lnk.still ∧ (s.markedRising).slots = s.slots ∧
      (s.markedRising).buffers = s.buffers ∧ (s.markedRising).prot = s.prot ∧ (s.markedRising).nests = s.nests ∧
      (s.markedRising).amb = s.amb ∧ (s.markedRising).retest = s.retest ∧ (s.markedRising).pending = s.pending := by
  simp only [State.markedRising]
  (repeat' split) <;> simp

@[simp] theorem jamRising_frame :
    (s.jamRising).lnk.still = s.lnk.still ∧ (s.jamRising).slots = s.slots ∧ (s.jamRising).buffers = s.buffers ∧
      (s.jamRising).prot = s.prot ∧ (s.jamRising).nests = s.nests ∧ (s.jamRising).amb = s.amb ∧
      (s.jamRising).retest = s.retest ∧ (s.jamRising).pending = s.pending := by
  simp only [State.jamRising]
  (repeat' split) <;> simp

@[simp] theorem expireLabel_frame (i : Nat) :
    (s.expireLabel i).lnk.still = s.lnk.still ∧ (s.expireLabel i).slots = s.slots ∧
      (s.expireLabel i).buffers = s.buffers ∧ (s.expireLabel i).prot = s.prot ∧ (s.expireLabel i).nests = s.nests ∧
      (s.expireLabel i).amb = s.amb ∧ (s.expireLabel i).retest = s.retest ∧ (s.expireLabel i).pending = s.pending := by
  simp only [State.expireLabel]
  (repeat' split) <;> simp

@[simp] theorem clearBounds_frame (k : SlotId) :
    (s.clearBounds k).lnk = s.lnk ∧ (s.clearBounds k).slots = s.slots ∧ (s.clearBounds k).buffers = s.buffers ∧
      (s.clearBounds k).prot = s.prot ∧ (s.clearBounds k).amb = s.amb ∧ (s.clearBounds k).retest = s.retest ∧
      (s.clearBounds k).mrk = s.mrk ∧ (s.clearBounds k).lots = s.lots ∧ (s.clearBounds k).ntc = s.ntc ∧
      (s.clearBounds k).pending = s.pending := by
  simp [State.clearBounds, allNests, List.foldl]

@[simp] theorem produceRefDone_frame (k : SlotId) (o : RefOutcome) (target count : Nat) :
    (s.produceRefDone k o target count).lnk = s.lnk ∧ (s.produceRefDone k o target count).buffers = s.buffers ∧
      (s.produceRefDone k o target count).prot = s.prot ∧ (s.produceRefDone k o target count).nests = s.nests ∧
      (s.produceRefDone k o target count).amb = s.amb ∧ (s.produceRefDone k o target count).retest = s.retest ∧
      (s.produceRefDone k o target count).mrk = s.mrk ∧ (s.produceRefDone k o target count).lots = s.lots ∧
      (s.produceRefDone k o target count).ntc = s.ntc ∧ (s.produceRefDone k o target count).pending = s.pending := by
  simp [State.produceRefDone]

@[simp] theorem cancelCapture_frame (k : SlotId) (o : RefOutcome) :
    (s.cancelCapture k o).lnk = s.lnk ∧ (s.cancelCapture k o).buffers = s.buffers ∧
      (s.cancelCapture k o).prot = s.prot ∧ (s.cancelCapture k o).amb = s.amb ∧
      (s.cancelCapture k o).retest = s.retest ∧ (s.cancelCapture k o).mrk = s.mrk ∧
      (s.cancelCapture k o).lots = s.lots ∧ (s.cancelCapture k o).ntc = s.ntc ∧
      (s.cancelCapture k o).pending = s.pending := by
  simp only [State.cancelCapture]
  (repeat' split) <;> simp

@[simp] theorem addToCapture_frame (k : SlotId) (values : List Level) :
    (s.addToCapture k values).lnk = s.lnk ∧ (s.addToCapture k values).buffers = s.buffers ∧
      (s.addToCapture k values).prot = s.prot ∧ (s.addToCapture k values).amb = s.amb ∧
      (s.addToCapture k values).retest = s.retest ∧ (s.addToCapture k values).mrk = s.mrk ∧
      (s.addToCapture k values).lots = s.lots ∧ (s.addToCapture k values).ntc = s.ntc ∧
      (s.addToCapture k values).pending = s.pending := by
  simp only [State.addToCapture]
  (repeat' split) <;> simp

@[simp] theorem offerCapture_frame (r : Run) :
    (s.offerCapture r).lnk = s.lnk ∧ (s.offerCapture r).buffers = s.buffers ∧ (s.offerCapture r).prot = s.prot ∧
      (s.offerCapture r).amb = s.amb ∧ (s.offerCapture r).retest = s.retest ∧ (s.offerCapture r).mrk = s.mrk ∧
      (s.offerCapture r).lots = s.lots ∧ (s.offerCapture r).ntc = s.ntc ∧ (s.offerCapture r).pending = s.pending := by
  simp only [State.offerCapture]
  (repeat' split) <;> simp

@[simp] theorem promote_frame (k : SlotId) :
    (s.promote k).lnk = s.lnk ∧ (s.promote k).buffers = s.buffers ∧ (s.promote k).prot = s.prot ∧
      (s.promote k).nests = s.nests ∧ (s.promote k).amb = s.amb ∧ (s.promote k).retest = s.retest ∧
      (s.promote k).mrk = s.mrk ∧ (s.promote k).lots = s.lots ∧ (s.promote k).ntc = s.ntc ∧
      (s.promote k).pending = s.pending := by
  simp only [State.promote]
  (repeat' split) <;> simp

@[simp] theorem swap_frame (k : SlotId) :
    (s.swap k).lnk = s.lnk ∧ (s.swap k).prot = s.prot ∧ (s.swap k).amb = s.amb ∧ (s.swap k).retest = s.retest ∧
      (s.swap k).mrk = s.mrk ∧ (s.swap k).ntc = s.ntc ∧ (s.swap k).pending = s.pending := by
  simp only [State.swap]
  (repeat' split) <;> simp

@[simp] theorem deferredSwap_frame (k : SlotId) :
    (s.deferredSwap k).lnk = s.lnk ∧ (s.deferredSwap k).prot = s.prot ∧ (s.deferredSwap k).amb = s.amb ∧
      (s.deferredSwap k).retest = s.retest ∧ (s.deferredSwap k).mrk = s.mrk ∧ (s.deferredSwap k).ntc = s.ntc ∧
      (s.deferredSwap k).pending = s.pending := by
  simp only [State.deferredSwap]
  (repeat' split) <;> simp

@[simp] theorem releaseSlot_frame (k : SlotId) :
    (s.releaseSlot k).lnk = s.lnk ∧ (s.releaseSlot k).prot = s.prot ∧ (s.releaseSlot k).amb = s.amb ∧
      (s.releaseSlot k).retest = s.retest ∧ (s.releaseSlot k).mrk = s.mrk ∧ (s.releaseSlot k).ntc = s.ntc ∧
      (s.releaseSlot k).pending = s.pending := by
  simp [State.releaseSlot]

@[simp] theorem occupy_frame (k : SlotId) :
    (s.occupy k).lnk = s.lnk ∧ (s.occupy k).buffers = s.buffers ∧ (s.occupy k).prot = s.prot ∧
      (s.occupy k).nests = s.nests ∧ (s.occupy k).amb = s.amb ∧ (s.occupy k).retest = s.retest ∧
      (s.occupy k).mrk = s.mrk ∧ (s.occupy k).lots = s.lots ∧ (s.occupy k).ntc = s.ntc ∧
      (s.occupy k).pending = s.pending := by
  simp [State.occupy]

@[simp] theorem depart_frame (k : SlotId) :
    (s.depart k).lnk = s.lnk ∧ (s.depart k).prot = s.prot ∧ (s.depart k).amb = s.amb ∧
      (s.depart k).retest = s.retest ∧ (s.depart k).mrk = s.mrk ∧ (s.depart k).ntc = s.ntc ∧
      (s.depart k).pending = s.pending := by
  simp [State.depart]

@[simp] theorem evictRetest_frame :
    (s.evictRetest).lnk.still = s.lnk.still ∧ (s.evictRetest).slots = s.slots ∧
      (s.evictRetest).buffers = s.buffers ∧ (s.evictRetest).prot = s.prot ∧ (s.evictRetest).nests = s.nests ∧
      (s.evictRetest).amb = s.amb ∧ (s.evictRetest).mrk = s.mrk ∧ (s.evictRetest).pending = s.pending := by
  simp only [State.evictRetest]
  (repeat' split) <;> simp

@[simp] theorem addRetest_frame (r : Run) (classes : ClassSet) :
    (s.addRetest r classes).lnk.still = s.lnk.still ∧ (s.addRetest r classes).slots = s.slots ∧
      (s.addRetest r classes).buffers = s.buffers ∧ (s.addRetest r classes).prot = s.prot ∧
      (s.addRetest r classes).nests = s.nests ∧ (s.addRetest r classes).amb = s.amb ∧
      (s.addRetest r classes).mrk = s.mrk ∧ (s.addRetest r classes).pending = s.pending := by
  simp [State.addRetest]

@[simp] theorem recordVerdict_frame (n : NestId) (r : Run) (v : VerdictKind) (classes : ClassSet) (g : LabelField) :
    (s.recordVerdict n r v classes g).lnk.still = s.lnk.still ∧ (s.recordVerdict n r v classes g).slots = s.slots ∧
      (s.recordVerdict n r v classes g).buffers = s.buffers ∧ (s.recordVerdict n r v classes g).prot = s.prot ∧
      (s.recordVerdict n r v classes g).nests = s.nests ∧ (s.recordVerdict n r v classes g).amb = s.amb ∧
      (s.recordVerdict n r v classes g).pending = s.pending := by
  simp only [State.recordVerdict]
  (repeat' split) <;> simp

@[simp] theorem formVerdict_frame (n : NestId) :
    (s.formVerdict n).lnk.still = s.lnk.still ∧ (s.formVerdict n).buffers = s.buffers ∧
      (s.formVerdict n).prot = s.prot ∧ (s.formVerdict n).amb = s.amb ∧ (s.formVerdict n).pending = s.pending := by
  simp only [State.formVerdict]
  (repeat' split) <;> simp

@[simp] theorem markEnd_frame (n : NestId) (cause : EndCause) :
    (s.markEnd n cause).lnk = s.lnk ∧ (s.markEnd n cause).slots = s.slots ∧
      (s.markEnd n cause).buffers = s.buffers ∧ (s.markEnd n cause).prot = s.prot ∧
      (s.markEnd n cause).amb = s.amb ∧ (s.markEnd n cause).retest = s.retest ∧ (s.markEnd n cause).mrk = s.mrk ∧
      (s.markEnd n cause).lots = s.lots ∧ (s.markEnd n cause).ntc = s.ntc ∧ (s.markEnd n cause).pending = s.pending := by
  simp [State.markEnd]

@[simp] theorem leaveRun_frame (n : NestId) (e : Engine) :
    (s.leaveRun n e).lnk = s.lnk ∧ (s.leaveRun n e).prot = s.prot ∧ (s.leaveRun n e).amb = s.amb ∧
      (s.leaveRun n e).retest = s.retest ∧ (s.leaveRun n e).mrk = s.mrk ∧ (s.leaveRun n e).ntc = s.ntc ∧
      (s.leaveRun n e).pending = s.pending := by
  simp only [State.leaveRun]
  (repeat' split) <;> simp

@[simp] theorem endRun_frame (n : NestId) (cause : EndCause) :
    (s.endRun n cause).lnk.still = s.lnk.still ∧ (s.endRun n cause).prot = s.prot ∧
      (s.endRun n cause).amb = s.amb ∧ (s.endRun n cause).pending = s.pending := by
  simp only [State.endRun]
  (repeat' split) <;> simp

@[simp] theorem addContact_frame (n : NestId) :
    (s.addContact n).lnk = s.lnk ∧ (s.addContact n).slots = s.slots ∧ (s.addContact n).buffers = s.buffers ∧
      (s.addContact n).prot = s.prot ∧ (s.addContact n).amb = s.amb ∧ (s.addContact n).retest = s.retest ∧
      (s.addContact n).mrk = s.mrk ∧ (s.addContact n).lots = s.lots ∧ (s.addContact n).ntc = s.ntc ∧
      (s.addContact n).pending = s.pending := by
  simp [State.addContact]

@[simp] theorem addDisturbed_frame (n : NestId) :
    (s.addDisturbed n).lnk = s.lnk ∧ (s.addDisturbed n).slots = s.slots ∧ (s.addDisturbed n).buffers = s.buffers ∧
      (s.addDisturbed n).prot = s.prot ∧ (s.addDisturbed n).amb = s.amb ∧ (s.addDisturbed n).retest = s.retest ∧
      (s.addDisturbed n).mrk = s.mrk ∧ (s.addDisturbed n).lots = s.lots ∧ (s.addDisturbed n).ntc = s.ntc ∧
      (s.addDisturbed n).pending = s.pending := by
  simp [State.addDisturbed]

@[simp] theorem fadeEnded_frame (n : NestId) :
    (s.fadeEnded n).lnk = s.lnk ∧ (s.fadeEnded n).slots = s.slots ∧ (s.fadeEnded n).buffers = s.buffers ∧
      (s.fadeEnded n).prot = s.prot ∧ (s.fadeEnded n).amb = s.amb ∧ (s.fadeEnded n).retest = s.retest ∧
      (s.fadeEnded n).mrk = s.mrk ∧ (s.fadeEnded n).lots = s.lots ∧ (s.fadeEnded n).ntc = s.ntc ∧
      (s.fadeEnded n).pending = s.pending := by
  simp only [State.fadeEnded]
  (repeat' split) <;> simp

@[simp] theorem decideWindow_frame (n : NestId) :
    (s.decideWindow n).lnk = s.lnk ∧ (s.decideWindow n).slots = s.slots ∧ (s.decideWindow n).buffers = s.buffers ∧
      (s.decideWindow n).prot = s.prot ∧ (s.decideWindow n).amb = s.amb ∧ (s.decideWindow n).retest = s.retest ∧
      (s.decideWindow n).mrk = s.mrk ∧ (s.decideWindow n).lots = s.lots ∧ (s.decideWindow n).ntc = s.ntc ∧
      (s.decideWindow n).pending = s.pending := by
  simp only [State.decideWindow]
  (repeat' split) <;> simp

@[simp] theorem traceWindow_frame (n : NestId) (m : Measures) (o : StepOutcome) (cause : Nat) :
    (s.traceWindow n m o cause).lnk = s.lnk ∧ (s.traceWindow n m o cause).slots = s.slots ∧
      (s.traceWindow n m o cause).buffers = s.buffers ∧ (s.traceWindow n m o cause).prot = s.prot ∧
      (s.traceWindow n m o cause).amb = s.amb ∧ (s.traceWindow n m o cause).retest = s.retest ∧
      (s.traceWindow n m o cause).mrk = s.mrk ∧ (s.traceWindow n m o cause).lots = s.lots ∧
      (s.traceWindow n m o cause).ntc = s.ntc ∧ (s.traceWindow n m o cause).pending = s.pending := by
  simp only [State.traceWindow]
  (repeat' split) <;> simp

@[simp] theorem judgeWindow_frame (n : NestId) (m : Measures) :
    (s.judgeWindow n m).lnk.still = s.lnk.still ∧ (s.judgeWindow n m).prot = s.prot ∧
      (s.judgeWindow n m).amb = s.amb ∧ (s.judgeWindow n m).pending = s.pending := by
  simp only [State.judgeWindow]
  (repeat' split) <;> simp

@[simp] theorem disturbWindow_frame (n : NestId) (m : Measures) (d : Disturbance) :
    (s.disturbWindow n m d).lnk.still = s.lnk.still ∧ (s.disturbWindow n m d).prot = s.prot ∧
      (s.disturbWindow n m d).amb = s.amb ∧ (s.disturbWindow n m d).pending = s.pending := by
  simp only [State.disturbWindow]
  (repeat' split) <;> simp

@[simp] theorem closeWindow_frame (n : NestId) :
    (s.closeWindow n).lnk.still = s.lnk.still ∧ (s.closeWindow n).prot = s.prot ∧ (s.closeWindow n).amb = s.amb ∧
      (s.closeWindow n).pending = s.pending := by
  simp only [State.closeWindow]
  (repeat' split) <;> simp

@[simp] theorem endDwell_frame (n : NestId) :
    (s.endDwell n).lnk = s.lnk ∧ (s.endDwell n).slots = s.slots ∧ (s.endDwell n).buffers = s.buffers ∧
      (s.endDwell n).prot = s.prot ∧ (s.endDwell n).amb = s.amb ∧ (s.endDwell n).retest = s.retest ∧
      (s.endDwell n).mrk = s.mrk ∧ (s.endDwell n).lots = s.lots ∧ (s.endDwell n).ntc = s.ntc ∧
      (s.endDwell n).pending = s.pending := by
  simp [State.endDwell]

@[simp] theorem endStepFade_frame (n : NestId) :
    (s.endStepFade n).lnk = s.lnk ∧ (s.endStepFade n).slots = s.slots ∧ (s.endStepFade n).buffers = s.buffers ∧
      (s.endStepFade n).prot = s.prot ∧ (s.endStepFade n).amb = s.amb ∧ (s.endStepFade n).retest = s.retest ∧
      (s.endStepFade n).mrk = s.mrk ∧ (s.endStepFade n).lots = s.lots ∧ (s.endStepFade n).ntc = s.ntc ∧
      (s.endStepFade n).pending = s.pending := by
  simp [State.endStepFade]

@[simp] theorem analyseFrame_frame (n : NestId) (inp : FrameInput) :
    (s.analyseFrame n inp).lnk = s.lnk ∧ (s.analyseFrame n inp).slots = s.slots ∧
      (s.analyseFrame n inp).buffers = s.buffers ∧ (s.analyseFrame n inp).prot = s.prot ∧
      (s.analyseFrame n inp).amb = s.amb ∧ (s.analyseFrame n inp).retest = s.retest ∧
      (s.analyseFrame n inp).mrk = s.mrk ∧ (s.analyseFrame n inp).lots = s.lots ∧
      (s.analyseFrame n inp).ntc = s.ntc ∧ (s.analyseFrame n inp).pending = s.pending := by
  simp only [State.analyseFrame]
  (repeat' split) <;> simp

@[simp] theorem moveStep_frame (n : NestId) :
    (s.moveStep n).lnk.still = s.lnk.still ∧ (s.moveStep n).prot = s.prot ∧ (s.moveStep n).amb = s.amb ∧
      (s.moveStep n).pending = s.pending := by
  simp only [State.moveStep]
  (repeat' split) <;> simp

@[simp] theorem moveOn_frame (n : NestId) :
    (s.moveOn n).lnk.still = s.lnk.still ∧ (s.moveOn n).prot = s.prot ∧ (s.moveOn n).amb = s.amb ∧
      (s.moveOn n).pending = s.pending := by
  simp only [State.moveOn]
  (repeat' split) <;> simp

@[simp] theorem nestFrame_frame (n : NestId) (inp : FrameInput) :
    (s.nestFrame n inp).lnk.still = s.lnk.still ∧ (s.nestFrame n inp).prot = s.prot ∧
      (s.nestFrame n inp).amb = s.amb ∧ (s.nestFrame n inp).pending = s.pending := by
  simp [State.nestFrame]

@[simp] theorem becomeRunning_frame (n : NestId) (cause : StartCause) :
    (s.becomeRunning n cause).lnk = s.lnk ∧ (s.becomeRunning n cause).slots = s.slots ∧
      (s.becomeRunning n cause).buffers = s.buffers ∧ (s.becomeRunning n cause).prot = s.prot ∧
      (s.becomeRunning n cause).amb = s.amb ∧ (s.becomeRunning n cause).retest = s.retest ∧
      (s.becomeRunning n cause).mrk = s.mrk ∧ (s.becomeRunning n cause).lots = s.lots ∧
      (s.becomeRunning n cause).ntc = s.ntc ∧ (s.becomeRunning n cause).pending = s.pending := by
  simp [State.becomeRunning]

@[simp] theorem arm_frame (n : NestId) :
    (s.arm n).lnk = s.lnk ∧ (s.arm n).slots = s.slots ∧ (s.arm n).buffers = s.buffers ∧ (s.arm n).prot = s.prot ∧
      (s.arm n).amb = s.amb ∧ (s.arm n).retest = s.retest ∧ (s.arm n).mrk = s.mrk ∧ (s.arm n).lots = s.lots ∧
      (s.arm n).ntc = s.ntc ∧ (s.arm n).pending = s.pending := by
  simp [State.arm]

@[simp] theorem enterRun_frame (n : NestId) (k : SlotId) :
    (s.enterRun n k).lnk = s.lnk ∧ (s.enterRun n k).buffers = s.buffers ∧ (s.enterRun n k).prot = s.prot ∧
      (s.enterRun n k).amb = s.amb ∧ (s.enterRun n k).retest = s.retest ∧ (s.enterRun n k).mrk = s.mrk ∧
      (s.enterRun n k).lots = s.lots ∧ (s.enterRun n k).ntc = s.ntc ∧ (s.enterRun n k).pending = s.pending := by
  simp only [State.enterRun]
  (repeat' split) <;> simp

@[simp] theorem lookupRetest_frame (k : SlotId) (serial : BitVec 48) :
    ((s.lookupRetest k serial).2).lnk.still = s.lnk.still ∧ ((s.lookupRetest k serial).2).slots = s.slots ∧
      ((s.lookupRetest k serial).2).buffers = s.buffers ∧ ((s.lookupRetest k serial).2).prot = s.prot ∧
      ((s.lookupRetest k serial).2).nests = s.nests ∧ ((s.lookupRetest k serial).2).amb = s.amb ∧
      ((s.lookupRetest k serial).2).mrk = s.mrk ∧ ((s.lookupRetest k serial).2).pending = s.pending := by
  simp only [State.lookupRetest, State.dropRetest]
  (repeat' split) <;> simp

@[simp] theorem startRun_frame (n : NestId) (k : SlotId) (r : StartRequest) :
    (s.startRun n k r).lnk.still = s.lnk.still ∧ (s.startRun n k r).buffers = s.buffers ∧
      (s.startRun n k r).prot = s.prot ∧ (s.startRun n k r).amb = s.amb ∧ (s.startRun n k r).mrk = s.mrk ∧
      (s.startRun n k r).pending = s.pending := by
  simp only [State.startRun]
  (repeat' split) <;> simp

@[simp] theorem seatClosed_frame (n : NestId) :
    (s.seatClosed n).lnk = s.lnk ∧ (s.seatClosed n).slots = s.slots ∧ (s.seatClosed n).buffers = s.buffers ∧
      (s.seatClosed n).prot = s.prot ∧ (s.seatClosed n).amb = s.amb ∧ (s.seatClosed n).retest = s.retest ∧
      (s.seatClosed n).mrk = s.mrk ∧ (s.seatClosed n).lots = s.lots ∧ (s.seatClosed n).ntc = s.ntc ∧
      (s.seatClosed n).pending = s.pending := by
  simp only [State.seatClosed]
  (repeat' split) <;> simp

@[simp] theorem seatOpened_frame (n : NestId) :
    (s.seatOpened n).lnk.still = s.lnk.still ∧ (s.seatOpened n).prot = s.prot ∧ (s.seatOpened n).amb = s.amb ∧
      (s.seatOpened n).pending = s.pending := by
  simp only [State.seatOpened]
  (repeat' split) <;> simp

@[simp] theorem seatTimedOut_frame (n : NestId) :
    (s.seatTimedOut n).lnk.still = s.lnk.still ∧ (s.seatTimedOut n).prot = s.prot ∧
      (s.seatTimedOut n).amb = s.amb ∧ (s.seatTimedOut n).pending = s.pending := by
  simp only [State.seatTimedOut]
  (repeat' split) <;> simp

@[simp] theorem turnLoud_frame :
    (s.turnLoud).lnk.still = s.lnk.still ∧ (s.turnLoud).slots = s.slots ∧ (s.turnLoud).buffers = s.buffers ∧
      (s.turnLoud).prot = s.prot ∧ (s.turnLoud).nests = s.nests ∧ (s.turnLoud).retest = s.retest ∧
      (s.turnLoud).mrk = s.mrk ∧ (s.turnLoud).lots = s.lots ∧ (s.turnLoud).pending = s.pending := by
  simp [State.turnLoud]

@[simp] theorem turnQuiet_frame :
    (s.turnQuiet).lnk = s.lnk ∧ (s.turnQuiet).slots = s.slots ∧ (s.turnQuiet).buffers = s.buffers ∧
      (s.turnQuiet).prot = s.prot ∧ (s.turnQuiet).nests = s.nests ∧ (s.turnQuiet).retest = s.retest ∧
      (s.turnQuiet).mrk = s.mrk ∧ (s.turnQuiet).lots = s.lots ∧ (s.turnQuiet).ntc = s.ntc ∧
      (s.turnQuiet).pending = s.pending := by
  simp [State.turnQuiet]

@[simp] theorem countFrame_frame (b : Bool) :
    (s.countFrame b).lnk.still = s.lnk.still ∧ (s.countFrame b).slots = s.slots ∧
      (s.countFrame b).buffers = s.buffers ∧ (s.countFrame b).prot = s.prot ∧ (s.countFrame b).nests = s.nests ∧
      (s.countFrame b).retest = s.retest ∧ (s.countFrame b).mrk = s.mrk ∧ (s.countFrame b).lots = s.lots ∧
      (s.countFrame b).pending = s.pending := by
  simp only [State.countFrame]
  (repeat' split) <;> simp

@[simp] theorem hearFrame_frame (c : Channel) :
    (s.hearFrame c).lnk.still = s.lnk.still ∧ (s.hearFrame c).slots = s.slots ∧
      (s.hearFrame c).buffers = s.buffers ∧ (s.hearFrame c).prot = s.prot ∧ (s.hearFrame c).nests = s.nests ∧
      (s.hearFrame c).retest = s.retest ∧ (s.hearFrame c).mrk = s.mrk ∧ (s.hearFrame c).lots = s.lots ∧
      (s.hearFrame c).pending = s.pending := by
  simp [State.hearFrame]

end Sys2Proof.Machine
end

