-- ==== Sys2Proof/Laws/Reads.lean ====
section
/-! SUPPORT. Reading one nest, slot, lot or buffer, or the session of a slot, after an operation that does not touch
it: the frames of Laws/State.lean and Laws/Frames.lean, read part by part. -/

namespace Sys2Proof.Machine

theorem sessionBuffer_congr {s t : State} (h : t.buffers = s.buffers) (k : SlotId) :
    t.sessionBuffer k = s.sessionBuffer k := by
  simp [State.sessionBuffer, State.buffer, h]

theorem session_congr {s t : State} (h : t.buffers = s.buffers) (k : SlotId) : t.session k = s.session k := by
  have hb : t.buffer = s.buffer := funext (buffer_congr h)
  simp [State.session, sessionBuffer_congr h, hb]

theorem commitPending_congr {s t : State} (h : t.buffers = s.buffers) (k : SlotId) :
    t.commitPending k = s.commitPending k := by
  simp [State.commitPending, session_congr h]

variable (s : State)

@[simp] theorem setNest_reads (n : NestId) (v : Nest) :
    (∀ k', (s.setNest n v).slot k' = s.slot k') ∧ (∀ k', (s.setNest n v).lot k' = s.lot k') ∧
      (∀ b', (s.setNest n v).buffer b' = s.buffer b') ∧
      (∀ k', (s.setNest n v).sessionBuffer k' = s.sessionBuffer k') ∧
      (∀ k', (s.setNest n v).session k' = s.session k') ∧
      (∀ k', (s.setNest n v).commitPending k' = s.commitPending k') :=
  ⟨slot_congr (by simp), lot_congr (by simp), buffer_congr (by simp), sessionBuffer_congr (by simp),
    session_congr (by simp), commitPending_congr (by simp)⟩

@[simp] theorem modNest_reads (n : NestId) (f : Nest → Nest) :
    (∀ k', (s.modNest n f).slot k' = s.slot k') ∧ (∀ k', (s.modNest n f).lot k' = s.lot k') ∧
      (∀ b', (s.modNest n f).buffer b' = s.buffer b') ∧
      (∀ k', (s.modNest n f).sessionBuffer k' = s.sessionBuffer k') ∧
      (∀ k', (s.modNest n f).session k' = s.session k') ∧
      (∀ k', (s.modNest n f).commitPending k' = s.commitPending k') :=
  ⟨slot_congr (by simp), lot_congr (by simp), buffer_congr (by simp), sessionBuffer_congr (by simp),
    session_congr (by simp), commitPending_congr (by simp)⟩

@[simp] theorem modEngine_reads (n : NestId) (f : Engine → Engine) :
    (∀ k', (s.modEngine n f).slot k' = s.slot k') ∧ (∀ k', (s.modEngine n f).lot k' = s.lot k') ∧
      (∀ b', (s.modEngine n f).buffer b' = s.buffer b') ∧
      (∀ k', (s.modEngine n f).sessionBuffer k' = s.sessionBuffer k') ∧
      (∀ k', (s.modEngine n f).session k' = s.session k') ∧
      (∀ k', (s.modEngine n f).commitPending k' = s.commitPending k') :=
  ⟨slot_congr (by simp), lot_congr (by simp), buffer_congr (by simp), sessionBuffer_congr (by simp),
    session_congr (by simp), commitPending_congr (by simp)⟩

@[simp] theorem modRun_reads (n : NestId) (f : Run → Run) :
    (∀ k', (s.modRun n f).slot k' = s.slot k') ∧ (∀ k', (s.modRun n f).lot k' = s.lot k') ∧
      (∀ b', (s.modRun n f).buffer b' = s.buffer b') ∧ (∀ k', (s.modRun n f).sessionBuffer k' = s.sessionBuffer k') ∧
      (∀ k', (s.modRun n f).session k' = s.session k') ∧
      (∀ k', (s.modRun n f).commitPending k' = s.commitPending k') :=
  ⟨slot_congr (by simp), lot_congr (by simp), buffer_congr (by simp), sessionBuffer_congr (by simp),
    session_congr (by simp), commitPending_congr (by simp)⟩

@[simp] theorem setSlot_reads (k : SlotId) (v : Slot) :
    (∀ n', (s.setSlot k v).nest n' = s.nest n') ∧ (∀ k', (s.setSlot k v).lot k' = s.lot k') ∧
      (∀ b', (s.setSlot k v).buffer b' = s.buffer b') ∧
      (∀ k', (s.setSlot k v).sessionBuffer k' = s.sessionBuffer k') ∧
      (∀ k', (s.setSlot k v).session k' = s.session k') ∧
      (∀ k', (s.setSlot k v).commitPending k' = s.commitPending k') :=
  ⟨nest_congr (by simp), lot_congr (by simp), buffer_congr (by simp), sessionBuffer_congr (by simp),
    session_congr (by simp), commitPending_congr (by simp)⟩

@[simp] theorem modSlot_reads (k : SlotId) (f : Slot → Slot) :
    (∀ n', (s.modSlot k f).nest n' = s.nest n') ∧ (∀ k', (s.modSlot k f).lot k' = s.lot k') ∧
      (∀ b', (s.modSlot k f).buffer b' = s.buffer b') ∧
      (∀ k', (s.modSlot k f).sessionBuffer k' = s.sessionBuffer k') ∧
      (∀ k', (s.modSlot k f).session k' = s.session k') ∧
      (∀ k', (s.modSlot k f).commitPending k' = s.commitPending k') :=
  ⟨nest_congr (by simp), lot_congr (by simp), buffer_congr (by simp), sessionBuffer_congr (by simp),
    session_congr (by simp), commitPending_congr (by simp)⟩

@[simp] theorem setLot_reads (k : SlotId) (v : Option Lot) :
    (∀ n', (s.setLot k v).nest n' = s.nest n') ∧ (∀ k', (s.setLot k v).slot k' = s.slot k') ∧
      (∀ b', (s.setLot k v).buffer b' = s.buffer b') ∧ (∀ k', (s.setLot k v).sessionBuffer k' = s.sessionBuffer k') ∧
      (∀ k', (s.setLot k v).session k' = s.session k') ∧
      (∀ k', (s.setLot k v).commitPending k' = s.commitPending k') :=
  ⟨nest_congr (by simp), slot_congr (by simp), buffer_congr (by simp), sessionBuffer_congr (by simp),
    session_congr (by simp), commitPending_congr (by simp)⟩

@[simp] theorem modLot_reads (k : SlotId) (f : Lot → Lot) :
    (∀ n', (s.modLot k f).nest n' = s.nest n') ∧ (∀ k', (s.modLot k f).slot k' = s.slot k') ∧
      (∀ b', (s.modLot k f).buffer b' = s.buffer b') ∧ (∀ k', (s.modLot k f).sessionBuffer k' = s.sessionBuffer k') ∧
      (∀ k', (s.modLot k f).session k' = s.session k') ∧
      (∀ k', (s.modLot k f).commitPending k' = s.commitPending k') :=
  ⟨nest_congr (by simp), slot_congr (by simp), buffer_congr (by simp), sessionBuffer_congr (by simp),
    session_congr (by simp), commitPending_congr (by simp)⟩

@[simp] theorem setBuffer_reads (b : Fin 2) (v : Option Session) :
    (∀ n', (s.setBuffer b v).nest n' = s.nest n') ∧ (∀ k', (s.setBuffer b v).slot k' = s.slot k') ∧
      (∀ k', (s.setBuffer b v).lot k' = s.lot k') :=
  ⟨nest_congr (by simp), slot_congr (by simp), lot_congr (by simp)⟩

@[simp] theorem modLnk_reads (f : Link → Link) :
    (∀ n', (s.modLnk f).nest n' = s.nest n') ∧ (∀ k', (s.modLnk f).slot k' = s.slot k') ∧
      (∀ k', (s.modLnk f).lot k' = s.lot k') ∧ (∀ b', (s.modLnk f).buffer b' = s.buffer b') ∧
      (∀ k', (s.modLnk f).sessionBuffer k' = s.sessionBuffer k') ∧ (∀ k', (s.modLnk f).session k' = s.session k') ∧
      (∀ k', (s.modLnk f).commitPending k' = s.commitPending k') :=
  ⟨nest_congr (by simp), slot_congr (by simp), lot_congr (by simp), buffer_congr (by simp),
    sessionBuffer_congr (by simp), session_congr (by simp), commitPending_congr (by simp)⟩

@[simp] theorem modNtc_reads (f : Notices → Notices) :
    (∀ n', (s.modNtc f).nest n' = s.nest n') ∧ (∀ k', (s.modNtc f).slot k' = s.slot k') ∧
      (∀ k', (s.modNtc f).lot k' = s.lot k') ∧ (∀ b', (s.modNtc f).buffer b' = s.buffer b') ∧
      (∀ k', (s.modNtc f).sessionBuffer k' = s.sessionBuffer k') ∧ (∀ k', (s.modNtc f).session k' = s.session k') ∧
      (∀ k', (s.modNtc f).commitPending k' = s.commitPending k') :=
  ⟨nest_congr (by simp), slot_congr (by simp), lot_congr (by simp), buffer_congr (by simp),
    sessionBuffer_congr (by simp), session_congr (by simp), commitPending_congr (by simp)⟩

@[simp] theorem modMrk_reads (f : Marking → Marking) :
    (∀ n', (s.modMrk f).nest n' = s.nest n') ∧ (∀ k', (s.modMrk f).slot k' = s.slot k') ∧
      (∀ k', (s.modMrk f).lot k' = s.lot k') ∧ (∀ b', (s.modMrk f).buffer b' = s.buffer b') ∧
      (∀ k', (s.modMrk f).sessionBuffer k' = s.sessionBuffer k') ∧ (∀ k', (s.modMrk f).session k' = s.session k') ∧
      (∀ k', (s.modMrk f).commitPending k' = s.commitPending k') :=
  ⟨nest_congr (by simp), slot_congr (by simp), lot_congr (by simp), buffer_congr (by simp),
    sessionBuffer_congr (by simp), session_congr (by simp), commitPending_congr (by simp)⟩

@[simp] theorem queueReply_reads (m : Msg) :
    (∀ n', (s.queueReply m).nest n' = s.nest n') ∧ (∀ k', (s.queueReply m).slot k' = s.slot k') ∧
      (∀ k', (s.queueReply m).lot k' = s.lot k') ∧ (∀ b', (s.queueReply m).buffer b' = s.buffer b') ∧
      (∀ k', (s.queueReply m).sessionBuffer k' = s.sessionBuffer k') ∧
      (∀ k', (s.queueReply m).session k' = s.session k') ∧
      (∀ k', (s.queueReply m).commitPending k' = s.commitPending k') :=
  ⟨nest_congr (by simp), slot_congr (by simp), lot_congr (by simp), buffer_congr (by simp),
    sessionBuffer_congr (by simp), session_congr (by simp), commitPending_congr (by simp)⟩

@[simp] theorem reply_reads (k : Kind) (scope : BitVec 4) (tag : BitVec 8) (code : ResultCode) (data : List Word) :
    (∀ n', (s.reply k scope tag code data).nest n' = s.nest n') ∧
      (∀ k', (s.reply k scope tag code data).slot k' = s.slot k') ∧
      (∀ k', (s.reply k scope tag code data).lot k' = s.lot k') ∧
      (∀ b', (s.reply k scope tag code data).buffer b' = s.buffer b') ∧
      (∀ k', (s.reply k scope tag code data).sessionBuffer k' = s.sessionBuffer k') ∧
      (∀ k', (s.reply k scope tag code data).session k' = s.session k') ∧
      (∀ k', (s.reply k scope tag code data).commitPending k' = s.commitPending k') :=
  ⟨nest_congr (by simp), slot_congr (by simp), lot_congr (by simp), buffer_congr (by simp),
    sessionBuffer_congr (by simp), session_congr (by simp), commitPending_congr (by simp)⟩

@[simp] theorem admitEvent_reads (e : Event) :
    (∀ n', (s.admitEvent e).nest n' = s.nest n') ∧ (∀ k', (s.admitEvent e).slot k' = s.slot k') ∧
      (∀ k', (s.admitEvent e).lot k' = s.lot k') ∧ (∀ b', (s.admitEvent e).buffer b' = s.buffer b') ∧
      (∀ k', (s.admitEvent e).sessionBuffer k' = s.sessionBuffer k') ∧
      (∀ k', (s.admitEvent e).session k' = s.session k') ∧
      (∀ k', (s.admitEvent e).commitPending k' = s.commitPending k') :=
  ⟨nest_congr (by simp), slot_congr (by simp), lot_congr (by simp), buffer_congr (by simp),
    sessionBuffer_congr (by simp), session_congr (by simp), commitPending_congr (by simp)⟩

@[simp] theorem countOverrun_reads :
    (∀ n', (s.countOverrun).nest n' = s.nest n') ∧ (∀ k', (s.countOverrun).slot k' = s.slot k') ∧
      (∀ k', (s.countOverrun).lot k' = s.lot k') ∧ (∀ b', (s.countOverrun).buffer b' = s.buffer b') ∧
      (∀ k', (s.countOverrun).sessionBuffer k' = s.sessionBuffer k') ∧
      (∀ k', (s.countOverrun).session k' = s.session k') ∧
      (∀ k', (s.countOverrun).commitPending k' = s.commitPending k') :=
  ⟨nest_congr (by simp), slot_congr (by simp), lot_congr (by simp), buffer_congr (by simp),
    sessionBuffer_congr (by simp), session_congr (by simp), commitPending_congr (by simp)⟩

@[simp] theorem admitNotice_reads :
    (∀ n', (s.admitNotice).nest n' = s.nest n') ∧ (∀ k', (s.admitNotice).slot k' = s.slot k') ∧
      (∀ k', (s.admitNotice).lot k' = s.lot k') ∧ (∀ b', (s.admitNotice).buffer b' = s.buffer b') ∧
      (∀ k', (s.admitNotice).sessionBuffer k' = s.sessionBuffer k') ∧
      (∀ k', (s.admitNotice).session k' = s.session k') ∧
      (∀ k', (s.admitNotice).commitPending k' = s.commitPending k') :=
  ⟨nest_congr (by simp), slot_congr (by simp), lot_congr (by simp), buffer_congr (by simp),
    sessionBuffer_congr (by simp), session_congr (by simp), commitPending_congr (by simp)⟩

@[simp] theorem askNotice_reads :
    (∀ n', (s.askNotice).nest n' = s.nest n') ∧ (∀ k', (s.askNotice).slot k' = s.slot k') ∧
      (∀ k', (s.askNotice).lot k' = s.lot k') ∧ (∀ b', (s.askNotice).buffer b' = s.buffer b') ∧
      (∀ k', (s.askNotice).sessionBuffer k' = s.sessionBuffer k') ∧ (∀ k', (s.askNotice).session k' = s.session k') ∧
      (∀ k', (s.askNotice).commitPending k' = s.commitPending k') :=
  ⟨nest_congr (by simp), slot_congr (by simp), lot_congr (by simp), buffer_congr (by simp),
    sessionBuffer_congr (by simp), session_congr (by simp), commitPending_congr (by simp)⟩

@[simp] theorem notifyRising_reads (f : Flag) :
    (∀ n', (s.notifyRising f).nest n' = s.nest n') ∧ (∀ k', (s.notifyRising f).slot k' = s.slot k') ∧
      (∀ k', (s.notifyRising f).lot k' = s.lot k') ∧ (∀ b', (s.notifyRising f).buffer b' = s.buffer b') ∧
      (∀ k', (s.notifyRising f).sessionBuffer k' = s.sessionBuffer k') ∧
      (∀ k', (s.notifyRising f).session k' = s.session k') ∧
      (∀ k', (s.notifyRising f).commitPending k' = s.commitPending k') :=
  ⟨nest_congr (by simp), slot_congr (by simp), lot_congr (by simp), buffer_congr (by simp),
    sessionBuffer_congr (by simp), session_congr (by simp), commitPending_congr (by simp)⟩

@[simp] theorem setFlag_reads (f : Flag) :
    (∀ n', (s.setFlag f).nest n' = s.nest n') ∧ (∀ k', (s.setFlag f).slot k' = s.slot k') ∧
      (∀ k', (s.setFlag f).lot k' = s.lot k') ∧ (∀ b', (s.setFlag f).buffer b' = s.buffer b') ∧
      (∀ k', (s.setFlag f).sessionBuffer k' = s.sessionBuffer k') ∧ (∀ k', (s.setFlag f).session k' = s.session k') ∧
      (∀ k', (s.setFlag f).commitPending k' = s.commitPending k') :=
  ⟨nest_congr (by simp), slot_congr (by simp), lot_congr (by simp), buffer_congr (by simp),
    sessionBuffer_congr (by simp), session_congr (by simp), commitPending_congr (by simp)⟩

@[simp] theorem periodExpiry_reads :
    (∀ n', (s.periodExpiry).nest n' = s.nest n') ∧ (∀ k', (s.periodExpiry).slot k' = s.slot k') ∧
      (∀ k', (s.periodExpiry).lot k' = s.lot k') ∧ (∀ b', (s.periodExpiry).buffer b' = s.buffer b') ∧
      (∀ k', (s.periodExpiry).sessionBuffer k' = s.sessionBuffer k') ∧
      (∀ k', (s.periodExpiry).session k' = s.session k') ∧
      (∀ k', (s.periodExpiry).commitPending k' = s.commitPending k') :=
  ⟨nest_congr (by simp), slot_congr (by simp), lot_congr (by simp), buffer_congr (by simp),
    sessionBuffer_congr (by simp), session_congr (by simp), commitPending_congr (by simp)⟩

@[simp] theorem linkError_reads :
    (∀ n', (s.linkError).nest n' = s.nest n') ∧ (∀ k', (s.linkError).slot k' = s.slot k') ∧
      (∀ k', (s.linkError).lot k' = s.lot k') ∧ (∀ b', (s.linkError).buffer b' = s.buffer b') ∧
      (∀ k', (s.linkError).sessionBuffer k' = s.sessionBuffer k') ∧ (∀ k', (s.linkError).session k' = s.session k') ∧
      (∀ k', (s.linkError).commitPending k' = s.commitPending k') :=
  ⟨nest_congr (by simp), slot_congr (by simp), lot_congr (by simp), buffer_congr (by simp),
    sessionBuffer_congr (by simp), session_congr (by simp), commitPending_congr (by simp)⟩

@[simp] theorem admitProducer_reads (p : Producer) :
    (∀ b', (s.admitProducer p).buffer b' = s.buffer b') ∧
      (∀ k', (s.admitProducer p).sessionBuffer k' = s.sessionBuffer k') ∧
      (∀ k', (s.admitProducer p).session k' = s.session k') ∧
      (∀ k', (s.admitProducer p).commitPending k' = s.commitPending k') :=
  ⟨buffer_congr (by simp), sessionBuffer_congr (by simp), session_congr (by simp), commitPending_congr (by simp)⟩

@[simp] theorem offer_reads (p : Producer) :
    (∀ b', (s.offer p).buffer b' = s.buffer b') ∧ (∀ k', (s.offer p).sessionBuffer k' = s.sessionBuffer k') ∧
      (∀ k', (s.offer p).session k' = s.session k') ∧ (∀ k', (s.offer p).commitPending k' = s.commitPending k') :=
  ⟨buffer_congr (by simp), sessionBuffer_congr (by simp), session_congr (by simp), commitPending_congr (by simp)⟩

@[simp] theorem admitHead_reads :
    (∀ b', (s.admitHead).buffer b' = s.buffer b') ∧ (∀ k', (s.admitHead).sessionBuffer k' = s.sessionBuffer k') ∧
      (∀ k', (s.admitHead).session k' = s.session k') ∧
      (∀ k', (s.admitHead).commitPending k' = s.commitPending k') :=
  ⟨buffer_congr (by simp), sessionBuffer_congr (by simp), session_congr (by simp), commitPending_congr (by simp)⟩

@[simp] theorem drainWaitLine_reads (fuel : Nat) :
    (∀ b', (s.drainWaitLine fuel).buffer b' = s.buffer b') ∧
      (∀ k', (s.drainWaitLine fuel).sessionBuffer k' = s.sessionBuffer k') ∧
      (∀ k', (s.drainWaitLine fuel).session k' = s.session k') ∧
      (∀ k', (s.drainWaitLine fuel).commitPending k' = s.commitPending k') :=
  ⟨buffer_congr (by simp), sessionBuffer_congr (by simp), session_congr (by simp), commitPending_congr (by simp)⟩

@[simp] theorem fillPlaces_reads :
    (∀ b', (s.fillPlaces).buffer b' = s.buffer b') ∧ (∀ k', (s.fillPlaces).sessionBuffer k' = s.sessionBuffer k') ∧
      (∀ k', (s.fillPlaces).session k' = s.session k') ∧
      (∀ k', (s.fillPlaces).commitPending k' = s.commitPending k') :=
  ⟨buffer_congr (by simp), sessionBuffer_congr (by simp), session_congr (by simp), commitPending_congr (by simp)⟩

@[simp] theorem evaluateAlarm_reads (k : SlotId) :
    (∀ n', (s.evaluateAlarm k).nest n' = s.nest n') ∧ (∀ k', (s.evaluateAlarm k).slot k' = s.slot k') ∧
      (∀ b', (s.evaluateAlarm k).buffer b' = s.buffer b') ∧
      (∀ k', (s.evaluateAlarm k).sessionBuffer k' = s.sessionBuffer k') ∧
      (∀ k', (s.evaluateAlarm k).session k' = s.session k') ∧
      (∀ k', (s.evaluateAlarm k).commitPending k' = s.commitPending k') :=
  ⟨nest_congr (by simp), slot_congr (by simp), buffer_congr (by simp), sessionBuffer_congr (by simp),
    session_congr (by simp), commitPending_congr (by simp)⟩

@[simp] theorem finalCount_reads (k : SlotId) (pass : Bool) (classes : ClassSet) :
    (∀ n', (s.finalCount k pass classes).nest n' = s.nest n') ∧
      (∀ k', (s.finalCount k pass classes).slot k' = s.slot k') ∧
      (∀ b', (s.finalCount k pass classes).buffer b' = s.buffer b') ∧
      (∀ k', (s.finalCount k pass classes).sessionBuffer k' = s.sessionBuffer k') ∧
      (∀ k', (s.finalCount k pass classes).session k' = s.session k') ∧
      (∀ k', (s.finalCount k pass classes).commitPending k' = s.commitPending k') :=
  ⟨nest_congr (by simp), slot_congr (by simp), buffer_congr (by simp), sessionBuffer_congr (by simp),
    session_congr (by simp), commitPending_congr (by simp)⟩

@[simp] theorem reportFirst_reads (k : SlotId) :
    (∀ n', (s.reportFirst k).nest n' = s.nest n') ∧ (∀ k', (s.reportFirst k).slot k' = s.slot k') ∧
      (∀ b', (s.reportFirst k).buffer b' = s.buffer b') ∧
      (∀ k', (s.reportFirst k).sessionBuffer k' = s.sessionBuffer k') ∧
      (∀ k', (s.reportFirst k).session k' = s.session k') ∧
      (∀ k', (s.reportFirst k).commitPending k' = s.commitPending k') :=
  ⟨nest_congr (by simp), slot_congr (by simp), buffer_congr (by simp), sessionBuffer_congr (by simp),
    session_congr (by simp), commitPending_congr (by simp)⟩

@[simp] theorem reportReturn_reads (k : SlotId) :
    (∀ n', (s.reportReturn k).nest n' = s.nest n') ∧ (∀ k', (s.reportReturn k).slot k' = s.slot k') ∧
      (∀ b', (s.reportReturn k).buffer b' = s.buffer b') ∧
      (∀ k', (s.reportReturn k).sessionBuffer k' = s.sessionBuffer k') ∧
      (∀ k', (s.reportReturn k).session k' = s.session k') ∧
      (∀ k', (s.reportReturn k).commitPending k' = s.commitPending k') :=
  ⟨nest_congr (by simp), slot_congr (by simp), buffer_congr (by simp), sessionBuffer_congr (by simp),
    session_congr (by simp), commitPending_congr (by simp)⟩

@[simp] theorem reportVerdict_reads (v : VerdictKind) (id : Word) :
    (∀ n', (s.reportVerdict v id).nest n' = s.nest n') ∧ (∀ k', (s.reportVerdict v id).slot k' = s.slot k') ∧
      (∀ b', (s.reportVerdict v id).buffer b' = s.buffer b') ∧
      (∀ k', (s.reportVerdict v id).sessionBuffer k' = s.sessionBuffer k') ∧
      (∀ k', (s.reportVerdict v id).session k' = s.session k') ∧
      (∀ k', (s.reportVerdict v id).commitPending k' = s.commitPending k') :=
  ⟨nest_congr (by simp), slot_congr (by simp), buffer_congr (by simp), sessionBuffer_congr (by simp),
    session_congr (by simp), commitPending_congr (by simp)⟩

@[simp] theorem reportResolution_reads (r : Label) (marked : Bool) :
    (∀ n', (s.reportResolution r marked).nest n' = s.nest n') ∧
      (∀ k', (s.reportResolution r marked).slot k' = s.slot k') ∧
      (∀ b', (s.reportResolution r marked).buffer b' = s.buffer b') ∧
      (∀ k', (s.reportResolution r marked).sessionBuffer k' = s.sessionBuffer k') ∧
      (∀ k', (s.reportResolution r marked).session k' = s.session k') ∧
      (∀ k', (s.reportResolution r marked).commitPending k' = s.commitPending k') :=
  ⟨nest_congr (by simp), slot_congr (by simp), buffer_congr (by simp), sessionBuffer_congr (by simp),
    session_congr (by simp), commitPending_congr (by simp)⟩

@[simp] theorem reportGivenUp_reads (e : RetestEntry) :
    (∀ n', (s.reportGivenUp e).nest n' = s.nest n') ∧ (∀ k', (s.reportGivenUp e).slot k' = s.slot k') ∧
      (∀ b', (s.reportGivenUp e).buffer b' = s.buffer b') ∧
      (∀ k', (s.reportGivenUp e).sessionBuffer k' = s.sessionBuffer k') ∧
      (∀ k', (s.reportGivenUp e).session k' = s.session k') ∧
      (∀ k', (s.reportGivenUp e).commitPending k' = s.commitPending k') :=
  ⟨nest_congr (by simp), slot_congr (by simp), buffer_congr (by simp), sessionBuffer_congr (by simp),
    session_congr (by simp), commitPending_congr (by simp)⟩

@[simp] theorem foldGivenUp_reads (es : List RetestEntry) :
    (∀ n', (es.foldl State.reportGivenUp s).nest n' = s.nest n') ∧
      (∀ k', (es.foldl State.reportGivenUp s).slot k' = s.slot k') ∧
      (∀ b', (es.foldl State.reportGivenUp s).buffer b' = s.buffer b') ∧
      (∀ k', (es.foldl State.reportGivenUp s).sessionBuffer k' = s.sessionBuffer k') ∧
      (∀ k', (es.foldl State.reportGivenUp s).session k' = s.session k') ∧
      (∀ k', (es.foldl State.reportGivenUp s).commitPending k' = s.commitPending k') :=
  ⟨nest_congr (by simp), slot_congr (by simp), buffer_congr (by simp), sessionBuffer_congr (by simp),
    session_congr (by simp), commitPending_congr (by simp)⟩

@[simp] theorem giveUpLot_reads (id : Word) :
    (∀ n', (s.giveUpLot id).nest n' = s.nest n') ∧ (∀ k', (s.giveUpLot id).slot k' = s.slot k') ∧
      (∀ b', (s.giveUpLot id).buffer b' = s.buffer b') ∧
      (∀ k', (s.giveUpLot id).sessionBuffer k' = s.sessionBuffer k') ∧
      (∀ k', (s.giveUpLot id).session k' = s.session k') ∧
      (∀ k', (s.giveUpLot id).commitPending k' = s.commitPending k') :=
  ⟨nest_congr (by simp), slot_congr (by simp), buffer_congr (by simp), sessionBuffer_congr (by simp),
    session_congr (by simp), commitPending_congr (by simp)⟩

@[simp] theorem completeLot_reads (k : SlotId) :
    (∀ n', (s.completeLot k).nest n' = s.nest n') ∧ (∀ k', (s.completeLot k).slot k' = s.slot k') ∧
      (∀ b', (s.completeLot k).buffer b' = s.buffer b') ∧
      (∀ k', (s.completeLot k).sessionBuffer k' = s.sessionBuffer k') ∧
      (∀ k', (s.completeLot k).session k' = s.session k') ∧
      (∀ k', (s.completeLot k).commitPending k' = s.commitPending k') :=
  ⟨nest_congr (by simp), slot_congr (by simp), buffer_congr (by simp), sessionBuffer_congr (by simp),
    session_congr (by simp), commitPending_congr (by simp)⟩

@[simp] theorem completeLots_reads :
    (∀ n', (s.completeLots).nest n' = s.nest n') ∧ (∀ k', (s.completeLots).slot k' = s.slot k') ∧
      (∀ b', (s.completeLots).buffer b' = s.buffer b') ∧
      (∀ k', (s.completeLots).sessionBuffer k' = s.sessionBuffer k') ∧
      (∀ k', (s.completeLots).session k' = s.session k') ∧
      (∀ k', (s.completeLots).commitPending k' = s.commitPending k') :=
  ⟨nest_congr (by simp), slot_congr (by simp), buffer_congr (by simp), sessionBuffer_congr (by simp),
    session_congr (by simp), commitPending_congr (by simp)⟩

@[simp] theorem offerStepResult_reads (n : NestId) :
    (∀ k', (s.offerStepResult n).slot k' = s.slot k') ∧ (∀ k', (s.offerStepResult n).lot k' = s.lot k') ∧
      (∀ b', (s.offerStepResult n).buffer b' = s.buffer b') ∧
      (∀ k', (s.offerStepResult n).sessionBuffer k' = s.sessionBuffer k') ∧
      (∀ k', (s.offerStepResult n).session k' = s.session k') ∧
      (∀ k', (s.offerStepResult n).commitPending k' = s.commitPending k') :=
  ⟨slot_congr (by simp), lot_congr (by simp), buffer_congr (by simp), sessionBuffer_congr (by simp),
    session_congr (by simp), commitPending_congr (by simp)⟩

@[simp] theorem offerNest_reads (n : NestId) :
    (∀ b', (s.offerNest n).buffer b' = s.buffer b') ∧ (∀ k', (s.offerNest n).sessionBuffer k' = s.sessionBuffer k') ∧
      (∀ k', (s.offerNest n).session k' = s.session k') ∧
      (∀ k', (s.offerNest n).commitPending k' = s.commitPending k') :=
  ⟨buffer_congr (by simp), sessionBuffer_congr (by simp), session_congr (by simp), commitPending_congr (by simp)⟩

@[simp] theorem offerRefDone_reads (k : SlotId) :
    (∀ b', (s.offerRefDone k).buffer b' = s.buffer b') ∧
      (∀ k', (s.offerRefDone k).sessionBuffer k' = s.sessionBuffer k') ∧
      (∀ k', (s.offerRefDone k).session k' = s.session k') ∧
      (∀ k', (s.offerRefDone k).commitPending k' = s.commitPending k') :=
  ⟨buffer_congr (by simp), sessionBuffer_congr (by simp), session_congr (by simp), commitPending_congr (by simp)⟩

@[simp] theorem offerSummary_reads (k : SlotId) :
    (∀ b', (s.offerSummary k).buffer b' = s.buffer b') ∧
      (∀ k', (s.offerSummary k).sessionBuffer k' = s.sessionBuffer k') ∧
      (∀ k', (s.offerSummary k).session k' = s.session k') ∧
      (∀ k', (s.offerSummary k).commitPending k' = s.commitPending k') :=
  ⟨buffer_congr (by simp), sessionBuffer_congr (by simp), session_congr (by simp), commitPending_congr (by simp)⟩

@[simp] theorem makeOffers_reads :
    (∀ b', (s.makeOffers).buffer b' = s.buffer b') ∧ (∀ k', (s.makeOffers).sessionBuffer k' = s.sessionBuffer k') ∧
      (∀ k', (s.makeOffers).session k' = s.session k') ∧
      (∀ k', (s.makeOffers).commitPending k' = s.commitPending k') :=
  ⟨buffer_congr (by simp), sessionBuffer_congr (by simp), session_congr (by simp), commitPending_congr (by simp)⟩

@[simp] theorem endEvent_reads :
    (∀ b', (s.endEvent).buffer b' = s.buffer b') ∧ (∀ k', (s.endEvent).sessionBuffer k' = s.sessionBuffer k') ∧
      (∀ k', (s.endEvent).session k' = s.session k') ∧ (∀ k', (s.endEvent).commitPending k' = s.commitPending k') :=
  ⟨buffer_congr (by simp), sessionBuffer_congr (by simp), session_congr (by simp), commitPending_congr (by simp)⟩

@[simp] theorem resolveLabel_reads (i : Nat) (marked fault : Bool) :
    (∀ n', (s.resolveLabel i marked fault).nest n' = s.nest n') ∧
      (∀ k', (s.resolveLabel i marked fault).slot k' = s.slot k') ∧
      (∀ b', (s.resolveLabel i marked fault).buffer b' = s.buffer b') ∧
      (∀ k', (s.resolveLabel i marked fault).sessionBuffer k' = s.sessionBuffer k') ∧
      (∀ k', (s.resolveLabel i marked fault).session k' = s.session k') ∧
      (∀ k', (s.resolveLabel i marked fault).commitPending k' = s.commitPending k') :=
  ⟨nest_congr (by simp), slot_congr (by simp), buffer_congr (by simp), sessionBuffer_congr (by simp),
    session_congr (by simp), commitPending_congr (by simp)⟩

@[simp] theorem resolveIssued_reads (marked : Bool) :
    (∀ n', (s.resolveIssued marked).nest n' = s.nest n') ∧ (∀ k', (s.resolveIssued marked).slot k' = s.slot k') ∧
      (∀ b', (s.resolveIssued marked).buffer b' = s.buffer b') ∧
      (∀ k', (s.resolveIssued marked).sessionBuffer k' = s.sessionBuffer k') ∧
      (∀ k', (s.resolveIssued marked).session k' = s.session k') ∧
      (∀ k', (s.resolveIssued marked).commitPending k' = s.commitPending k') :=
  ⟨nest_congr (by simp), slot_congr (by simp), buffer_congr (by simp), sessionBuffer_congr (by simp),
    session_congr (by simp), commitPending_congr (by simp)⟩

@[simp] theorem makeRoom_reads :
    (∀ n', (s.makeRoom).nest n' = s.nest n') ∧ (∀ k', (s.makeRoom).slot k' = s.slot k') ∧
      (∀ b', (s.makeRoom).buffer b' = s.buffer b') ∧ (∀ k', (s.makeRoom).sessionBuffer k' = s.sessionBuffer k') ∧
      (∀ k', (s.makeRoom).session k' = s.session k') ∧ (∀ k', (s.makeRoom).commitPending k' = s.commitPending k') :=
  ⟨nest_congr (by simp), slot_congr (by simp), buffer_congr (by simp), sessionBuffer_congr (by simp),
    session_congr (by simp), commitPending_congr (by simp)⟩

@[simp] theorem createLabel_reads (r : Label) :
    (∀ n', (s.createLabel r).nest n' = s.nest n') ∧ (∀ k', (s.createLabel r).slot k' = s.slot k') ∧
      (∀ b', (s.createLabel r).buffer b' = s.buffer b') ∧
      (∀ k', (s.createLabel r).sessionBuffer k' = s.sessionBuffer k') ∧
      (∀ k', (s.createLabel r).session k' = s.session k') ∧
      (∀ k', (s.createLabel r).commitPending k' = s.commitPending k') :=
  ⟨nest_congr (by simp), slot_congr (by simp), buffer_congr (by simp), sessionBuffer_congr (by simp),
    session_congr (by simp), commitPending_congr (by simp)⟩

@[simp] theorem requestRising_reads (n : NestId) :
    (∀ n', (s.requestRising n).nest n' = s.nest n') ∧ (∀ k', (s.requestRising n).slot k' = s.slot k') ∧
      (∀ b', (s.requestRising n).buffer b' = s.buffer b') ∧
      (∀ k', (s.requestRising n).sessionBuffer k' = s.sessionBuffer k') ∧
      (∀ k', (s.requestRising n).session k' = s.session k') ∧
      (∀ k', (s.requestRising n).commitPending k' = s.commitPending k') :=
  ⟨nest_congr (by simp), slot_congr (by simp), buffer_congr (by simp), sessionBuffer_congr (by simp),
    session_congr (by simp), commitPending_congr (by simp)⟩

@[simp] theorem requestFalling_reads :
    (∀ n', (s.requestFalling).nest n' = s.nest n') ∧ (∀ k', (s.requestFalling).slot k' = s.slot k') ∧
      (∀ k', (s.requestFalling).lot k' = s.lot k') ∧ (∀ b', (s.requestFalling).buffer b' = s.buffer b') ∧
      (∀ k', (s.requestFalling).sessionBuffer k' = s.sessionBuffer k') ∧
      (∀ k', (s.requestFalling).session k' = s.session k') ∧
      (∀ k', (s.requestFalling).commitPending k' = s.commitPending k') :=
  ⟨nest_congr (by simp), slot_congr (by simp), lot_congr (by simp), buffer_congr (by simp),
    sessionBuffer_congr (by simp), session_congr (by simp), commitPending_congr (by simp)⟩

@[simp] theorem strayResult_reads :
    (∀ n', (s.strayResult).nest n' = s.nest n') ∧ (∀ k', (s.strayResult).slot k' = s.slot k') ∧
      (∀ k', (s.strayResult).lot k' = s.lot k') ∧ (∀ b', (s.strayResult).buffer b' = s.buffer b') ∧
      (∀ k', (s.strayResult).sessionBuffer k' = s.sessionBuffer k') ∧
      (∀ k', (s.strayResult).session k' = s.session k') ∧
      (∀ k', (s.strayResult).commitPending k' = s.commitPending k') :=
  ⟨nest_congr (by simp), slot_congr (by simp), lot_congr (by simp), buffer_congr (by simp),
    sessionBuffer_congr (by simp), session_congr (by simp), commitPending_congr (by simp)⟩

@[simp] theorem markedRising_reads :
    (∀ n', (s.markedRising).nest n' = s.nest n') ∧ (∀ k', (s.markedRising).slot k' = s.slot k') ∧
      (∀ b', (s.markedRising).buffer b' = s.buffer b') ∧
      (∀ k', (s.markedRising).sessionBuffer k' = s.sessionBuffer k') ∧
      (∀ k', (s.markedRising).session k' = s.session k') ∧
      (∀ k', (s.markedRising).commitPending k' = s.commitPending k') :=
  ⟨nest_congr (by simp), slot_congr (by simp), buffer_congr (by simp), sessionBuffer_congr (by simp),
    session_congr (by simp), commitPending_congr (by simp)⟩

@[simp] theorem jamRising_reads :
    (∀ n', (s.jamRising).nest n' = s.nest n') ∧ (∀ k', (s.jamRising).slot k' = s.slot k') ∧
      (∀ b', (s.jamRising).buffer b' = s.buffer b') ∧ (∀ k', (s.jamRising).sessionBuffer k' = s.sessionBuffer k') ∧
      (∀ k', (s.jamRising).session k' = s.session k') ∧
      (∀ k', (s.jamRising).commitPending k' = s.commitPending k') :=
  ⟨nest_congr (by simp), slot_congr (by simp), buffer_congr (by simp), sessionBuffer_congr (by simp),
    session_congr (by simp), commitPending_congr (by simp)⟩

@[simp] theorem expireLabel_reads (i : Nat) :
    (∀ n', (s.expireLabel i).nest n' = s.nest n') ∧ (∀ k', (s.expireLabel i).slot k' = s.slot k') ∧
      (∀ b', (s.expireLabel i).buffer b' = s.buffer b') ∧
      (∀ k', (s.expireLabel i).sessionBuffer k' = s.sessionBuffer k') ∧
      (∀ k', (s.expireLabel i).session k' = s.session k') ∧
      (∀ k', (s.expireLabel i).commitPending k' = s.commitPending k') :=
  ⟨nest_congr (by simp), slot_congr (by simp), buffer_congr (by simp), sessionBuffer_congr (by simp),
    session_congr (by simp), commitPending_congr (by simp)⟩

@[simp] theorem clearBounds_reads (k : SlotId) :
    (∀ k', (s.clearBounds k).slot k' = s.slot k') ∧ (∀ k', (s.clearBounds k).lot k' = s.lot k') ∧
      (∀ b', (s.clearBounds k).buffer b' = s.buffer b') ∧
      (∀ k', (s.clearBounds k).sessionBuffer k' = s.sessionBuffer k') ∧
      (∀ k', (s.clearBounds k).session k' = s.session k') ∧
      (∀ k', (s.clearBounds k).commitPending k' = s.commitPending k') :=
  ⟨slot_congr (by simp), lot_congr (by simp), buffer_congr (by simp), sessionBuffer_congr (by simp),
    session_congr (by simp), commitPending_congr (by simp)⟩

@[simp] theorem produceRefDone_reads (k : SlotId) (o : RefOutcome) (target count : Nat) :
    (∀ n', (s.produceRefDone k o target count).nest n' = s.nest n') ∧
      (∀ k', (s.produceRefDone k o target count).lot k' = s.lot k') ∧
      (∀ b', (s.produceRefDone k o target count).buffer b' = s.buffer b') ∧
      (∀ k', (s.produceRefDone k o target count).sessionBuffer k' = s.sessionBuffer k') ∧
      (∀ k', (s.produceRefDone k o target count).session k' = s.session k') ∧
      (∀ k', (s.produceRefDone k o target count).commitPending k' = s.commitPending k') :=
  ⟨nest_congr (by simp), lot_congr (by simp), buffer_congr (by simp), sessionBuffer_congr (by simp),
    session_congr (by simp), commitPending_congr (by simp)⟩

@[simp] theorem cancelCapture_reads (k : SlotId) (o : RefOutcome) :
    (∀ k', (s.cancelCapture k o).lot k' = s.lot k') ∧ (∀ b', (s.cancelCapture k o).buffer b' = s.buffer b') ∧
      (∀ k', (s.cancelCapture k o).sessionBuffer k' = s.sessionBuffer k') ∧
      (∀ k', (s.cancelCapture k o).session k' = s.session k') ∧
      (∀ k', (s.cancelCapture k o).commitPending k' = s.commitPending k') :=
  ⟨lot_congr (by simp), buffer_congr (by simp), sessionBuffer_congr (by simp), session_congr (by simp),
    commitPending_congr (by simp)⟩

@[simp] theorem addToCapture_reads (k : SlotId) (values : List Level) :
    (∀ k', (s.addToCapture k values).lot k' = s.lot k') ∧ (∀ b', (s.addToCapture k values).buffer b' = s.buffer b') ∧
      (∀ k', (s.addToCapture k values).sessionBuffer k' = s.sessionBuffer k') ∧
      (∀ k', (s.addToCapture k values).session k' = s.session k') ∧
      (∀ k', (s.addToCapture k values).commitPending k' = s.commitPending k') :=
  ⟨lot_congr (by simp), buffer_congr (by simp), sessionBuffer_congr (by simp), session_congr (by simp),
    commitPending_congr (by simp)⟩

@[simp] theorem offerCapture_reads (r : Run) :
    (∀ k', (s.offerCapture r).lot k' = s.lot k') ∧ (∀ b', (s.offerCapture r).buffer b' = s.buffer b') ∧
      (∀ k', (s.offerCapture r).sessionBuffer k' = s.sessionBuffer k') ∧
      (∀ k', (s.offerCapture r).session k' = s.session k') ∧
      (∀ k', (s.offerCapture r).commitPending k' = s.commitPending k') :=
  ⟨lot_congr (by simp), buffer_congr (by simp), sessionBuffer_congr (by simp), session_congr (by simp),
    commitPending_congr (by simp)⟩

@[simp] theorem promote_reads (k : SlotId) :
    (∀ n', (s.promote k).nest n' = s.nest n') ∧ (∀ k', (s.promote k).lot k' = s.lot k') ∧
      (∀ b', (s.promote k).buffer b' = s.buffer b') ∧ (∀ k', (s.promote k).sessionBuffer k' = s.sessionBuffer k') ∧
      (∀ k', (s.promote k).session k' = s.session k') ∧
      (∀ k', (s.promote k).commitPending k' = s.commitPending k') :=
  ⟨nest_congr (by simp), lot_congr (by simp), buffer_congr (by simp), sessionBuffer_congr (by simp),
    session_congr (by simp), commitPending_congr (by simp)⟩

@[simp] theorem occupy_reads (k : SlotId) :
    (∀ n', (s.occupy k).nest n' = s.nest n') ∧ (∀ k', (s.occupy k).lot k' = s.lot k') ∧
      (∀ b', (s.occupy k).buffer b' = s.buffer b') ∧ (∀ k', (s.occupy k).sessionBuffer k' = s.sessionBuffer k') ∧
      (∀ k', (s.occupy k).session k' = s.session k') ∧ (∀ k', (s.occupy k).commitPending k' = s.commitPending k') :=
  ⟨nest_congr (by simp), lot_congr (by simp), buffer_congr (by simp), sessionBuffer_congr (by simp),
    session_congr (by simp), commitPending_congr (by simp)⟩

@[simp] theorem evictRetest_reads :
    (∀ n', (s.evictRetest).nest n' = s.nest n') ∧ (∀ k', (s.evictRetest).slot k' = s.slot k') ∧
      (∀ b', (s.evictRetest).buffer b' = s.buffer b') ∧
      (∀ k', (s.evictRetest).sessionBuffer k' = s.sessionBuffer k') ∧
      (∀ k', (s.evictRetest).session k' = s.session k') ∧
      (∀ k', (s.evictRetest).commitPending k' = s.commitPending k') :=
  ⟨nest_congr (by simp), slot_congr (by simp), buffer_congr (by simp), sessionBuffer_congr (by simp),
    session_congr (by simp), commitPending_congr (by simp)⟩

@[simp] theorem addRetest_reads (r : Run) (classes : ClassSet) :
    (∀ n', (s.addRetest r classes).nest n' = s.nest n') ∧ (∀ k', (s.addRetest r classes).slot k' = s.slot k') ∧
      (∀ b', (s.addRetest r classes).buffer b' = s.buffer b') ∧
      (∀ k', (s.addRetest r classes).sessionBuffer k' = s.sessionBuffer k') ∧
      (∀ k', (s.addRetest r classes).session k' = s.session k') ∧
      (∀ k', (s.addRetest r classes).commitPending k' = s.commitPending k') :=
  ⟨nest_congr (by simp), slot_congr (by simp), buffer_congr (by simp), sessionBuffer_congr (by simp),
    session_congr (by simp), commitPending_congr (by simp)⟩

@[simp] theorem recordVerdict_reads (n : NestId) (r : Run) (v : VerdictKind) (classes : ClassSet) (g : LabelField) :
    (∀ n', (s.recordVerdict n r v classes g).nest n' = s.nest n') ∧
      (∀ k', (s.recordVerdict n r v classes g).slot k' = s.slot k') ∧
      (∀ b', (s.recordVerdict n r v classes g).buffer b' = s.buffer b') ∧
      (∀ k', (s.recordVerdict n r v classes g).sessionBuffer k' = s.sessionBuffer k') ∧
      (∀ k', (s.recordVerdict n r v classes g).session k' = s.session k') ∧
      (∀ k', (s.recordVerdict n r v classes g).commitPending k' = s.commitPending k') :=
  ⟨nest_congr (by simp), slot_congr (by simp), buffer_congr (by simp), sessionBuffer_congr (by simp),
    session_congr (by simp), commitPending_congr (by simp)⟩

@[simp] theorem formVerdict_reads (n : NestId) :
    (∀ b', (s.formVerdict n).buffer b' = s.buffer b') ∧
      (∀ k', (s.formVerdict n).sessionBuffer k' = s.sessionBuffer k') ∧
      (∀ k', (s.formVerdict n).session k' = s.session k') ∧
      (∀ k', (s.formVerdict n).commitPending k' = s.commitPending k') :=
  ⟨buffer_congr (by simp), sessionBuffer_congr (by simp), session_congr (by simp), commitPending_congr (by simp)⟩

@[simp] theorem markEnd_reads (n : NestId) (cause : EndCause) :
    (∀ k', (s.markEnd n cause).slot k' = s.slot k') ∧ (∀ k', (s.markEnd n cause).lot k' = s.lot k') ∧
      (∀ b', (s.markEnd n cause).buffer b' = s.buffer b') ∧
      (∀ k', (s.markEnd n cause).sessionBuffer k' = s.sessionBuffer k') ∧
      (∀ k', (s.markEnd n cause).session k' = s.session k') ∧
      (∀ k', (s.markEnd n cause).commitPending k' = s.commitPending k') :=
  ⟨slot_congr (by simp), lot_congr (by simp), buffer_congr (by simp), sessionBuffer_congr (by simp),
    session_congr (by simp), commitPending_congr (by simp)⟩

@[simp] theorem addContact_reads (n : NestId) :
    (∀ k', (s.addContact n).slot k' = s.slot k') ∧ (∀ k', (s.addContact n).lot k' = s.lot k') ∧
      (∀ b', (s.addContact n).buffer b' = s.buffer b') ∧
      (∀ k', (s.addContact n).sessionBuffer k' = s.sessionBuffer k') ∧
      (∀ k', (s.addContact n).session k' = s.session k') ∧
      (∀ k', (s.addContact n).commitPending k' = s.commitPending k') :=
  ⟨slot_congr (by simp), lot_congr (by simp), buffer_congr (by simp), sessionBuffer_congr (by simp),
    session_congr (by simp), commitPending_congr (by simp)⟩

@[simp] theorem addDisturbed_reads (n : NestId) :
    (∀ k', (s.addDisturbed n).slot k' = s.slot k') ∧ (∀ k', (s.addDisturbed n).lot k' = s.lot k') ∧
      (∀ b', (s.addDisturbed n).buffer b' = s.buffer b') ∧
      (∀ k', (s.addDisturbed n).sessionBuffer k' = s.sessionBuffer k') ∧
      (∀ k', (s.addDisturbed n).session k' = s.session k') ∧
      (∀ k', (s.addDisturbed n).commitPending k' = s.commitPending k') :=
  ⟨slot_congr (by simp), lot_congr (by simp), buffer_congr (by simp), sessionBuffer_congr (by simp),
    session_congr (by simp), commitPending_congr (by simp)⟩

@[simp] theorem fadeEnded_reads (n : NestId) :
    (∀ k', (s.fadeEnded n).slot k' = s.slot k') ∧ (∀ k', (s.fadeEnded n).lot k' = s.lot k') ∧
      (∀ b', (s.fadeEnded n).buffer b' = s.buffer b') ∧
      (∀ k', (s.fadeEnded n).sessionBuffer k' = s.sessionBuffer k') ∧
      (∀ k', (s.fadeEnded n).session k' = s.session k') ∧
      (∀ k', (s.fadeEnded n).commitPending k' = s.commitPending k') :=
  ⟨slot_congr (by simp), lot_congr (by simp), buffer_congr (by simp), sessionBuffer_congr (by simp),
    session_congr (by simp), commitPending_congr (by simp)⟩

@[simp] theorem decideWindow_reads (n : NestId) :
    (∀ k', (s.decideWindow n).slot k' = s.slot k') ∧ (∀ k', (s.decideWindow n).lot k' = s.lot k') ∧
      (∀ b', (s.decideWindow n).buffer b' = s.buffer b') ∧
      (∀ k', (s.decideWindow n).sessionBuffer k' = s.sessionBuffer k') ∧
      (∀ k', (s.decideWindow n).session k' = s.session k') ∧
      (∀ k', (s.decideWindow n).commitPending k' = s.commitPending k') :=
  ⟨slot_congr (by simp), lot_congr (by simp), buffer_congr (by simp), sessionBuffer_congr (by simp),
    session_congr (by simp), commitPending_congr (by simp)⟩

@[simp] theorem traceWindow_reads (n : NestId) (m : Measures) (o : StepOutcome) (cause : Nat) :
    (∀ k', (s.traceWindow n m o cause).slot k' = s.slot k') ∧ (∀ k', (s.traceWindow n m o cause).lot k' = s.lot k') ∧
      (∀ b', (s.traceWindow n m o cause).buffer b' = s.buffer b') ∧
      (∀ k', (s.traceWindow n m o cause).sessionBuffer k' = s.sessionBuffer k') ∧
      (∀ k', (s.traceWindow n m o cause).session k' = s.session k') ∧
      (∀ k', (s.traceWindow n m o cause).commitPending k' = s.commitPending k') :=
  ⟨slot_congr (by simp), lot_congr (by simp), buffer_congr (by simp), sessionBuffer_congr (by simp),
    session_congr (by simp), commitPending_congr (by simp)⟩

@[simp] theorem endDwell_reads (n : NestId) :
    (∀ k', (s.endDwell n).slot k' = s.slot k') ∧ (∀ k', (s.endDwell n).lot k' = s.lot k') ∧
      (∀ b', (s.endDwell n).buffer b' = s.buffer b') ∧ (∀ k', (s.endDwell n).sessionBuffer k' = s.sessionBuffer k') ∧
      (∀ k', (s.endDwell n).session k' = s.session k') ∧
      (∀ k', (s.endDwell n).commitPending k' = s.commitPending k') :=
  ⟨slot_congr (by simp), lot_congr (by simp), buffer_congr (by simp), sessionBuffer_congr (by simp),
    session_congr (by simp), commitPending_congr (by simp)⟩

@[simp] theorem endStepFade_reads (n : NestId) :
    (∀ k', (s.endStepFade n).slot k' = s.slot k') ∧ (∀ k', (s.endStepFade n).lot k' = s.lot k') ∧
      (∀ b', (s.endStepFade n).buffer b' = s.buffer b') ∧
      (∀ k', (s.endStepFade n).sessionBuffer k' = s.sessionBuffer k') ∧
      (∀ k', (s.endStepFade n).session k' = s.session k') ∧
      (∀ k', (s.endStepFade n).commitPending k' = s.commitPending k') :=
  ⟨slot_congr (by simp), lot_congr (by simp), buffer_congr (by simp), sessionBuffer_congr (by simp),
    session_congr (by simp), commitPending_congr (by simp)⟩

@[simp] theorem analyseFrame_reads (n : NestId) (inp : FrameInput) :
    (∀ k', (s.analyseFrame n inp).slot k' = s.slot k') ∧ (∀ k', (s.analyseFrame n inp).lot k' = s.lot k') ∧
      (∀ b', (s.analyseFrame n inp).buffer b' = s.buffer b') ∧
      (∀ k', (s.analyseFrame n inp).sessionBuffer k' = s.sessionBuffer k') ∧
      (∀ k', (s.analyseFrame n inp).session k' = s.session k') ∧
      (∀ k', (s.analyseFrame n inp).commitPending k' = s.commitPending k') :=
  ⟨slot_congr (by simp), lot_congr (by simp), buffer_congr (by simp), sessionBuffer_congr (by simp),
    session_congr (by simp), commitPending_congr (by simp)⟩

@[simp] theorem becomeRunning_reads (n : NestId) (cause : StartCause) :
    (∀ k', (s.becomeRunning n cause).slot k' = s.slot k') ∧ (∀ k', (s.becomeRunning n cause).lot k' = s.lot k') ∧
      (∀ b', (s.becomeRunning n cause).buffer b' = s.buffer b') ∧
      (∀ k', (s.becomeRunning n cause).sessionBuffer k' = s.sessionBuffer k') ∧
      (∀ k', (s.becomeRunning n cause).session k' = s.session k') ∧
      (∀ k', (s.becomeRunning n cause).commitPending k' = s.commitPending k') :=
  ⟨slot_congr (by simp), lot_congr (by simp), buffer_congr (by simp), sessionBuffer_congr (by simp),
    session_congr (by simp), commitPending_congr (by simp)⟩

@[simp] theorem arm_reads (n : NestId) :
    (∀ k', (s.arm n).slot k' = s.slot k') ∧ (∀ k', (s.arm n).lot k' = s.lot k') ∧
      (∀ b', (s.arm n).buffer b' = s.buffer b') ∧ (∀ k', (s.arm n).sessionBuffer k' = s.sessionBuffer k') ∧
      (∀ k', (s.arm n).session k' = s.session k') ∧ (∀ k', (s.arm n).commitPending k' = s.commitPending k') :=
  ⟨slot_congr (by simp), lot_congr (by simp), buffer_congr (by simp), sessionBuffer_congr (by simp),
    session_congr (by simp), commitPending_congr (by simp)⟩

@[simp] theorem enterRun_reads (n : NestId) (k : SlotId) :
    (∀ k', (s.enterRun n k).lot k' = s.lot k') ∧ (∀ b', (s.enterRun n k).buffer b' = s.buffer b') ∧
      (∀ k', (s.enterRun n k).sessionBuffer k' = s.sessionBuffer k') ∧
      (∀ k', (s.enterRun n k).session k' = s.session k') ∧
      (∀ k', (s.enterRun n k).commitPending k' = s.commitPending k') :=
  ⟨lot_congr (by simp), buffer_congr (by simp), sessionBuffer_congr (by simp), session_congr (by simp),
    commitPending_congr (by simp)⟩

@[simp] theorem lookupRetest_reads (k : SlotId) (serial : BitVec 48) :
    (∀ n', ((s.lookupRetest k serial).2).nest n' = s.nest n') ∧
      (∀ k', ((s.lookupRetest k serial).2).slot k' = s.slot k') ∧
      (∀ b', ((s.lookupRetest k serial).2).buffer b' = s.buffer b') ∧
      (∀ k', ((s.lookupRetest k serial).2).sessionBuffer k' = s.sessionBuffer k') ∧
      (∀ k', ((s.lookupRetest k serial).2).session k' = s.session k') ∧
      (∀ k', ((s.lookupRetest k serial).2).commitPending k' = s.commitPending k') :=
  ⟨nest_congr (by simp), slot_congr (by simp), buffer_congr (by simp), sessionBuffer_congr (by simp),
    session_congr (by simp), commitPending_congr (by simp)⟩

@[simp] theorem startRun_reads (n : NestId) (k : SlotId) (r : StartRequest) :
    (∀ b', (s.startRun n k r).buffer b' = s.buffer b') ∧
      (∀ k', (s.startRun n k r).sessionBuffer k' = s.sessionBuffer k') ∧
      (∀ k', (s.startRun n k r).session k' = s.session k') ∧
      (∀ k', (s.startRun n k r).commitPending k' = s.commitPending k') :=
  ⟨buffer_congr (by simp), sessionBuffer_congr (by simp), session_congr (by simp), commitPending_congr (by simp)⟩

@[simp] theorem seatClosed_reads (n : NestId) :
    (∀ k', (s.seatClosed n).slot k' = s.slot k') ∧ (∀ k', (s.seatClosed n).lot k' = s.lot k') ∧
      (∀ b', (s.seatClosed n).buffer b' = s.buffer b') ∧
      (∀ k', (s.seatClosed n).sessionBuffer k' = s.sessionBuffer k') ∧
      (∀ k', (s.seatClosed n).session k' = s.session k') ∧
      (∀ k', (s.seatClosed n).commitPending k' = s.commitPending k') :=
  ⟨slot_congr (by simp), lot_congr (by simp), buffer_congr (by simp), sessionBuffer_congr (by simp),
    session_congr (by simp), commitPending_congr (by simp)⟩

@[simp] theorem turnLoud_reads :
    (∀ n', (s.turnLoud).nest n' = s.nest n') ∧ (∀ k', (s.turnLoud).slot k' = s.slot k') ∧
      (∀ k', (s.turnLoud).lot k' = s.lot k') ∧ (∀ b', (s.turnLoud).buffer b' = s.buffer b') ∧
      (∀ k', (s.turnLoud).sessionBuffer k' = s.sessionBuffer k') ∧ (∀ k', (s.turnLoud).session k' = s.session k') ∧
      (∀ k', (s.turnLoud).commitPending k' = s.commitPending k') :=
  ⟨nest_congr (by simp), slot_congr (by simp), lot_congr (by simp), buffer_congr (by simp),
    sessionBuffer_congr (by simp), session_congr (by simp), commitPending_congr (by simp)⟩

@[simp] theorem turnQuiet_reads :
    (∀ n', (s.turnQuiet).nest n' = s.nest n') ∧ (∀ k', (s.turnQuiet).slot k' = s.slot k') ∧
      (∀ k', (s.turnQuiet).lot k' = s.lot k') ∧ (∀ b', (s.turnQuiet).buffer b' = s.buffer b') ∧
      (∀ k', (s.turnQuiet).sessionBuffer k' = s.sessionBuffer k') ∧ (∀ k', (s.turnQuiet).session k' = s.session k') ∧
      (∀ k', (s.turnQuiet).commitPending k' = s.commitPending k') :=
  ⟨nest_congr (by simp), slot_congr (by simp), lot_congr (by simp), buffer_congr (by simp),
    sessionBuffer_congr (by simp), session_congr (by simp), commitPending_congr (by simp)⟩

@[simp] theorem countFrame_reads (b : Bool) :
    (∀ n', (s.countFrame b).nest n' = s.nest n') ∧ (∀ k', (s.countFrame b).slot k' = s.slot k') ∧
      (∀ k', (s.countFrame b).lot k' = s.lot k') ∧ (∀ b', (s.countFrame b).buffer b' = s.buffer b') ∧
      (∀ k', (s.countFrame b).sessionBuffer k' = s.sessionBuffer k') ∧
      (∀ k', (s.countFrame b).session k' = s.session k') ∧
      (∀ k', (s.countFrame b).commitPending k' = s.commitPending k') :=
  ⟨nest_congr (by simp), slot_congr (by simp), lot_congr (by simp), buffer_congr (by simp),
    sessionBuffer_congr (by simp), session_congr (by simp), commitPending_congr (by simp)⟩

@[simp] theorem hearFrame_reads (c : Channel) :
    (∀ n', (s.hearFrame c).nest n' = s.nest n') ∧ (∀ k', (s.hearFrame c).slot k' = s.slot k') ∧
      (∀ k', (s.hearFrame c).lot k' = s.lot k') ∧ (∀ b', (s.hearFrame c).buffer b' = s.buffer b') ∧
      (∀ k', (s.hearFrame c).sessionBuffer k' = s.sessionBuffer k') ∧
      (∀ k', (s.hearFrame c).session k' = s.session k') ∧
      (∀ k', (s.hearFrame c).commitPending k' = s.commitPending k') :=
  ⟨nest_congr (by simp), slot_congr (by simp), lot_congr (by simp), buffer_congr (by simp),
    sessionBuffer_congr (by simp), session_congr (by simp), commitPending_congr (by simp)⟩

end Sys2Proof.Machine
end

