-- ==== Sys2Proof/Laws/Lots.lean ====
section
/-! SUPPORT. What a final count does to the lots (R163, R167): the counted lot gets its classes and its outcome, the
others stay; and what giving up an entry does. -/

namespace Sys2Proof.Machine

variable (s : State)

/-- The alarm touches only whether a lot is tripped. -/
theorem evaluateAlarm_lot (k j : SlotId) (l : Lot) (h : s.lot j = some l) :
    ∃ b, (s.evaluateAlarm k).lot j = some { l with tripped := b } := by
  have keep : ∃ b, s.lot j = some { l with tripped := b } := ⟨l.tripped, h⟩
  have put : ∀ (t : State) (b : Bool), (∀ i, t.lot i = s.lot i) →
      ∃ c, (t.modLot k fun x => { x with tripped := b }).lot j = some { l with tripped := c } := by
    intro t b ht
    by_cases hk : k = j
    · subst hk
      exact ⟨b, by simp [ht, h]⟩
    · exact ⟨l.tripped, by simp [ht, h, hk]⟩
  simp only [State.evaluateAlarm]
  (repeat' split)
  · exact keep
  · exact put s false fun _ => rfl
  · exact keep
  · simpa using put s true fun _ => rfl
  · exact keep

theorem evaluateAlarm_none (k j : SlotId) (h : s.lot j = none) : (s.evaluateAlarm k).lot j = none := by
  simp only [State.evaluateAlarm]
  have put : ∀ f : Lot → Lot, (s.modLot k f).lot j = none := by
    intro f
    rw [lot_modLot]
    split
    · rename_i hk
      rw [hk, h, Option.map_none]
    · exact h
  (repeat' split) <;> simp [h, put]

/-- A final count: classes, rolling window and alarm of its own lot, and no other lot but for its alarm. -/
theorem finalCount_lot (k j : SlotId) (pass : Bool) (classes : ClassSet) (l : Lot) (h : s.lot j = some l) :
    ∃ b, (s.finalCount k pass classes).lot j = some
      (if k = j then
        { l with tripped := b, window := pushOutcome l.window pass,
                 classes := if pass then l.classes else countClasses l.classes classes }
       else { l with tripped := b }) := by
  unfold State.finalCount
  by_cases hk : k = j
  · subst hk
    obtain ⟨b, hb⟩ := evaluateAlarm_lot (s.modLot k fun l =>
      { l with classes := if pass then l.classes else countClasses l.classes classes
               window := pushOutcome l.window pass }) k k _ (by rw [lot_modLot, if_pos rfl, h]; rfl)
    exact ⟨b, by simp [hb]⟩
  · obtain ⟨b, hb⟩ := evaluateAlarm_lot (s.modLot k fun l =>
      { l with classes := if pass then l.classes else countClasses l.classes classes
               window := pushOutcome l.window pass }) k j l (by simp [h, hk])
    exact ⟨b, by simp [hb, hk]⟩

theorem finalCount_none (k j : SlotId) (pass : Bool) (classes : ClassSet) (h : s.lot j = none) :
    (s.finalCount k pass classes).lot j = none := by
  unfold State.finalCount
  apply evaluateAlarm_none
  simp only [lot_modLot]
  split
  · rename_i hk
    rw [hk, h, Option.map_none]
  · exact h

/-- Each class counter rises by one exactly when its class is in the set (R163). -/
theorem getElem_countClasses (v : Vector Nat 13) (c : ClassSet) (i : Fin 13) :
    (countClasses v c)[i] = v[i] + (if c.getLsbD i.val then 1 else 0) := by
  have step : ∀ (l : List (Fin 13)) (u : Vector Nat 13), l.Nodup →
      (l.foldl (fun v (i : Fin 13) => if c.getLsbD i.val then v.set i (v[i] + 1) else v) u)[i] =
        u[i] + (if i ∈ l ∧ c.getLsbD i.val then 1 else 0) := by
    intro l
    induction l with
    | nil => intro u _; simp
    | cons a l ih =>
      intro u hn
      obtain ⟨ha, hl⟩ := List.nodup_cons.mp hn
      simp only [List.foldl_cons]
      rw [ih _ hl]
      by_cases hai : a = i
      · subst hai
        by_cases hc : c.getLsbD a.val = true <;> simp [hc, ha]
      · have hne : a.val ≠ i.val := fun h => hai (Fin.ext h)
        have hia : i ≠ a := fun h => hai h.symm
        by_cases hc : c.getLsbD a.val = true <;> simp [hc, hne, hia]
  have hall : ∀ i : Fin 13, i ∈ allClasses := by decide
  have h := step allClasses v (by decide)
  simp only [hall i, true_and] at h
  exact h

/-! ### Entries given up (R138, R160) -/

/-- The alarm of a slot leaves the other slots' lots alone. -/
theorem evaluateAlarm_lot_ne (k j : SlotId) (h : k ≠ j) : (s.evaluateAlarm k).lot j = s.lot j := by
  simp only [State.evaluateAlarm]
  (repeat' split) <;> simp [h]

/-- A final count leaves the other slots' lots alone. -/
theorem finalCount_lot_ne (k j : SlotId) (pass : Bool) (classes : ClassSet) (h : k ≠ j) :
    (s.finalCount k pass classes).lot j = s.lot j := by
  unfold State.finalCount
  rw [evaluateAlarm_lot_ne _ k j h, lot_modLot, if_neg h]

/-- What giving up an entry does to the lot that counts it. -/
theorem reportGivenUp_lot (e : RetestEntry) (k : SlotId) (l : Lot) (hk : s.lotSlot e.lotId = some k)
    (hl : s.lot k = some l) :
    ∃ b, (s.reportGivenUp e).lot k = some
      { l with outstanding := l.outstanding - 1, failed := l.failed + 1, tripped := b,
               classes := countClasses l.classes (e.classes ||| clsNoReturn), window := pushOutcome l.window false } := by
  obtain ⟨b, hb⟩ := finalCount_lot (s.modLot k fun l => { l with outstanding := l.outstanding - 1, failed := l.failed + 1 })
    k k false (e.classes ||| clsNoReturn) _ (by rw [lot_modLot, if_pos rfl, hl]; rfl)
  refine ⟨b, ?_⟩
  simp only [State.reportGivenUp, hk]
  rw [hb]
  simp

/-- What giving up an entry does to every other lot: nothing. -/
theorem reportGivenUp_lot_ne (e : RetestEntry) (k j : SlotId) (hk : s.lotSlot e.lotId = some k) (h : k ≠ j) :
    (s.reportGivenUp e).lot j = s.lot j := by
  simp only [State.reportGivenUp, hk]
  rw [finalCount_lot_ne _ k j _ _ h, lot_modLot, if_neg h]

end Sys2Proof.Machine
end

