-- ==== Sys2Proof/Laws/Messages.lean ====
section
/-! SUPPORT. Bit fields as read and as written, the scopes of nests and slots, and what the completion of a message
comes to: one lemma for each of its outcomes. -/

namespace Sys2Proof

/-- A field read as a number is the field taken out as a bit vector. -/
theorem bits_eq_extract (x : Word) (lo w : Nat) : bits x lo w = (x.extractLsb' lo w).toNat := by
  simp [bits, BitVec.extractLsb'_toNat, Nat.shiftRight_eq_div_pow]

@[simp] theorem getLsbD_put (v lo w i : Nat) :
    (put v lo w).getLsbD i = (decide (i < 32) && decide (lo ≤ i) && decide (i < lo + w) && v.testBit (i - lo)) := by
  simp only [put, BitVec.getLsbD_ofNat, Nat.testBit_mul_two_pow, Nat.testBit_mod_two_pow]
  by_cases h : lo ≤ i
  · have : (i - lo < w) ↔ (i < lo + w) := by omega
    simp [h, this, Bool.and_assoc]
  · simp [h]

@[simp] theorem getLsbD_flag (b : Bool) (lo i : Nat) :
    (flag b lo).getLsbD i = (decide (i < 32) && decide (i = lo) && b) := by
  simp only [flag, getLsbD_put]
  by_cases h : i = lo
  · subst h; cases b <;> simp
  · have : ¬ (lo ≤ i ∧ i < lo + 1) := by omega
    by_cases h1 : lo ≤ i <;> by_cases h2 : i < lo + 1 <;> simp_all

@[simp] theorem getElem_put (v lo w i : Nat) (h : i < 32) :
    (put v lo w)[i] = (decide (lo ≤ i) && decide (i < lo + w) && v.testBit (i - lo)) := by
  simp [← BitVec.getLsbD_eq_getElem, h]

@[simp] theorem getElem_flag (b : Bool) (lo i : Nat) (h : i < 32) : (flag b lo)[i] = (decide (i = lo) && b) := by
  simp [← BitVec.getLsbD_eq_getElem, h]

theorem extract_or (x y : Word) (lo w : Nat) :
    (x ||| y).extractLsb' lo w = x.extractLsb' lo w ||| y.extractLsb' lo w := by
  ext i hi; simp [BitVec.getLsbD_or]

/-- A field reads as it was written. -/
theorem extract_put (v lo w : Nat) (h : lo + w ≤ 32) : (put v lo w).extractLsb' lo w = BitVec.ofNat w v := by
  apply BitVec.eq_of_getLsbD_eq
  intro i hi
  have h1 : lo + i < 32 := by omega
  rw [BitVec.getLsbD_extractLsb', BitVec.getLsbD_ofNat]
  simp [hi, h1]

/-- A field apart from the one written reads as 0. -/
theorem extract_put_apart (v lo w lo' w' : Nat) (h : lo + w ≤ lo' ∨ lo' + w' ≤ lo) :
    (put v lo w).extractLsb' lo' w' = 0#w' := by
  apply BitVec.eq_of_getLsbD_eq
  intro i hi
  have : ¬ (lo ≤ lo' + i ∧ lo' + i < lo + w) := by omega
  by_cases h1 : lo ≤ lo' + i <;> by_cases h2 : lo' + i < lo + w <;>
    simp_all

theorem toNat_put (v lo w : Nat) (h : lo + w ≤ 32) : (put v lo w).toNat = v % 2 ^ w * 2 ^ lo := by
  rw [put, BitVec.toNat_ofNat, Nat.mod_eq_of_lt]
  calc v % 2 ^ w * 2 ^ lo < 2 ^ w * 2 ^ lo :=
        Nat.mul_lt_mul_of_pos_right (Nat.mod_lt _ (Nat.two_pow_pos w)) (Nat.two_pow_pos lo)
    _ = 2 ^ (lo + w) := by rw [← Nat.pow_add, Nat.add_comm]
    _ ≤ 2 ^ 32 := Nat.pow_le_pow_right (by decide) h

end Sys2Proof

namespace Sys2Proof.Machine

/-- No kind allows a length that a header cannot carry. -/
theorem lengthOk_le {k : Kind} {n : Nat} (h : k.lengthOk n = true) : n ≤ 62 := by
  cases k <;> simp [Kind.lengthOk] at h <;> omega

/-- Each downstream kind is the kind of its code. -/
@[simp] theorem ofCode_code : ∀ k : Kind, Kind.ofCode k.code = some k := by
  intro k; cases k <;> decide

@[simp] theorem slotOf_slotScope : ∀ k : SlotId, slotOf (slotScope k) = k := by decide

@[simp] theorem nestOf_nestScope : ∀ n : NestId, nestOf (nestScope n) = n := by decide

@[simp] theorem slotScope_lt : ∀ k : SlotId, (slotScope k).toNat < 8 := by decide

@[simp] theorem nestScope_lt : ∀ n : NestId, (nestScope n).toNat < 4 := by decide

@[simp] theorem slotScope_ne : ∀ k : SlotId, slotScope k ≠ 15#4 := by decide

/-- A message of an allowed length and an accepted scope, with a reply place free, is taken by its owner (R10). -/
theorem complete_take {s : State} {k : Kind} {scope : BitVec 4} {tag : BitVec 8} {len : Nat} {take : State → State}
    (hr : s.ReplyRoom) (hl : k.lengthOk len = true) (hs : k.scopeOk scope = true) :
    s.complete k scope tag len true take = take s := by
  have h : ¬ Config.replyCap ≤ s.lnk.replyQ.length := by simpa [State.ReplyRoom] using hr
  simp [State.complete, h, hl, hs]

/-- A message of a length that is not allowed, with a reply place free, is answered LENGTH (R10, test 2). -/
theorem complete_length {s : State} {k : Kind} {scope : BitVec 4} {tag : BitVec 8} {len : Nat} {ok : Bool}
    {take : State → State} (hr : s.ReplyRoom) (hl : k.lengthOk len = false) :
    s.complete k scope tag len ok take = s.reply k scope tag .length [] := by
  have h : ¬ Config.replyCap ≤ s.lnk.replyQ.length := by simpa [State.ReplyRoom] using hr
  simp [State.complete, h, hl]

/-- A message of an allowed length and a scope that is not accepted, with a reply place free, is answered RANGE
(R10, test 4). -/
theorem complete_range {s : State} {k : Kind} {scope : BitVec 4} {tag : BitVec 8} {len : Nat} {take : State → State}
    (hr : s.ReplyRoom) (hl : k.lengthOk len = true) (hs : k.scopeOk scope = false) :
    s.complete k scope tag len true take = s.reply k scope tag .range [] := by
  have h : ¬ Config.replyCap ≤ s.lnk.replyQ.length := by simpa [State.ReplyRoom] using hr
  simp [State.complete, h, hl, hs]

/-- A SOFT_RESET of scope 15 is taken whatever the reply queue holds (R10). -/
theorem complete_softReset {s : State} {tag : BitVec 8} {take : State → State} :
    s.complete .softReset 15#4 tag 0 true take = take s := by
  simp [State.complete, Kind.lengthOk, Kind.scopeOk, Kind.scopes]

/-- With 4 replies waiting, every other message is an overrun (R10). -/
theorem complete_overrun {s : State} {k : Kind} {scope : BitVec 4} {tag : BitVec 8} {len : Nat} {ok : Bool}
    {take : State → State} (hr : Config.replyCap ≤ s.lnk.replyQ.length)
    (h : k ≠ .softReset ∨ k.scopeOk scope = false) :
    s.complete k scope tag len ok take = s.countOverrun.setFlag .linkFault := by
  rcases h with h | h <;> simp [State.complete, hr, h]

end Sys2Proof.Machine
end

