-- ==== Sys2Proof/Laws/Queues.lean ====
section
/-! SUPPORT. The queues of LNK under the shared operations: each keeps the capacities and keeps the event queue full
while the wait line is not empty (R12–R14). -/

namespace Sys2Proof.Machine

/-- What a fold keeps. -/
theorem foldl_keeps {α : Type} {P : State → Prop} {f : State → α → State} (h : ∀ s x, P s → P (f s x)) :
    ∀ (l : List α) (s : State), P s → P (l.foldl f s)
  | [], _, hs => hs
  | x :: l, s, hs => foldl_keeps h l (f s x) (h s x hs)

theorem queuesOk_congr {s t : State} (h : s.QueuesOk) (hr : t.lnk.replyQ = s.lnk.replyQ)
    (he : t.lnk.eventQ = s.lnk.eventQ) (hw : t.lnk.waitLine = s.lnk.waitLine) : t.QueuesOk := by
  simpa [State.QueuesOk, hr, he, hw] using h

theorem queuesOk_of_lnk {s t : State} (h : s.QueuesOk) (e : t.lnk = s.lnk) : t.QueuesOk :=
  queuesOk_congr h (by rw [e]) (by rw [e]) (by rw [e])

variable {s : State}

/-- While a place is free no producer waits. -/
theorem waitLine_of_placeFree (h : s.QueuesOk) (hf : s.placeFree = true) : s.lnk.waitLine = [] := by
  by_contra hw
  have := h.2.2 hw
  simp [State.placeFree, this] at hf

theorem queueReply_queues (h : s.QueuesOk) (m : Msg) (hr : s.ReplyRoom) : (s.queueReply m).QueuesOk := by
  obtain ⟨h1, h2, h3⟩ := h
  exact ⟨by simp [State.ReplyRoom] at hr ⊢; omega, h2, h3⟩

theorem reply_queues (h : s.QueuesOk) (hr : s.ReplyRoom) (k : Kind) (scope : BitVec 4) (tag : BitVec 8)
    (code : ResultCode) (data : List Word) : (s.reply k scope tag code data).QueuesOk :=
  queueReply_queues h _ hr

theorem admitEvent_queues (h : s.QueuesOk) (e : Event) (hf : s.placeFree = true) : (s.admitEvent e).QueuesOk := by
  have hw := waitLine_of_placeFree h hf
  obtain ⟨h1, h2, h3⟩ := h
  refine ⟨h1, ?_, fun hn => absurd hw hn⟩
  simp [State.placeFree] at hf ⊢
  omega

theorem admitNotice_queues (h : s.QueuesOk) (hf : s.placeFree = true) : s.admitNotice.QueuesOk :=
  queuesOk_of_lnk (admitEvent_queues h _ hf) rfl

theorem joinLine_queues (h : s.QueuesOk) (p : Producer)
    (hn : (s.placeFree && s.lnk.waitLine.isEmpty) = false) :
    (s.modLnk fun l => { l with waitLine := l.waitLine ++ [p] }).QueuesOk := by
  have hfull : s.lnk.eventQ.length = Config.eventCap := by
    rcases hw : s.lnk.waitLine with _ | ⟨q, r⟩
    · have h2 := h.2.1
      simp [hw, State.placeFree] at hn
      omega
    · exact h.2.2 (by simp [hw])
  exact ⟨h.1, h.2.1, fun _ => hfull⟩

theorem askNotice_queues (h : s.QueuesOk) : s.askNotice.QueuesOk := by
  unfold State.askNotice
  split
  · exact h
  · exact queuesOk_of_lnk h rfl
  · split
    · rename_i hc
      exact admitNotice_queues h (by simp_all)
    · rename_i hc
      exact joinLine_queues (s := s.modNtc fun c => { c with outbox := .waiting }) (queuesOk_of_lnk h rfl) .ntc
        (by simpa [State.placeFree] using hc)

theorem setFlag_queues (h : s.QueuesOk) (f : Flag) : (s.setFlag f).QueuesOk := by
  simp only [State.setFlag, State.notifyRising, modNtc_ntc]
  (repeat' split) <;> first
    | exact h
    | exact queuesOk_of_lnk h rfl
    | exact askNotice_queues (queuesOk_of_lnk h rfl)

theorem admitProducer_queues (h : s.QueuesOk) (p : Producer) (hf : s.placeFree = true) :
    (s.admitProducer p).QueuesOk := by
  unfold State.admitProducer
  (repeat' split) <;> first
    | exact h
    | exact admitNotice_queues h hf
    | exact queuesOk_of_lnk (admitEvent_queues h _ hf) rfl

theorem offer_queues (h : s.QueuesOk) (p : Producer) : (s.offer p).QueuesOk := by
  unfold State.offer
  split
  · rename_i hc
    exact admitProducer_queues h p (by simp_all)
  · rename_i hc
    exact joinLine_queues h p (by simpa using hc)

/-- The event queue within its capacity, whatever waits. -/
theorem admitProducer_eventQ (p : Producer) (h : s.lnk.eventQ.length < Config.eventCap) :
    (s.admitProducer p).lnk.eventQ.length ≤ Config.eventCap ∧
      (s.admitProducer p).lnk.waitLine = s.lnk.waitLine := by
  unfold State.admitProducer State.admitNotice
  (repeat' split) <;> simp <;> omega

/-- Filling the free places leaves the queues in order, whatever stood on the wait line (R14). -/
theorem drainWaitLine_queues : ∀ (fuel : Nat) (s : State), s.lnk.replyQ.length ≤ Config.replyCap →
    s.lnk.eventQ.length ≤ Config.eventCap → s.lnk.waitLine.length ≤ fuel → (s.drainWaitLine fuel).QueuesOk
  | 0, s, h1, h2, h3 => ⟨h1, h2, fun hn => absurd (List.length_eq_zero_iff.mp (Nat.le_zero.mp h3)) hn⟩
  | fuel + 1, s, h1, h2, h3 => by
    unfold State.drainWaitLine
    split
    · rename_i hc
      rcases hw : s.lnk.waitLine with _ | ⟨p, rest⟩
      · simp [hw] at hc
      · have hf : s.placeFree = true := by simp_all
        have hlt : s.lnk.eventQ.length < Config.eventCap := by simpa [State.placeFree] using hf
        have he : s.admitHead = (s.modLnk fun l => { l with waitLine := rest }).admitProducer p := by
          simp [State.admitHead, hw, hf]
        have hq := admitProducer_eventQ (s := s.modLnk fun l => { l with waitLine := rest }) p hlt
        have hs := Link.still_fields (admitProducer_frame (s.modLnk fun l => { l with waitLine := rest }) p).1
        rw [he]
        refine drainWaitLine_queues fuel _ (by rw [hs.2.2.2.2.2.2.2.2.2.1]; exact h1) hq.1 ?_
        rw [hq.2]
        simp [hw] at h3
        simpa using h3
    · rename_i hc
      refine ⟨h1, h2, fun hn => ?_⟩
      simp [State.placeFree, hn] at hc
      omega

theorem fillPlaces_queues (hr : s.lnk.replyQ.length ≤ Config.replyCap) (he : s.lnk.eventQ.length ≤ Config.eventCap) :
    s.fillPlaces.QueuesOk :=
  drainWaitLine_queues _ s hr he (Nat.le_refl _)

theorem admitHead_queues (h : s.QueuesOk) : s.admitHead.QueuesOk := by
  unfold State.admitHead
  split
  · exact h
  · split
    · rename_i p rest hw hf
      exact absurd (waitLine_of_placeFree h hf) (by simp [hw])
    · exact h

end Sys2Proof.Machine
end

