-- ==== Sys2Proof/Laws/Reports.lean ====
section
/-! SUPPORT. What every action of a block comes to in LNK and NTC: `Reports s t` says it once, and one lemma for each
shared operation says that the operation does no more. -/

namespace Sys2Proof.Machine

/-- From s to t nothing happens in LNK and NTC but what a block's reports can do: event messages join the event queue,
producers join the wait line, flags rise, a NOTICE is asked for, dropped STEP_RESULTs are counted. The queue of
commands stays. -/
structure Reports (s t : State) : Prop where
  still : t.lnk.still = s.lnk.still
  events : ∃ more, t.lnk.eventQ = s.lnk.eventQ ++ more
  queues : s.QueuesOk → t.QueuesOk
  flags : ∀ i, s.ntc.flags.getLsbD i = true → t.ntc.flags.getLsbD i = true
  kept : t.ntc.enables = s.ntc.enables ∧ t.ntc.period = s.ntc.period ∧ t.ntc.softCause = s.ntc.softCause
  owed : s.ntc.owed = false → t.ntc.owed = false
  pending : t.pending = s.pending

theorem Reports.refl (s : State) : Reports s s :=
  ⟨rfl, ⟨[], by simp⟩, fun h => h, fun _ h => h, ⟨rfl, rfl, rfl⟩, fun h => h, rfl⟩

theorem Reports.trans {s t u : State} (h : Reports s t) (g : Reports t u) : Reports s u where
  still := g.still.trans h.still
  events := by
    obtain ⟨a, ha⟩ := h.events
    obtain ⟨b, hb⟩ := g.events
    exact ⟨a ++ b, by rw [hb, ha, List.append_assoc]⟩
  queues := g.queues ∘ h.queues
  flags := fun i hi => g.flags i (h.flags i hi)
  kept := ⟨g.kept.1.trans h.kept.1, g.kept.2.1.trans h.kept.2.1, g.kept.2.2.trans h.kept.2.2⟩
  owed := g.owed ∘ h.owed
  pending := g.pending.trans h.pending

/-- Outside LNK and NTC anything may change. -/
theorem reports_of_same {t u : State} (hl : u.lnk = t.lnk) (hn : u.ntc = t.ntc) (hp : u.pending = t.pending) :
    Reports t u :=
  ⟨by rw [hl], ⟨[], by simp [hl]⟩, fun h => queuesOk_of_lnk h hl, fun i h => by rw [hn]; exact h,
    ⟨by rw [hn], by rw [hn], by rw [hn]⟩, fun h => by rw [hn]; exact h, hp⟩

/-- NTC's own bookkeeping: its timer, its outbox, non-urgent pending, the LOW_YIELD bitmap, a flag that rises. -/
theorem reports_of_ntc {t : State} (f : Notices → Notices)
    (hf : ∀ i, t.ntc.flags.getLsbD i = true → (f t.ntc).flags.getLsbD i = true)
    (hk : (f t.ntc).enables = t.ntc.enables ∧ (f t.ntc).period = t.ntc.period ∧ (f t.ntc).softCause = t.ntc.softCause)
    (ho : t.ntc.owed = false → (f t.ntc).owed = false) : Reports t (t.modNtc f) :=
  ⟨rfl, ⟨[], by simp⟩, fun h => queuesOk_of_lnk h rfl, hf, hk, ho, rfl⟩

theorem admitEvent_reports {t : State} (e : Event) (hf : t.placeFree = true) : Reports t (t.admitEvent e) :=
  ⟨rfl, ⟨_, rfl⟩, fun h => admitEvent_queues h e hf, fun _ h => h, ⟨rfl, rfl, rfl⟩, fun h => h, rfl⟩

variable {s t : State}

theorem modNest_reports (h : Reports s t) (n : NestId) (f : Nest → Nest) : Reports s (t.modNest n f) :=
  h.trans (reports_of_same rfl rfl rfl)

theorem setNest_reports (h : Reports s t) (n : NestId) (v : Nest) : Reports s (t.setNest n v) :=
  h.trans (reports_of_same rfl rfl rfl)

theorem modSlot_reports (h : Reports s t) (k : SlotId) (f : Slot → Slot) : Reports s (t.modSlot k f) :=
  h.trans (reports_of_same rfl rfl rfl)

theorem setSlot_reports (h : Reports s t) (k : SlotId) (v : Slot) : Reports s (t.setSlot k v) :=
  h.trans (reports_of_same rfl rfl rfl)

theorem modLot_reports (h : Reports s t) (k : SlotId) (f : Lot → Lot) : Reports s (t.modLot k f) :=
  h.trans (reports_of_same rfl rfl rfl)

theorem setLot_reports (h : Reports s t) (k : SlotId) (v : Option Lot) : Reports s (t.setLot k v) :=
  h.trans (reports_of_same rfl rfl rfl)

theorem setBuffer_reports (h : Reports s t) (b : Fin 2) (v : Option Session) : Reports s (t.setBuffer b v) :=
  h.trans (reports_of_same rfl rfl rfl)

theorem modMrk_reports (h : Reports s t) (f : Marking → Marking) : Reports s (t.modMrk f) :=
  h.trans (reports_of_same rfl rfl rfl)

theorem modEngine_reports (h : Reports s t) (n : NestId) (f : Engine → Engine) : Reports s (t.modEngine n f) :=
  h.trans (reports_of_same rfl rfl rfl)

theorem modRun_reports (h : Reports s t) (n : NestId) (f : Run → Run) : Reports s (t.modRun n f) :=
  h.trans (reports_of_same rfl rfl rfl)

theorem setRetest_reports (h : Reports s t) (v : List RetestEntry) : Reports s { t with retest := v } :=
  h.trans (reports_of_same rfl rfl rfl)

theorem setAmb_reports (h : Reports s t) (v : Ambient) : Reports s { t with amb := v } :=
  h.trans (reports_of_same rfl rfl rfl)

theorem foldl_reports {α : Type} {f : State → α → State} (hf : ∀ {t : State}, Reports s t → ∀ x, Reports s (f t x)) :
    ∀ (l : List α) {t : State}, Reports s t → Reports s (l.foldl f t)
  | [], _, h => h
  | x :: l, _, h => foldl_reports hf l (hf h x)

theorem admitNotice_reports (hf : t.placeFree = true) : Reports t t.admitNotice :=
  ⟨rfl, ⟨_, rfl⟩, fun h => admitNotice_queues h hf, fun _ h => h, ⟨rfl, rfl, rfl⟩, fun _ => rfl, rfl⟩

theorem askNotice_reports (h : Reports s t) : Reports s t.askNotice := by
  refine h.trans ?_
  refine ⟨by simp, ?_, askNotice_queues, ?_, ?_, ?_, by simp⟩ <;> simp only [State.askNotice] <;> (repeat' split)
  all_goals first
    | exact ⟨_, rfl⟩
    | exact ⟨[], (List.append_nil _).symm⟩
    | exact fun _ h => h
    | exact ⟨rfl, rfl, rfl⟩
    | exact fun h => h
    | exact fun _ => rfl

theorem risen_reports (f : Flag) : Reports t (t.modNtc fun c => { c with flags := c.flags ||| f.mask }) :=
  reports_of_ntc _ (fun i h => by simp [h]) ⟨rfl, rfl, rfl⟩ fun h => h

theorem notifyRising_reports (h : Reports s t) (f : Flag) : Reports s (t.notifyRising f) := by
  simp only [State.notifyRising]
  (repeat' split)
  · exact askNotice_reports (h.trans (reports_of_ntc _ (fun _ h => h) ⟨rfl, rfl, rfl⟩ fun h => h))
  · exact askNotice_reports (h.trans (reports_of_ntc _ (fun _ h => h) ⟨rfl, rfl, rfl⟩ fun h => h))
  · exact h.trans (reports_of_ntc _ (fun _ h => h) ⟨rfl, rfl, rfl⟩ fun h => h)

theorem setFlag_reports (h : Reports s t) (f : Flag) : Reports s (t.setFlag f) := by
  simp only [State.setFlag]
  (repeat' split)
  · exact h
  · exact notifyRising_reports (h.trans (risen_reports f)) f
  · exact h.trans (risen_reports f)

/-- A flag stands once it has been set. -/
theorem setFlag_stands (f : Flag) : (t.setFlag f).ntc.flags.getLsbD f.index = true := by
  simp only [State.setFlag]
  have hm : f.mask.getLsbD f.index = true := by cases f <;> decide
  (repeat' split)
  · assumption
  · exact (notifyRising_reports (Reports.refl _) f).flags _ (by simp [hm])
  · simp [hm]

theorem periodExpiry_reports (h : Reports s t) : Reports s t.periodExpiry := by
  simp only [State.periodExpiry]
  (repeat' split)
  · exact h
  · exact askNotice_reports (h.trans (reports_of_ntc _ (fun _ h => h) ⟨rfl, rfl, rfl⟩ fun h => h))
  · exact h.trans (reports_of_ntc _ (fun _ h => h) ⟨rfl, rfl, rfl⟩ fun h => h)

theorem admitProducer_reports (hf : t.placeFree = true) (p : Producer) : Reports t (t.admitProducer p) := by
  simp only [State.admitProducer]
  (repeat' split) <;> first
    | exact admitNotice_reports hf
    | exact (admitEvent_reports _ hf).trans (reports_of_same rfl rfl rfl)
    | exact Reports.refl _

theorem offer_reports (h : Reports s t) (p : Producer) : Reports s (t.offer p) := by
  refine h.trans ?_
  simp only [State.offer]
  split
  · rename_i hc
    exact admitProducer_reports (by simp_all) p
  · rename_i hc
    exact ⟨rfl, ⟨[], by simp⟩, fun h => joinLine_queues h p (by simpa using hc), fun _ h => h, ⟨rfl, rfl, rfl⟩,
      fun h => h, rfl⟩

theorem admitHead_reports (h : Reports s t) : Reports s t.admitHead := by
  refine h.trans ?_
  simp only [State.admitHead]
  (repeat' split)
  · exact Reports.refl _
  · rename_i p rest hw hf
    have g := admitProducer_reports (t := t.modLnk fun l => { l with waitLine := rest }) hf p
    exact ⟨g.still.trans rfl, g.events, fun hq => absurd (waitLine_of_placeFree hq hf) (by simp [hw]), g.flags, g.kept,
      g.owed, g.pending⟩
  · exact Reports.refl _

theorem drainWaitLine_reports (fuel : Nat) : ∀ {t : State}, Reports s t → Reports s (t.drainWaitLine fuel) := by
  induction fuel with
  | zero => exact fun h => h
  | succ fuel ih =>
    intro t h
    simp only [State.drainWaitLine]
    split
    · exact ih (admitHead_reports h)
    · exact h

theorem fillPlaces_reports (h : Reports s t) : Reports s t.fillPlaces := drainWaitLine_reports _ h

theorem evaluateAlarm_reports (h : Reports s t) (k : SlotId) : Reports s (t.evaluateAlarm k) := by
  simp only [State.evaluateAlarm]
  (repeat' split)
  · exact h
  · exact modLot_reports h _ _
  · exact h
  · exact setFlag_reports ((modLot_reports h _ _).trans
      (reports_of_ntc _ (fun _ h => h) ⟨rfl, rfl, rfl⟩ fun h => h)) _
  · exact h

theorem finalCount_reports (h : Reports s t) (k : SlotId) (pass : Bool) (classes : ClassSet) :
    Reports s (t.finalCount k pass classes) := by
  simp only [State.finalCount]
  (repeat' split) <;> repeat (first
    | with_reducible exact h | with_reducible apply modLot_reports | with_reducible apply evaluateAlarm_reports)

theorem reportFirst_reports (h : Reports s t) (k : SlotId) : Reports s (t.reportFirst k) := by
  simp only [State.reportFirst]
  repeat (first | with_reducible exact h | with_reducible apply modLot_reports)

theorem reportReturn_reports (h : Reports s t) (k : SlotId) : Reports s (t.reportReturn k) := by
  simp only [State.reportReturn]
  repeat (first | with_reducible exact h | with_reducible apply modLot_reports)

theorem reportVerdict_reports (h : Reports s t) (v : VerdictKind) (id : Word) : Reports s (t.reportVerdict v id) := by
  simp only [State.reportVerdict]
  (repeat' split) <;> repeat (first | with_reducible exact h | with_reducible apply modLot_reports)

theorem reportResolution_reports (h : Reports s t) (r : Label) (marked : Bool) :
    Reports s (t.reportResolution r marked) := by
  simp only [State.reportResolution]
  (repeat' split) <;> repeat (first
    | with_reducible exact h | with_reducible apply modLot_reports | with_reducible apply finalCount_reports)

theorem reportGivenUp_reports (h : Reports s t) (e : RetestEntry) : Reports s (t.reportGivenUp e) := by
  simp only [State.reportGivenUp]
  (repeat' split) <;> repeat (first
    | with_reducible exact h | with_reducible apply modLot_reports | with_reducible apply finalCount_reports)

theorem foldGivenUp_reports (h : Reports s t) (es : List RetestEntry) : Reports s (es.foldl State.reportGivenUp t) :=
  foldl_reports (fun h e => reportGivenUp_reports h e) es h

theorem giveUpLot_reports (h : Reports s t) (id : Word) : Reports s (t.giveUpLot id) :=
  foldGivenUp_reports (setRetest_reports h _) _

theorem completeLot_reports (h : Reports s t) (k : SlotId) : Reports s (t.completeLot k) := by
  simp only [State.completeLot]
  (repeat' split) <;> repeat (first
    | with_reducible exact h | with_reducible apply modLot_reports | with_reducible apply giveUpLot_reports)

theorem completeLots_reports (h : Reports s t) : Reports s t.completeLots :=
  foldl_reports (fun h k => completeLot_reports h k) allSlots h

theorem foldDiscard_reports (ns : List NestId) (h : Reports s t) : Reports s (ns.foldl State.discardResult t) := by
  induction ns generalizing t with
  | nil => exact h
  | cons n ns ih =>
    refine ih (h.trans ?_)
    exact ⟨rfl, ⟨[], (List.append_nil _).symm⟩, fun h => queuesOk_congr h rfl rfl rfl, fun _ h => h, ⟨rfl, rfl, rfl⟩,
      fun h => h, rfl⟩

theorem dropResults_reports (h : Reports s t) : Reports s t.dropResults := by
  simp only [State.dropResults]
  split
  · exact h
  · exact setFlag_reports (foldDiscard_reports _ h) _

theorem offerStepResult_reports (h : Reports s t) (n : NestId) : Reports s (t.offerStepResult n) := by
  simp only [State.offerStepResult]
  split
  · exact h
  · split
    · rename_i e _ hc
      refine (modNest_reports h _ _).trans (admitEvent_reports _ ?_)
      have : t.lnk.eventQ.length ≤ Config.traceRoom := hc
      simp [State.placeFree, Config.eventCap, Config.traceRoom] at this ⊢
      omega
    · apply setFlag_reports
      refine h.trans ?_
      exact ⟨rfl, ⟨[], (List.append_nil _).symm⟩, fun h => queuesOk_congr h rfl rfl rfl, fun _ h => h, ⟨rfl, rfl, rfl⟩,
        fun h => h, rfl⟩

theorem offerNest_reports (h : Reports s t) (n : NestId) : Reports s (t.offerNest n) := by
  simp only [State.offerNest]
  split
  · exact offer_reports (offerStepResult_reports h n) _
  · exact offerStepResult_reports h n

theorem offerRefDone_reports (h : Reports s t) (k : SlotId) : Reports s (t.offerRefDone k) := by
  simp only [State.offerRefDone]
  (repeat' split) <;> repeat (first | with_reducible exact h | with_reducible apply offer_reports)

theorem offerSummary_reports (h : Reports s t) (k : SlotId) : Reports s (t.offerSummary k) := by
  simp only [State.offerSummary]
  (repeat' split) <;> repeat (first | with_reducible exact h | with_reducible apply offer_reports)

theorem makeOffers_reports (h : Reports s t) : Reports s t.makeOffers := by
  have h1 := foldl_reports (fun h n => offerNest_reports h n) allNests (dropResults_reports h)
  have h2 := foldl_reports (fun h k => offerRefDone_reports h k) allSlots h1
  unfold State.makeOffers
  exact foldl_reports (fun h k => offerSummary_reports h k) allSlots h2

theorem endEvent_reports (h : Reports s t) : Reports s (t.endEvent) := by
  simp only [State.endEvent]
  repeat (first
    | with_reducible exact h | with_reducible apply completeLots_reports | with_reducible apply makeOffers_reports)

theorem resolveLabel_reports (h : Reports s t) (i : Nat) (marked fault : Bool) :
    Reports s (t.resolveLabel i marked fault) := by
  simp only [State.resolveLabel]
  (repeat' split) <;> repeat (first
    | with_reducible exact h | with_reducible apply modMrk_reports | with_reducible apply setFlag_reports
    | with_reducible apply reportResolution_reports)

theorem resolveIssued_reports (h : Reports s t) (marked : Bool) : Reports s (t.resolveIssued marked) := by
  simp only [State.resolveIssued]
  (repeat' split) <;> repeat (first | with_reducible exact h | with_reducible apply resolveLabel_reports)

theorem makeRoom_reports (h : Reports s t) : Reports s (t.makeRoom) := by
  simp only [State.makeRoom]
  (repeat' split) <;> repeat (first | with_reducible exact h | with_reducible apply resolveLabel_reports)

theorem createLabel_reports (h : Reports s t) (r : Label) : Reports s (t.createLabel r) := by
  simp only [State.createLabel]
  repeat (first
    | with_reducible exact h | with_reducible apply modMrk_reports | with_reducible apply makeRoom_reports)

theorem answerRequest_reports (h : Reports s t) (n : NestId) : Reports s (t.answerRequest n) := by
  simp only [State.answerRequest]
  (repeat' split) <;> exact modMrk_reports h _

theorem requestRising_reports (h : Reports s t) (n : NestId) : Reports s (t.requestRising n) :=
  answerRequest_reports (resolveIssued_reports h _) n

theorem requestFalling_reports (h : Reports s t) : Reports s (t.requestFalling) := by
  simp only [State.requestFalling]
  repeat (first | with_reducible exact h | with_reducible apply modMrk_reports)

theorem strayResult_reports (h : Reports s t) : Reports s (t.strayResult) := by
  simp only [State.strayResult]
  repeat (first | with_reducible exact h | with_reducible apply modMrk_reports | with_reducible apply setFlag_reports)

theorem markedRising_reports (h : Reports s t) : Reports s (t.markedRising) := by
  simp only [State.markedRising]
  (repeat' split) <;> repeat (first
    | with_reducible exact h | with_reducible apply resolveIssued_reports
    | with_reducible apply strayResult_reports)

theorem jamRising_reports (h : Reports s t) : Reports s (t.jamRising) := by
  simp only [State.jamRising]
  (repeat' split) <;> repeat (first
    | with_reducible exact h | with_reducible apply resolveIssued_reports
    | with_reducible apply strayResult_reports)

theorem expireLabel_reports (h : Reports s t) (i : Nat) : Reports s (t.expireLabel i) := by
  simp only [State.expireLabel]
  (repeat' split) <;> repeat (first | with_reducible exact h | with_reducible apply resolveLabel_reports)

theorem clearBounds_reports (h : Reports s t) (k : SlotId) : Reports s (t.clearBounds k) :=
  foldl_reports (fun h _ => modNest_reports h _ _) allNests h

theorem produceRefDone_reports (h : Reports s t) (k : SlotId) (o : RefOutcome) (target count : Nat) :
    Reports s (t.produceRefDone k o target count) := by
  simp only [State.produceRefDone]
  repeat (first | with_reducible exact h | with_reducible apply modSlot_reports)

theorem cancelCapture_reports (h : Reports s t) (k : SlotId) (o : RefOutcome) : Reports s (t.cancelCapture k o) := by
  simp only [State.cancelCapture]
  (repeat' split) <;> repeat (first
    | with_reducible exact h | with_reducible apply modSlot_reports | with_reducible apply clearBounds_reports
    | with_reducible apply produceRefDone_reports)

theorem addToCapture_reports (h : Reports s t) (k : SlotId) (values : List Level) :
    Reports s (t.addToCapture k values) := by
  simp only [State.addToCapture]
  (repeat' split) <;> repeat (first
    | with_reducible exact h | with_reducible apply modSlot_reports | with_reducible apply clearBounds_reports)

theorem offerCapture_reports (h : Reports s t) (r : Run) : Reports s (t.offerCapture r) := by
  simp only [State.offerCapture]
  (repeat' split) <;> repeat (first | with_reducible exact h | with_reducible apply addToCapture_reports)

theorem promote_reports (h : Reports s t) (k : SlotId) : Reports s (t.promote k) := by
  simp only [State.promote]
  (repeat' split) <;> repeat (first
    | with_reducible exact h | with_reducible apply modSlot_reports | with_reducible apply produceRefDone_reports)

theorem swap_reports (h : Reports s t) (k : SlotId) : Reports s (t.swap k) := by
  simp only [State.swap]
  (repeat' split) <;> repeat (first
    | with_reducible exact h | with_reducible apply modSlot_reports | with_reducible apply modLot_reports
    | with_reducible apply setBuffer_reports | with_reducible apply cancelCapture_reports)

theorem deferredSwap_reports (h : Reports s t) (k : SlotId) : Reports s (t.deferredSwap k) := by
  simp only [State.deferredSwap]
  (repeat' split) <;> repeat (first | with_reducible exact h | with_reducible apply swap_reports)

theorem releaseSlot_reports (h : Reports s t) (k : SlotId) : Reports s (t.releaseSlot k) := by
  simp only [State.releaseSlot]
  repeat (first
    | with_reducible exact h | with_reducible apply promote_reports | with_reducible apply deferredSwap_reports)

theorem occupy_reports (h : Reports s t) (k : SlotId) : Reports s (t.occupy k) := by
  simp only [State.occupy]
  repeat (first | with_reducible exact h | with_reducible apply modSlot_reports)

theorem depart_reports (h : Reports s t) (k : SlotId) : Reports s (t.depart k) := by
  simp only [State.depart]
  repeat (first
    | with_reducible exact h | with_reducible apply modSlot_reports | with_reducible apply releaseSlot_reports)

theorem evictRetest_reports (h : Reports s t) : Reports s (t.evictRetest) := by
  simp only [State.evictRetest]
  (repeat' split) <;> repeat (first
    | with_reducible exact h | with_reducible apply setFlag_reports | with_reducible apply reportGivenUp_reports
    | with_reducible apply setRetest_reports)

theorem addRetest_reports (h : Reports s t) (r : Run) (classes : ClassSet) : Reports s (t.addRetest r classes) := by
  simp only [State.addRetest]
  repeat (first
    | with_reducible exact h | with_reducible apply evictRetest_reports | with_reducible apply setRetest_reports)

theorem recordVerdict_reports (h : Reports s t) (n : NestId) (r : Run) (v : VerdictKind) (classes : ClassSet) (g : LabelField) :
    Reports s (t.recordVerdict n r v classes g) := by
  simp only [State.recordVerdict]
  (repeat' split) <;> repeat (first
    | with_reducible exact h | with_reducible apply reportVerdict_reports
    | with_reducible apply createLabel_reports | with_reducible apply addRetest_reports)

theorem formVerdict_reports (h : Reports s t) (n : NestId) : Reports s (t.formVerdict n) := by
  simp only [State.formVerdict]
  split
  · exact modNest_reports (offerCapture_reports (recordVerdict_reports h _ _ _ _ _) _) _ _
  · exact modNest_reports (offerCapture_reports h _) _ _

theorem markEnd_reports (h : Reports s t) (n : NestId) (cause : EndCause) : Reports s (t.markEnd n cause) := by
  simp only [State.markEnd]
  repeat (first | with_reducible exact h | with_reducible apply modNest_reports)

theorem leaveRun_reports (h : Reports s t) (n : NestId) (e : Engine) : Reports s (t.leaveRun n e) := by
  simp only [State.leaveRun]
  (repeat' split) <;> repeat (first
    | with_reducible exact h | with_reducible apply modNest_reports | with_reducible apply depart_reports)

theorem endRun_reports (h : Reports s t) (n : NestId) (cause : EndCause) : Reports s (t.endRun n cause) := by
  simp only [State.endRun]
  (repeat' split) <;> repeat (first
    | with_reducible exact h | with_reducible apply formVerdict_reports | with_reducible apply markEnd_reports
    | with_reducible apply leaveRun_reports | with_reducible apply endRun_reports)

theorem addContact_reports (h : Reports s t) (n : NestId) : Reports s (t.addContact n) := by
  simp only [State.addContact]
  repeat (first | with_reducible exact h | with_reducible apply modRun_reports)

theorem addDisturbed_reports (h : Reports s t) (n : NestId) : Reports s (t.addDisturbed n) := by
  simp only [State.addDisturbed]
  repeat (first | with_reducible exact h | with_reducible apply modRun_reports)

theorem fadeEnded_reports (h : Reports s t) (n : NestId) : Reports s (t.fadeEnded n) := by
  simp only [State.fadeEnded]
  (repeat' split) <;> repeat (first | with_reducible exact h | with_reducible apply modNest_reports)

theorem decideWindow_reports (h : Reports s t) (n : NestId) : Reports s (t.decideWindow n) := by
  simp only [State.decideWindow]
  (repeat' split) <;> repeat (first
    | with_reducible exact h | with_reducible apply modNest_reports | with_reducible apply decideWindow_reports)

theorem traceWindow_reports (h : Reports s t) (n : NestId) (m : Measures) (o : StepOutcome) (cause : Nat) :
    Reports s (t.traceWindow n m o cause) := by
  simp only [State.traceWindow]
  (repeat' split) <;> repeat (first | with_reducible exact h | with_reducible apply modNest_reports)

theorem judgeWindow_reports (h : Reports s t) (n : NestId) (m : Measures) : Reports s (t.judgeWindow n m) := by
  simp only [State.judgeWindow]
  (repeat' split) <;> repeat (first
    | with_reducible exact h | with_reducible apply modRun_reports | with_reducible apply endRun_reports
    | with_reducible apply traceWindow_reports)

theorem disturbWindow_reports (h : Reports s t) (n : NestId) (m : Measures) (d : Disturbance) :
    Reports s (t.disturbWindow n m d) := by
  simp only [State.disturbWindow]
  (repeat' split) <;> repeat (first
    | with_reducible exact h | with_reducible apply modNest_reports | with_reducible apply endRun_reports
    | with_reducible apply addDisturbed_reports | with_reducible apply traceWindow_reports)

theorem closeWindow_reports (h : Reports s t) (n : NestId) : Reports s (t.closeWindow n) := by
  simp only [State.closeWindow]
  (repeat' split) <;> repeat (first
    | with_reducible exact h | with_reducible apply modNest_reports | with_reducible apply endRun_reports
    | with_reducible apply addContact_reports | with_reducible apply traceWindow_reports
    | with_reducible apply judgeWindow_reports | with_reducible apply disturbWindow_reports)

theorem endDwell_reports (h : Reports s t) (n : NestId) : Reports s (t.endDwell n) := by
  simp only [State.endDwell]
  repeat (first | with_reducible exact h | with_reducible apply modNest_reports)

theorem endStepFade_reports (h : Reports s t) (n : NestId) : Reports s (t.endStepFade n) := by
  simp only [State.endStepFade]
  repeat (first | with_reducible exact h | with_reducible apply modNest_reports)

theorem analyseFrame_reports (h : Reports s t) (n : NestId) (inp : FrameInput) :
    Reports s (t.analyseFrame n inp) := by
  simp only [State.analyseFrame]
  (repeat' split) <;> repeat (first | with_reducible exact h | with_reducible apply modNest_reports)

theorem moveStep_reports (h : Reports s t) (n : NestId) : Reports s (t.moveStep n) := by
  simp only [State.moveStep]
  (repeat' split) <;> repeat (first
    | with_reducible exact h | with_reducible apply modEngine_reports | with_reducible apply closeWindow_reports
    | with_reducible apply endDwell_reports)

theorem moveOn_reports (h : Reports s t) (n : NestId) : Reports s (t.moveOn n) := by
  simp only [State.moveOn]
  (repeat' split) <;> repeat (first
    | with_reducible exact h | with_reducible apply modEngine_reports | with_reducible apply fadeEnded_reports
    | with_reducible apply endStepFade_reports | with_reducible apply moveStep_reports)

theorem nestFrame_reports (h : Reports s t) (n : NestId) (inp : FrameInput) : Reports s (t.nestFrame n inp) := by
  simp only [State.nestFrame]
  repeat (first
    | with_reducible exact h | with_reducible apply modEngine_reports | with_reducible apply analyseFrame_reports
    | with_reducible apply moveOn_reports)

theorem becomeRunning_reports (h : Reports s t) (n : NestId) (cause : StartCause) :
    Reports s (t.becomeRunning n cause) := by
  simp only [State.becomeRunning]
  repeat (first
    | with_reducible exact h | with_reducible apply modNest_reports | with_reducible apply startRun_reports)

theorem arm_reports (h : Reports s t) (n : NestId) : Reports s (t.arm n) := by
  simp only [State.arm]
  repeat (first | with_reducible exact h | with_reducible apply modNest_reports)

theorem enterRun_reports (h : Reports s t) (n : NestId) (k : SlotId) : Reports s (t.enterRun n k) := by
  simp only [State.enterRun]
  (repeat' split)
  · exact becomeRunning_reports (occupy_reports h _) _ _
  · exact becomeRunning_reports (occupy_reports h _) _ _
  · exact arm_reports (occupy_reports h _) _

theorem lookupRetest_reports (h : Reports s t) (k : SlotId) (serial : BitVec 48) :
    Reports s (t.lookupRetest k serial).2 := by
  simp only [State.lookupRetest]
  (repeat' split)
  · exact reportReturn_reports (setRetest_reports h _) k
  · exact reportFirst_reports (reportGivenUp_reports (setRetest_reports h _) _) k
  · exact reportFirst_reports h k

theorem startRun_reports (h : Reports s t) (n : NestId) (k : SlotId) (r : StartRequest) :
    Reports s (t.startRun n k r) := by
  simp only [State.startRun]
  split
  · exact enterRun_reports (modNest_reports (lookupRetest_reports h _ _) _ _) _ _
  · exact enterRun_reports (modNest_reports h _ _) _ _

theorem seatClosed_reports (h : Reports s t) (n : NestId) : Reports s (t.seatClosed n) := by
  simp only [State.seatClosed]
  (repeat' split) <;> repeat (first
    | with_reducible exact h | with_reducible apply modNest_reports | with_reducible apply becomeRunning_reports)

theorem seatOpened_reports (h : Reports s t) (n : NestId) : Reports s (t.seatOpened n) := by
  simp only [State.seatOpened]
  (repeat' split) <;> repeat (first
    | with_reducible exact h | with_reducible apply modNest_reports | with_reducible apply endRun_reports
    | with_reducible apply addContact_reports)

theorem seatTimedOut_reports (h : Reports s t) (n : NestId) : Reports s (t.seatTimedOut n) := by
  simp only [State.seatTimedOut]
  (repeat' split) <;> repeat (first
    | with_reducible exact h | with_reducible apply modRun_reports | with_reducible apply endRun_reports
    | with_reducible apply addContact_reports)

theorem turnLoud_reports (h : Reports s t) : Reports s (t.turnLoud) := by
  simp only [State.turnLoud]
  repeat (first | with_reducible exact h | with_reducible apply setFlag_reports | with_reducible apply setAmb_reports)

theorem turnQuiet_reports (h : Reports s t) : Reports s (t.turnQuiet) := by
  simp only [State.turnQuiet]
  repeat (first | with_reducible exact h | with_reducible apply setAmb_reports)

theorem countFrame_reports (h : Reports s t) (b : Bool) : Reports s (t.countFrame b) := by
  simp only [State.countFrame]
  (repeat' split) <;> repeat (first
    | with_reducible exact h | with_reducible apply turnLoud_reports | with_reducible apply turnQuiet_reports
    | with_reducible apply setAmb_reports)

theorem hearFrame_reports (h : Reports s t) (c : Channel) : Reports s (t.hearFrame c) := by
  simp only [State.hearFrame]
  repeat (first | with_reducible exact h | with_reducible apply countFrame_reports)

end Sys2Proof.Machine
end

