-- ==== Sys2Proof/Laws/Offers.lean ====
section
/-! SUPPORT. The STEP_RESULTs that an event drops (R13): which nests, and what the drop does. -/

namespace Sys2Proof.Machine

variable (s : State) (n : NestId)

/-- The walk names a nest only where its STEP_RESULT stands and finds no room, and keeps the names it has. -/
theorem walkNest_cases (p : Nat × List NestId) :
    (s.walkNest p n).2 = p.2 ∨
      ((s.nest n).stepOut.isSome = true ∧ Config.traceRoom < p.1 ∧ (s.walkNest p n).2 = p.2 ++ [n]) := by
  unfold State.walkNest
  by_cases h : ((s.nest n).stepOut.isSome && Config.traceRoom < p.1) = true
  · right; simp only [Bool.and_eq_true, decide_eq_true_eq] at h; simp [h]
  · left; simp only [Bool.not_eq_true] at h; simp [h]

theorem foldWalk_stepOut (ns : List NestId) (p : Nat × List NestId) (m : NestId)
    (h : m ∈ (ns.foldl s.walkNest p).2) : m ∈ p.2 ∨ (s.nest m).stepOut.isSome = true := by
  induction ns generalizing p with
  | nil => exact .inl h
  | cons n ns ih =>
    rcases ih _ h with h' | h'
    · rcases walkNest_cases s n p with e | ⟨ho, _, e⟩
      · exact .inl (e ▸ h')
      · rw [e] at h'
        rcases List.mem_append.mp h' with h'' | h''
        · exact .inl h''
        · rw [List.mem_singleton] at h''; exact .inr (h'' ▸ ho)
    · exact .inr h'

/-- Only a nest whose STEP_RESULT is to be offered can lose one. -/
theorem lostResults_stepOut (h : n ∈ s.lostResults) : (s.nest n).stepOut.isSome = true := by
  rcases foldWalk_stepOut s allNests _ n h with h' | h'
  · simp at h'
  · exact h'

/-- Where no STEP_RESULT is to be offered none is dropped. -/
theorem dropResults_none (h : ∀ n, (s.nest n).stepOut = none) : s.dropResults = s := by
  have hl : s.lostResults = [] := List.eq_nil_iff_forall_not_mem.mpr fun n hn => by
    simpa [h n] using lostResults_stepOut s n hn
  simp [State.dropResults, hl]

/-- A drop empties the nest's outbox and counts, and changes nothing else (R13). -/
theorem discardResult_eq :
    s.discardResult n = (s.setNest n { s.nest n with stepOut := none }).modLnk
      fun l => { l with traceLost := satInc l.traceLost } := rfl

end Sys2Proof.Machine
end

