-- ==== Sys2Proof/Laws/Runs.lean ====
section
/-! SUPPORT. What captures, swaps, promotions and run ends do to nests and slots: a nest that they do not name keeps all
but capture bound, and a slot that they do not name stays as it is. -/

namespace Sys2Proof.Machine

/-- Two nests are equal but for capture bound (R118). -/
def Nest.SameButBound (x y : Nest) : Prop := { x with run := { x.run with bound := y.run.bound } } = y

theorem Nest.SameButBound.refl (x : Nest) : x.SameButBound x := rfl

theorem Nest.SameButBound.trans {x y z : Nest} (h : x.SameButBound y) (g : y.SameButBound z) : x.SameButBound z := by
  unfold Nest.SameButBound at *
  rw [← g, ← h]

/-- What equal nests but for capture bound have in common. -/
theorem Nest.SameButBound.fields {x y : Nest} (h : x.SameButBound y) :
    x.config = y.config ∧ x.seat = y.seat ∧ x.phase = y.phase ∧
      { x.run with bound := y.run.bound } = y.run ∧ x.window = y.window ∧ x.retryMarked = y.retryMarked ∧
      x.engine = y.engine ∧ x.analysis = y.analysis ∧ x.verdictOut = y.verdictOut ∧ x.stepOut = y.stepOut := by
  unfold Nest.SameButBound at h
  rw [← h]
  exact ⟨rfl, rfl, rfl, rfl, rfl, rfl, rfl, rfl, rfl, rfl⟩

theorem clearBound_same (x : Nest) (k : SlotId) : (x.clearBound k).SameButBound x := by
  unfold Nest.clearBound Nest.SameButBound
  split <;> rfl

variable (s : State)

@[simp] theorem nest_clearBounds (k : SlotId) (n : NestId) : (s.clearBounds k).nest n = (s.nest n).clearBound k := by
  unfold State.clearBounds allNests
  simp only [List.foldl, nest_modNest]
  fin_cases n <;> simp

theorem cancelCapture_nest (k : SlotId) (o : RefOutcome) (n : NestId) :
    ((s.cancelCapture k o).nest n).SameButBound (s.nest n) := by
  simp only [State.cancelCapture]
  split
  · exact .refl _
  all_goals simpa [State.produceRefDone] using clearBound_same (s.nest n) k

theorem swap_nest (k : SlotId) (n : NestId) : ((s.swap k).nest n).SameButBound (s.nest n) := by
  simp only [State.swap]
  (repeat' split)
  · exact .refl _
  · exact .refl _
  · simpa using cancelCapture_nest ((s.modSlot k _).setBuffer _ none) k .planSwap n
  · simpa using Nest.SameButBound.refl (s.nest n)

theorem promote_nest (k : SlotId) (n : NestId) : (s.promote k).nest n = s.nest n := by
  simp only [State.promote]
  (repeat' split) <;> simp [State.produceRefDone]

theorem releaseSlot_nest (k : SlotId) (n : NestId) : ((s.releaseSlot k).nest n).SameButBound (s.nest n) := by
  simp only [State.releaseSlot, State.deferredSwap, promote_nest]
  split
  · exact swap_nest s k n
  · exact .refl _

theorem addToCapture_nest (k : SlotId) (values : List Level) (n : NestId) :
    ((s.addToCapture k values).nest n).SameButBound (s.nest n) := by
  simp only [State.addToCapture]
  (repeat' split)
  · simpa using Nest.SameButBound.refl (s.nest n)
  · simpa using clearBound_same (s.nest n) k
  · exact .refl _

theorem offerCapture_nest (r : Run) (n : NestId) : ((s.offerCapture r).nest n).SameButBound (s.nest n) := by
  simp only [State.offerCapture]
  (repeat' split)
  · exact addToCapture_nest s _ _ n
  · exact .refl _
  · exact .refl _

/-- A verdict leaves every nest but for capture bound, and fills the outbox of its own (R134). -/
theorem formVerdict_nest (n m : NestId) : ∃ e, ((s.formVerdict n).nest m).SameButBound
    (if n = m then { s.nest m with verdictOut := some e } else s.nest m) := by
  simp only [State.formVerdict]
  refine ⟨verdictEvent n (s.nest n).run ((s.nest n).run.verdict (s.runTables n).settingsRow.retestLimit).1
    ((s.nest n).run.verdict (s.runTables n).settingsRow.retestLimit).2
    ((s.runTables n).grade (s.nest n).run.kind ((s.nest n).run.verdict (s.runTables n).settingsRow.retestLimit).1
      ((s.nest n).run.verdict (s.runTables n).settingsRow.retestLimit).2), ?_⟩
  have key : ∀ (a : State) (x : Event), (∀ j, a.nest j = s.nest j) →
      (((a.offerCapture (s.nest n).run).modNest n fun y => { y with verdictOut := some x }).nest m).SameButBound
        (if n = m then { s.nest m with verdictOut := some x } else s.nest m) := by
    intro a x ha
    have h := offerCapture_nest a (s.nest n).run m
    rw [ha] at h
    rw [nest_modNest]
    split
    · rename_i hm
      subst hm
      unfold Nest.SameButBound at h ⊢
      conv_rhs => rw [← h]
    · exact h
  split
  · exact key _ _ (by simp)
  · exact key _ _ (fun _ => rfl)

/-- Tracing a window changes the STEP_RESULT outbox of its nest and nothing else. -/
theorem traceWindow_nest (n : NestId) (x : Measures) (o : StepOutcome) (cause : Nat) : ∃ out, ∀ j,
    (s.traceWindow n x o cause).nest j = if n = j then { s.nest n with stepOut := out } else s.nest j := by
  simp only [State.traceWindow]
  split
  · exact ⟨_, fun j => by rw [nest_modNest]⟩
  · refine ⟨(s.nest n).stepOut, fun j => ?_⟩
    split
    · rename_i h
      rw [h]
    · rfl

theorem cancelCapture_slot (k : SlotId) (o : RefOutcome) {j : SlotId} (h : k ≠ j) :
    (s.cancelCapture k o).slot j = s.slot j := by
  simp only [State.cancelCapture]
  split <;> simp [State.produceRefDone, h]

theorem cancelCapture_occupancy (k : SlotId) (o : RefOutcome) (j : SlotId) :
    ((s.cancelCapture k o).slot j).occupancy = (s.slot j).occupancy := by
  by_cases h : k = j
  · subst h
    simp only [State.cancelCapture]
    split <;> simp [State.produceRefDone]
  · rw [cancelCapture_slot s k o h]

theorem swap_slot (k : SlotId) {j : SlotId} (h : k ≠ j) : (s.swap k).slot j = s.slot j := by
  simp only [State.swap]
  (repeat' split) <;> simp [cancelCapture_slot, h]

theorem swap_occupancy (k j : SlotId) : ((s.swap k).slot j).occupancy = (s.slot j).occupancy := by
  by_cases h : k = j
  · subst h
    simp only [State.swap]
    (repeat' split) <;> simp [cancelCapture_occupancy, Slot.install]
  · rw [swap_slot s k h]

theorem promote_slot (k : SlotId) {j : SlotId} (h : k ≠ j) : (s.promote k).slot j = s.slot j := by
  simp only [State.promote]
  (repeat' split) <;> simp [State.produceRefDone, h]

theorem promote_occupancy (k j : SlotId) : ((s.promote k).slot j).occupancy = (s.slot j).occupancy := by
  by_cases h : k = j
  · subst h
    simp only [State.promote]
    (repeat' split) <;> simp [State.produceRefDone]
  · rw [promote_slot s k h]

theorem releaseSlot_slot (k : SlotId) {j : SlotId} (h : k ≠ j) : (s.releaseSlot k).slot j = s.slot j := by
  simp only [State.releaseSlot, State.deferredSwap, promote_slot _ k h]
  split
  · exact swap_slot s k h
  · rfl

theorem releaseSlot_occupancy (k j : SlotId) : ((s.releaseSlot k).slot j).occupancy = (s.slot j).occupancy := by
  simp only [State.releaseSlot, State.deferredSwap, promote_occupancy]
  split
  · exact swap_occupancy s k j
  · rfl

theorem offerCapture_slot (r : Run) {j : SlotId} (h : r.slot ≠ j) : (s.offerCapture r).slot j = s.slot j := by
  simp only [State.offerCapture, State.addToCapture]
  (repeat' split) <;> simp [h]

theorem offerCapture_occupancy (r : Run) (j : SlotId) :
    ((s.offerCapture r).slot j).occupancy = (s.slot j).occupancy := by
  by_cases h : r.slot = j
  · subst h
    simp only [State.offerCapture, State.addToCapture]
    (repeat' split) <;> simp
  · rw [offerCapture_slot s r h]

theorem formVerdict_slot (n : NestId) {j : SlotId} (h : (s.nest n).run.slot ≠ j) :
    (s.formVerdict n).slot j = s.slot j := by
  simp only [State.formVerdict]
  split <;> simp [offerCapture_slot, h]

theorem formVerdict_occupancy (n : NestId) (j : SlotId) :
    ((s.formVerdict n).slot j).occupancy = (s.slot j).occupancy := by
  simp only [State.formVerdict]
  split <;> simp [offerCapture_occupancy]

end Sys2Proof.Machine
end

