-- ==== Sys2Proof/Laws/Sweep.lean ====
section
/-! SUPPORT. What the sweep engine does at a run end and on entering a dwell, field by field; the levels of an input that an
event row leaves. -/

namespace Sys2Proof.Machine

variable (e : Engine) (t : Tables) (trim rf code : Nat) (b : Bool)

@[simp] theorem settled_line : (Debounce.settled b).line = b := rfl
@[simp] theorem settled_stable : (Debounce.settled b).stable = b := rfl
@[simp] theorem settled_count : (Debounce.settled b).count = 0 := rfl
@[simp] theorem pulsed_line : (Debounce.pulsed code).line = false := rfl
@[simp] theorem pulsed_stable : (Debounce.pulsed code).stable = (code != 0) := rfl
@[simp] theorem pulsed_count : (Debounce.pulsed code).count = 0 := rfl

@[simp] theorem silence_mode : e.silence.mode = .silent := rfl
@[simp] theorem silence_lobe : e.silence.lobe = .ended := rfl
@[simp] theorem silence_step : e.silence.step = e.step := rfl
@[simp] theorem silence_k : e.silence.k = e.k := rfl
@[simp] theorem silence_last : e.silence.last = e.last := rfl

@[simp] theorem enterDwell_mode : (e.enterDwell t trim).mode = .step := rfl
@[simp] theorem enterDwell_k : (e.enterDwell t trim).k = 0 := rfl
@[simp] theorem enterDwell_step : (e.enterDwell t trim).step = e.step := rfl
@[simp] theorem enterDwell_held : (e.enterDwell t trim).held = false := rfl
@[simp] theorem enterDwell_last : (e.enterDwell t trim).last = e.last := rfl
@[simp] theorem enterDwell_fade : (e.enterDwell t trim).fade = e.fade := rfl

/-- The whole engine of a nest that becomes RUNNING (R44, R46, R48, R52, R55): nothing of an earlier run stays in it but the
fade length, which the next fade sets. -/
theorem startRun_eq :
    e.startRun t trim = { e with
      mode := .step, step := 0, k := 0, held := false, acc := 0, retry := 0, ext := 0, fade := 0, last := .quiet
      inc := BitVec.ofNat 32 (increment (t.step 0).freq), aeff := stepAmplitude (t.step 0).level trim
      lobe := if (t.step 0).kind = .pulse then .isOpen else .ended } := by
  simp [Engine.startRun, Engine.enterDwell, Engine.stepRec, Engine.afterTone]

/-- A tone's end is a fade-out, or silence where the slot has no fade frames (R50). -/
theorem fadeTone_cases :
    (0 < rf ∧ e.fadeTone rf = { e with mode := .endFade, fade := 0, fadeLen := rf }) ∨ (rf = 0 ∧ e.fadeTone rf = e.silence) := by
  unfold Engine.fadeTone; split <;> simp_all

/-- Everything a run end can make of the engine (R58): it stands as it is, is silent, or fades. -/
theorem endRun_cases :
    (e.endRun t = e ∧ (e.mode = .endFade ∨ e.mode = .silent)) ∨
    (e.mode = .stepFade ∧ e.endRun t = { e with mode := .endFade }) ∨
    (e.mode = .step ∧ ∃ x : Engine, (x = e ∨ ∃ inc aeff, e.last = .tone inc aeff ∧ x = { e with inc := inc, aeff := aeff }) ∧
      (e.endRun t = x.silence ∨
        0 < t.settingsRow.fade ∧
          e.endRun t = { x with mode := .endFade, fade := 0, fadeLen := t.settingsRow.fade })) := by
  obtain ⟨m, hm⟩ : ∃ m, e.mode = m := ⟨_, rfl⟩
  obtain ⟨l, hl⟩ : ∃ l, e.last = l := ⟨_, rfl⟩
  have fade (x : Engine) : x.fadeTone t.settingsRow.fade = x.silence ∨ 0 < t.settingsRow.fade ∧
      x.fadeTone t.settingsRow.fade = { x with mode := .endFade, fade := 0, fadeLen := t.settingsRow.fade } := by
    rcases fadeTone_cases x t.settingsRow.fade with h | ⟨_, h⟩
    · exact .inr h
    · exact .inl h
  cases m with
  | silent => exact .inl ⟨by simp [Engine.endRun, hm], .inr hm⟩
  | endFade => exact .inl ⟨by simp [Engine.endRun, hm], .inl hm⟩
  | stepFade => exact .inr (.inl ⟨hm, by simp [Engine.endRun, hm]⟩)
  | step =>
    refine .inr (.inr ⟨hm, ?_⟩)
    simp only [Engine.endRun, hm, hl]
    cases l with
    | here =>
      refine ⟨e, .inl rfl, ?_⟩
      dsimp only
      split
      · exact fade e
      · exact .inl rfl
    | quiet => exact ⟨e, .inl rfl, .inl rfl⟩
    | tone inc aeff => exact ⟨_, .inr ⟨inc, aeff, rfl, rfl⟩, fade _⟩

end Sys2Proof.Machine
end

