-- ==== Sys2Proof/Tests/Slice0.lean ====
section
/-! SUPPORT. Tests of the model against values that the spec states, and for each statement with hypotheses a witness:
concrete states and operands that meet them. -/

namespace Sys2Proof.Tests
open Sys2Proof.Machine

/-! ### Small states -/

/-- A step row. -/
def planRow (kind mask freq dwell ws we : Nat) (ref : Bool) : Row :=
  [put kind 30 2 ||| flag ref 25 ||| put mask 16 7 ||| sput (-512) 0 16, put freq 0 19, halves dwell ws, halves we 0]

/-- A settings row: retest limit 1, retry limit 1, seat mode SEAT, seat timeout 3000 ms, fade 96, settle limit 192. -/
def settings : Row := [0x00010000#32, 0x00010001#32, 0x00600BB8#32, 0x7FFF00C0#32, 0x8000#32, 0x14010A00#32, 0x2802#32, 0#32]

/-- The same with seat mode IMMEDIATE. -/
def settingsNow : Row := [0x00010000#32, 0x00000001#32, 0x00600BB8#32, 0x7FFF00C0#32, 0x8000#32, 0x14010A00#32, 0x2802#32, 0#32]

/-- Tables with a TONE, a TONE and a GAP, each judged by an empty mask row. -/
def tabs : Tables :=
  { settings := [settings]
    plan := [planRow 0 0 16000 1920 960 1920 true, planRow 0 0 32000 1920 480 1440 false,
             planRow 2 0 16000 960 128 960 false]
    mask := [[0#32, 0#32, 0#32, 0#32, 0#32, 0#32]]
    grading := [] }

/-- A lot with id 7, balanced: 3 started, 1 in flight, 1 awaiting its mark, 1 outstanding. -/
def lot7 : Lot :=
  { id := 7, closing := false, summary := none, genAtOpen := 0, commits := 0, started := 3, inFlight := 1, awaiting := 1,
    outstanding := 1, passed := 0, failed := 0, aborted := 0, retests := 1, classes := Vector.replicate 13 0,
    window := [], tripped := false }

/-- Slot 0 loaded with `tabs` and the lot. -/
def loaded : State :=
  (State.reset.setSlot 0 { Slot.initial with loaded := true, tables := tabs }).setLot 0 (some lot7)

/-- A session of slot 0 in buffer 1 with staged tables `t`. -/
def staged (t : Tables) (copy isPending touched : Bool) : Session :=
  { slot := 0, copy := copy, pending := isPending, tables := t, planTouched := touched }

def withSession (e : Session) : State := loaded.setBuffer 1 (some e)

/-- Nest 0 in a phase. -/
def inPhase (p : Phase) : State := loaded.modNest 0 fun x => { x with phase := p }

/-- Nest 0 RUNNING at frame k of step i, its engine in STEP. -/
def atFrame (w : WindowPhase) (i k : Nat) : State :=
  (inPhase .running).modNest 0 fun x =>
    { x with window := w, engine := { x.engine with mode := .step, step := i, k := k } }

/-- A state with `n` replies waiting. -/
def replies (n : Nat) : State :=
  { State.reset with lnk := { State.reset.lnk with replyQ := List.replicate n ⟨0x81#8, 15#4, 0#8, [0#32]⟩ } }

/-- A label record of nest 0 for lot 7. -/
def label (kind : LabelKind) (issued : Bool) : Label :=
  { nest := 0, lotId := 7, kind := kind, code := 10, bin := 2, classes := 1, issued := issued, age := 0 }

def withLabels (l : List Label) : State := { loaded with mrk := { loaded.mrk with records := l } }

def entry : RetestEntry := { serial := 5, slot := 0, lotId := 7, attempts := 1, classes := 1 }

def frozen : State := { loaded with prot := { loaded.prot with freeze := true } }

/-- Head presence PRESENT with `e` ticks gone. -/
def present (e : Nat) : State :=
  { loaded with lnk := { loaded.lnk with presence := .present, elapsed := e } }

/-- The event queue with `n` messages and a wait line. -/
def waiting (n : Nat) (line : List Producer) (s : State) : State :=
  { s with lnk := { s.lnk with eventQ := List.replicate n ⟨0x82#8, 15#4, 0#8, [0#32]⟩, waitLine := line } }

def anEvent : Event := { kind := 0x83#8, scope := 0#4, body := [] }

/-! ### Well-formedness, commands -/

/-- A STAGE_ROWS body of 63 words fits no message (R9: the length field is not 63). -/
theorem test_stageRows_too_long : (Instr.stageRows 0 0 (List.replicate 63 0#32)).wf = false := by decide
theorem test_stageRows_longest : (Instr.stageRows 0 0 (List.replicate 62 0#32)).wf = true := by decide
/-- No row of the table gives bits. -/
theorem test_no_table_words : decodeTableWord 32 0x5F012C02 = none := rfl
theorem test_withFetchWord : State.withFetchWord State.reset 8 1 = State.reset := rfl

/-! ### Messages (values of section 1.6 and of its example) -/

/-- HELLO with tag 0x2C: header 0x5F012C02, check word 0x74FC8B03 (R9, R18). -/
theorem test_hello_words : (Instr.hello 15 0x2C).wireWords = some [0x5F012C02#32, 0x74FC8B03#32] := by decide
theorem test_hello_reads : parseMessage [0x5F012C02#32, 0x74FC8B03#32] = some (.hello 15 0x2C) := by decide
/-- The same header with its parity pair 11 is no header. -/
theorem test_header_parity_pair : isHeader 0x5F012C02#32 = true ∧ isHeader 0x5F012C03#32 = false := by decide

/-! ### Power-on -/

/-- POWER_ON with the strap inactive, from the state after power-on, gives that state again (R36, R174). -/
theorem test_powerOn_is_reset : exec (.powerOn false) State.reset = .next State.reset := rfl
/-- With the strap active every slot is protected (R36, R37). -/
theorem test_strap_protects :
    (match exec (.powerOn true) State.reset with
      | .next t => allSlots.all t.prot.protects
      | _ => false) = true := by decide

/-! ### Arithmetic (tables of R44, R45, R47, R48, R81, R165) -/

theorem test_pexp : [0, -1, -300, -512, -4095, -4096].map pexp = [8388607, 8372224, 3833856, 2097152, 128, 128] := by
  decide
theorem test_plog : [1, 3, 5, 128, 255, 4800, 65535, 144000000, 25 * 2 ^ 88].map plog =
    [0, 384, 576, 1792, 2046, 3116, 4095, 6930, 23696] := by decide
theorem test_sineV : [0#32, 0x20000000#32, 0x40000000#32, 0x60000000#32, 0x80000000#32, 0xA0000000#32, 0xC0000000#32,
    0xE0000000#32].map sineV = [25, 23188, 32767, 23152, -25, -23188, -32767, -23152] := by decide
/-- −69,344,870,400 / 32768 gives −2,116,237 (R48). -/
theorem test_truncates_toward_zero : (-69344870400 : Int).tdiv 32768 = -2116237 := by decide
theorem test_trim_saturates : stepAmplitude 0 255 = 8388607 ∧ stepAmplitude (-4096) 1 = 1 := by decide
theorem test_packed_digits : [0, 333, 987, 1000].map packedDigits = [0x0000, 0x0333, 0x0987, 0x1000] := by decide

/-! ### Single commands -/

/-- The state after a command. -/
def after (c : Instr) (s : State) : State := match exec c s with | .next t => t | .fault _ => s | .refused _ => s

/-- HELLO's reply starts with kind 0x01, code OK (R11, R175). -/
theorem test_hello_reply : (after (.hello 15 0x2C) State.reset).lnk.replyQ.map (fun m => (m.kind, m.tag, m.body.take 2)) =
    [(0x81#8, 0x2C#8, [0x01000000#32, 0x0C41019C#32])] := by decide +kernel
/-- START of slot 1, which is EMPTY: NOT_READY, code 8 (R66, order 3). -/
theorem test_start_empty_slot : (after (.start 0 3 0x10000000#32 9#32) loaded).lnk.replyQ.map (·.body) =
    [[0x21080000#32]] := by decide +kernel
/-- START of slot 0 with seat mode SEAT and the seat open arms the nest and binds the unit to lot 7 (R67). -/
theorem test_start_arms : let x := (after (.start 0 3 0#32 9#32) loaded).nest 0
    (x.phase, x.run.lotId, x.run.seatTimer, x.run.attempt) = (.armed, 7#32, 30000, 1) := by decide +kernel
/-- LOT_CLOSE of a lot with nothing in flight and nothing awaiting its mark: the summary is admitted at once and the
record freed (R159, R164). -/
theorem test_lot_close_completes :
    let s := loaded.setLot 0 (some { lot7 with started := 0, inFlight := 0, awaiting := 0, outstanding := 0 })
    let t := after (.lotClose 0 3) s
    t.lot 0 = none ∧ t.lnk.eventQ.map (·.kind) = [0x82#8, 0x85#8] ∧ t.lnk.replyQ.length = 1 := by decide +kernel
/-- The issued FINAL_PASS label is MARKED: the unit passes (R151, R160). -/
theorem test_marked_counts :
    ((after .markedResult (withLabels [label .finalPass true])).lot 0).map (fun l => (l.awaiting, l.passed, l.window)) =
      some (0, 1, [true]) := by decide +kernel
/-- JAM of the issued FINAL_PASS label: the unit fails with UNMARKED, and LABEL_FAULT is set (R152, R160). -/
theorem test_jam_fails :
    ((after .jamResult (withLabels [label .finalPass true])).lot 0).map (fun l => (l.failed, l.classes[11])) = some (1, 1) ∧
      (after .jamResult (withLabels [label .finalPass true])).ntc.flags = 0x20#8 := by decide +kernel
/-- A head frame whose count is not the expected one is a slip; the expectation follows the frame (R3). -/
theorem test_slip :
    let s : State := { present 3 with lnk := { (present 3).lnk with expect := some 9 } }
    let t := after (.headFrame { word0 := 0xC35A7E0B#32, samples := Vector.replicate 9 0x80000000#32, aux := 6 }) s
    t.lnk.slip = 1 ∧ t.lnk.expect = some 0x0C#8 ∧ t.lnk.auxToLine = 6#32 := by decide +kernel
/-- FREEZE, then PROTECT_ALL: LOCKED, code 4 (R38, R39). -/
theorem test_frozen_is_locked : (after (.protectAll 15 1) frozen).lnk.replyQ.map (·.body) = [[0x19040000#32]] := by decide +kernel

/-! ### Witnesses: the queue of commands, messages -/

theorem witness_StepTakesFront : State.reset.pending = [] := rfl

theorem witness_StepKeepsQueues :
    State.QueuesOk { State.reset with pending := [.hello 15 1] } ∧
    (∃ t, step { State.reset with pending := [.hello 15 1] } = .next t) ∧
    State.QueuesOk (waiting 16 [.ntc] State.reset) ∧ (∃ t, step (waiting 16 [.ntc] State.reset) = .next t) :=
  ⟨by unfold State.QueuesOk; decide, ⟨_, rfl⟩, by unfold State.QueuesOk; decide, ⟨_, rfl⟩⟩

theorem witness_MessageRoundTrip :
    ((Instr.hello 15 0x2C).wf = true ∧ (Instr.hello 15 0x2C).message = some (.hello, 15, 0x2C, []) ∧
      Kind.hello.lengthOk ([] : List Word).length = true ∧ Kind.hello.scopeOk 15 = true) ∧
    ((Instr.stageRows 7 0 (List.replicate 62 0#32)).wf = true ∧
      (Instr.stageRows 7 0 (List.replicate 62 0#32)).message = some (.stageRows, 7, 0, List.replicate 62 0#32) ∧
      Kind.stageRows.lengthOk (List.replicate 62 0#32).length = true ∧ Kind.stageRows.scopeOk 7 = true) := by decide

theorem witness_HeaderDetectsOneBit : 62#6 ≠ 63#6 ∧ 0 < 32 ∧ 31 < 32 := by decide

theorem witness_AssemblerTakesMessage :
    State.reset.lnk.asm = .hunt ∧ Kind.hello.lengthOk ([] : List Word).length = true ∧
      Kind.stageRows.lengthOk (List.replicate 62 0#32).length = true := by decide

theorem witness_MessageTests :
    ((Instr.hello 15 0).message = some (.hello, 15, 0, []) ∧ Config.replyCap ≤ (replies 4).lnk.replyQ.length ∧
      Kind.hello ≠ .softReset ∧ Kind.softReset.scopeOk 14 = false) ∧
    ((Instr.stageRows 0 0 [0#32, 0#32]).message = some (.stageRows, 0, 0, [0#32, 0#32]) ∧ (replies 3).ReplyRoom ∧
      Kind.stageRows.lengthOk [0#32, 0#32].length = false) ∧
    ((Instr.abort 4 0).message = some (.abort, 4, 0, []) ∧ (replies 3).ReplyRoom ∧
      Kind.abort.lengthOk ([] : List Word).length = true ∧ Kind.abort.scopeOk 4 = false) := by
  unfold State.ReplyRoom; refine ⟨?_, ?_, ?_⟩ <;> decide

theorem witness_LinkCommands :
    (replies 3).ReplyRoom ∧ (0xFF00#32).extractLsb' 0 8 = 0#8 ∧ (0x0001#32).extractLsb' 0 8 ≠ 0#8 ∧
      13 < ((0x0E00#32).extractLsb' 8 8).toNat ∧ 13 < ((0x000E#32).extractLsb' 0 8).toNat ∧
      ((0x0D0D#32).extractLsb' 8 8).toNat ≤ 13 ∧ ((0x0D0D#32).extractLsb' 0 8).toNat ≤ 13 := by
  unfold State.ReplyRoom; decide

theorem witness_StatusReadsThenClears : (replies 3).ReplyRoom := by unfold State.ReplyRoom; decide

/-! ### Witnesses: TBS -/

theorem witness_ProtectionGuards :
    (replies 3).ReplyRoom ∧ (replies 3).prot.protects 0 = false ∧
    State.ReplyRoom { State.reset with prot := { State.reset.prot with allProtected := true } } ∧
    (∀ k, State.reset.prot.protects k = false ∧ Protection.protects { State.reset.prot with allProtected := true } k = true) ∧
    3 ≤ (List.replicate 3 0#32).length ∧ (List.replicate 62 0#32).length ≤ 62 := by
  unfold State.ReplyRoom; decide

/-- CLEAR on a slot that is not loaded into buffer 0; COPY of slot 0 into buffer 1, buffer 0 bound to slot 5. -/
theorem witness_StageOpenEffect :
    (State.reset.ReplyRoom ∧ State.reset.prot.protects 7 = false ∧ State.reset.session 7 = none ∧ bits 0#32 0 8 ≤ 1 ∧
      (bits 0#32 0 8 = 1 → (State.reset.slot 7).loaded = true) ∧ State.reset.buffer 0 = none ∧
      (∀ b' : Fin 2, b' < 0 → State.reset.buffer b' ≠ none)) ∧
    (let s := loaded.setBuffer 0 (some { staged tabs true false false with slot := 5 })
     s.ReplyRoom ∧ s.prot.protects 0 = false ∧ s.session 0 = none ∧ bits 1#32 0 8 ≤ 1 ∧
      (bits 1#32 0 8 = 1 → (s.slot 0).loaded = true) ∧ s.buffer 1 = none ∧
      (∀ b' : Fin 2, b' < 1 → s.buffer b' ≠ none)) := by
  unfold State.ReplyRoom; decide

/-- CLEAR: the sixteenth grading row; COPY: the last row of the plan again. -/
theorem witness_StageRowsEffect :
    (let e := staged { tabs with grading := List.replicate 15 [0#32, 0#32] } false false false
     let s := withSession e
     let rows : List Row := [[1#32, 0#32]]
     s.ReplyRoom ∧ s.prot.protects 0 = false ∧ s.sessionBuffer 0 = some 1 ∧ s.buffer 1 = some e ∧ e.pending = false ∧
      rows ≠ [] ∧ (∀ r ∈ rows, r.length = rowSize 3) ∧ 1 + rows.flatten.length ≤ 62 ∧
      (if e.copy then 15 ≤ (e.tables.get 3).length else 15 = (e.tables.get 3).length) ∧
      15 + rows.length ≤ capacity 3) ∧
    (let e := staged tabs true false false
     let s := withSession e
     let rows : List Row := [planRow 0 0 16000 1920 960 1920 true]
     s.ReplyRoom ∧ s.prot.protects 0 = false ∧ s.sessionBuffer 0 = some 1 ∧ s.buffer 1 = some e ∧ e.pending = false ∧
      rows ≠ [] ∧ (∀ r ∈ rows, r.length = rowSize 1) ∧ 1 + rows.flatten.length ≤ 62 ∧
      (if e.copy then 2 ≤ (e.tables.get 1).length else 2 = (e.tables.get 1).length) ∧
      2 + rows.length ≤ capacity 1) := by
  unfold State.ReplyRoom; decide

/-- No settings row; valid tables at occupancy 0 and at occupancy 1. -/
theorem witness_StageCommitEffect :
    (let s := withSession (staged tabs false false true)
     s.ReplyRoom ∧ s.prot.protects 0 = false ∧ s.sessionBuffer 0 = some 1 ∧
      s.buffer 1 = some (staged tabs false false true) ∧ (s.slot 0).occupancy = 0) ∧
    validate { tabs with settings := [] } = some (0, 0) ∧ validate { tabs with grading := [[0x2000#32, 0#32]] } = some (3, 0) ∧
    validate tabs = none ∧
    (((withSession (staged tabs false false true)).modSlot 0 fun x => { x with occupancy := 1 }).slot 0).occupancy ≠ 0 := by
  unfold State.ReplyRoom; decide

theorem witness_SwapInstalls :
    (withSession (staged tabs false true true)).sessionBuffer 0 = some 1 ∧
    (withSession (staged tabs false true true)).buffer 1 = some (staged tabs false true true) ∧
    (staged tabs false true true).planTouched = true ∧ (staged tabs true true false).planTouched = false ∧
    (withSession (staged tabs true true false)).sessionBuffer 0 = some 1 := by decide

theorem witness_DiscardAndRead :
    loaded.ReplyRoom ∧ loaded.session 0 = none ∧ (withSession (staged tabs false false false)).sessionBuffer 0 = some 1 ∧
    (bits 0x01000300#32 16 8 = 0 ∧ (loaded.slot 0).loaded = true ∧ bits 0x01000300#32 24 8 ≤ 3 ∧
      bits 0x01000300#32 8 8 ≤ ((loaded.slot 0).tables.get (bits 0x01000300#32 24 8)).length) ∧
    (bits 0x03010000#32 16 8 = 1 ∧
      (withSession (staged tabs false false false)).session 0 = some (staged tabs false false false) ∧
      bits 0x03010000#32 24 8 ≤ 3 ∧ bits 0x03010000#32 8 8 ≤ (tabs.get (bits 0x03010000#32 24 8)).length) := by
  unfold State.ReplyRoom; decide

/-- Ranges 7–7 inverted and 0–7; a lower bound above the upper, an upper bound of 8, an invert field of 2. -/
theorem witness_ProtectionCommands :
    loaded.ReplyRoom ∧ loaded.prot.freeze = false ∧ frozen.ReplyRoom ∧ frozen.prot.freeze = true ∧
    (bits 0x00070701#32 16 8 ≤ bits 0x00070701#32 8 8 ∧ bits 0x00070701#32 8 8 ≤ 7 ∧ bits 0x00070701#32 0 8 ≤ 1) ∧
    bits 0x00070600#32 8 8 < bits 0x00070600#32 16 8 ∧ 7 < bits 0x00000800#32 8 8 ∧ 1 < bits 0x00000702#32 0 8 := by
  unfold State.ReplyRoom; decide

theorem witness_FreezeHolds :
    frozen.prot.freeze = true ∧ (∃ t, exec (.protectAll 15 0) frozen = .next t) ∧ (∃ t, exec .keyOn frozen = .next t) :=
  ⟨by decide, ⟨_, rfl⟩, ⟨_, rfl⟩⟩

theorem witness_KeyTurns :
    frozen.prot.key.stable = false ∧
    State.prot (match exec .keyOn frozen with | .next t => t | _ => frozen) =
      { frozen.prot with key := ⟨true, true, 0⟩, freeze := false, allProtected := true } := by decide

theorem witness_QueriesReport : loaded.ReplyRoom ∧ loaded.lot 0 = some lot7 ∧ loaded.lot 7 = none := by
  unfold State.ReplyRoom; decide

theorem witness_CaptureCommands :
    loaded.ReplyRoom ∧ loaded.prot.protects 0 = false ∧ (loaded.slot 0).loaded = true ∧ loaded.commitPending 0 = false ∧
    (loaded.slot 0).capture = .idle ∧ (loaded.slot 0).refDone = none ∧ 1 ≤ bits 1#32 0 8 ∧ bits 8#32 0 8 ≤ 8 ∧
    (loaded.setSlot 0 { loaded.slot 0 with capture := .capturing 8 0 [0] }).ReplyRoom ∧
    ((loaded.setSlot 0 { loaded.slot 0 with capture := .capturing 8 0 [0] }).slot 0).capture ≠ .idle := by
  unfold State.ReplyRoom; decide

theorem witness_ReleaseAtOccupancyZero :
    ((withSession (staged tabs true true false)).slot 0).occupancy = 0 ∧
    (withSession (staged tabs true true false)).commitPending 0 = true ∧ loaded.commitPending 0 = false ∧
    ((loaded.setSlot 0 { loaded.slot 0 with capture := .pending 1 1 [-100] }).slot 0).capture = .pending 1 1 [-100] ∧
    ((loaded.setSlot 0 { loaded.slot 0 with capture := .pending 1 1 [-100] }).slot 0).occupancy = 0 := by decide

/-! ### Witnesses: nests and runs -/

/-- Calibrations 8191 and −8192, bench with the key ON. -/
theorem witness_NestConfigEffect :
    let s : State := { loaded with prot := { loaded.prot with key := ⟨true, true, 0⟩ } }
    s.ReplyRoom ∧ (s.nest 3).phase = .idle ∧ bits 0x000010FF#32 0 8 ≠ 0 ∧ bits 0x000010FF#32 8 2 ≤ 1 ∧
    -8192 ≤ sbits 0x1FFFE000#32 16 16 ∧ sbits 0x1FFFE000#32 16 16 = 8191 ∧ sbits 0x1FFFE000#32 0 16 = -8192 ∧
    sbits 0x1FFFE000#32 0 16 ≤ 8191 ∧ ((0x000010FF#32).getLsbD 12 = true → s.prot.key.stable = true) := by
  unfold State.ReplyRoom; decide

/-- A START that every check lets pass, one that is BUSY, one on a slot out of range. -/
theorem witness_StartCommand :
    loaded.ReplyRoom ∧ startCheck loaded 0 ⟨0, false, true, 9⟩ = .ok ∧ startCheck (inPhase .armed) 0 ⟨0, false, true, 9⟩ = .busy ∧
    startCheck loaded 3 ⟨8, false, true, 9⟩ = .range ∧
    startCheck (loaded.setSlot 0 { loaded.slot 0 with capture := .capturing 8 0 [0] }) 0 ⟨0, true, false, 9⟩ = .ok := by
  unfold State.ReplyRoom; decide

theorem witness_StartBindsRun :
    runKindOf false (loaded.nest 0).config.bench = .counted ∧ loaded.openLot 0 = some lot7 ∧
    ((loaded.slot 0).tables.settingsRow.seatMode == 0 || (loaded.nest 0).seat.stable) = false ∧
    (Tables.settingsRow { tabs with settings := [settingsNow] }).seatMode = 0 := by decide

theorem witness_StartCountsUnit :
    runKindOf true (loaded.nest 0).config.bench ≠ .counted ∧ runKindOf false (loaded.nest 0).config.bench = .counted ∧
    loaded.retestEntry 9 = none ∧ State.retestEntry { loaded with retest := [entry] } 5 = some entry ∧ entry.slot = 0 := by
  decide

theorem witness_AbortEffect :
    (inPhase .idle).ReplyRoom ∧ ((inPhase .armed).nest 0).phase = .armed ∧ ((inPhase .running).nest 0).phase = .running ∧
    ((inPhase .idle).nest 0).phase = .idle ∧ ((inPhase .closing).nest 0).phase = .closing ∧
    ((inPhase .reporting).nest 0).phase = .reporting := by
  unfold State.ReplyRoom; decide

theorem witness_RunEndLeaves :
    ((inPhase .armed).nest 0).phase = .armed ∧ ((atFrame .isOpen 1 700).nest 0).phase = .running := by decide

theorem witness_VerdictOrder :
    Run.blank.endCause = .isOpen ∧ Run.endCause { Run.blank with endCause := .aborted .headLoss } = .aborted .headLoss ∧
    Run.failSet { Run.blank with failSet := 4 } ≠ 0#16 ∧ Run.blank.failSet = 0#16 ∧ Run.blank.marginalSet = 0#16 ∧
    (∀ c, Run.blank.endCause ≠ .aborted c) ∧
    (Run.marginalSet { Run.blank with marginalSet := 1, attempt := 3 } ≠ 0#16 ∧ 3 ≤ 3 ∧ 2 < 3) := by
  refine ⟨by decide, by decide, by decide, by decide, by decide, ?_, by decide⟩
  intro c; simp [Run.blank]

/-- Both lists full, one record ISSUED. -/
theorem witness_VerdictRecords :
    (List.replicate 32 entry).length ≤ 32 ∧
    (label .finalPass true :: List.replicate 7 (label .retest false)).length ≤ 8 ∧
    ((label .finalPass true :: List.replicate 7 (label .retest false)).filter (·.issued)).length ≤ 1 := by decide

theorem witness_SeatEvents :
    ((inPhase .armed).nest 0).seat.stable = false ∧ ((inPhase .armed).nest 0).phase = .armed ∧
    ((inPhase .idle).nest 0).phase ≠ .armed ∧
    (((inPhase .running).modNest 0 fun x => { x with seat := ⟨true, true, 0⟩ }).nest 0).seat.stable = true ∧
    (((inPhase .running).modNest 0 fun x => { x with seat := ⟨true, true, 0⟩ }).nest 0).phase = .running := by decide

/-- k = Ws = 960 of step 0, QUIET; and LOUD with the extension count at 191 and at the limit 192. -/
theorem witness_WindowStartDecides :
    let s := atFrame .before 0 960
    let u (x : Nat) : State := { s.modEngine 0 fun e => { e with ext := x } with amb := { s.amb with loud := true } }
    (s.nest 0).phase = .running ∧ (s.nest 0).engine.mode = .step ∧ (s.nest 0).window = .before ∧
    (s.nest 0).engine.k = (s.stepRec 0).ws ∧ s.amb.loud = false ∧
    ((u 191).nest 0).engine.k = ((u 191).stepRec 0).ws ∧ (u 191).amb.loud = true ∧
    ((u 191).nest 0).engine.ext < ((u 191).runSettings 0).settleLimit ∧
    ((u 192).runSettings 0).settleLimit ≤ ((u 192).nest 0).engine.ext := by decide

/-- Frame We − 1 = 1919 of step 0: a slip seen, with retry count 0 and limit 1; and an undisturbed window. -/
theorem witness_WindowEndOutcomes :
    let s := atFrame .isOpen 0 1919
    let u := s.modNest 0 fun x => { x with analysis := { x.analysis with win := { x.analysis.win with slipSeen := true } } }
    (u.windowEndDue 0 = true ∧
      (u.windowMeasures 0).disturbance (u.runSettings 0).ambientLimit = some .slip ∧
      (u.nest 0).engine.retry < (u.runSettings 0).retryLimit) ∧
    (s.windowEndDue 0 = true ∧ (s.windowMeasures 0).disturbance (s.runSettings 0).ambientLimit = none ∧
      ((s.stepRec 0).contact = true → (s.windowMeasures 0).contactFails (s.runSettings 0).contactFloor = false) ∧
      (s.nest 0).engine.step + 1 < (s.runTables 0).plan.length) := by decide

/-- Frame D − 1 of step 0, with and without a retry marked; the last STEP_FADE frame before the GAP; CLOSING. -/
theorem witness_DwellsAndFadesEnd :
    let s := atFrame .closed 0 1919
    let u := s.modNest 0 fun x => { x with retryMarked := true }
    let v := (atFrame .before 2 0).modEngine 0 fun e => { e with mode := .stepFade, fade := 95, fadeLen := 96 }
    s.dwellEndDue 0 = true ∧ (s.nest 0).retryMarked = false ∧ u.dwellEndDue 0 = true ∧ (u.nest 0).retryMarked = true ∧
    v.stepFadeEndDue 0 = true ∧ (v.stepRec 0).kind ≠ .tone ∧ ((inPhase .closing).nest 0).phase = .closing := by decide

/-! ### Witnesses: AMB, the tick -/

/-- H = 4 and Q = 960 at the counts before the turn and one earlier; Q 1 and 0; codes −4096, 0 and 1. -/
theorem witness_AmbientMonitor :
    let a := State.reset.amb
    (a.loud = false ∧ 2 + 1 < [1, 4, 16, 64].getD a.holdSel 64 ∧ [1, 4, 16, 64].getD a.holdSel 64 ≤ 3 + 1) ∧
    (Ambient.loud { a with loud := true } = true ∧ 958 + 1 < a.quietTime ∧ a.quietTime ≤ 959 + 1) ∧
    State.reset.ReplyRoom ∧
    (bits 0x00011000#32 16 16 ≠ 0 ∧ sbits 0x00011000#32 0 13 = -4096 ∧ sbits 0x00010000#32 0 13 ≤ 0) ∧
    (bits 0x00001000#32 16 16 = 0 ∧ 0 < sbits 0x00010001#32 0 13) := by
  unfold State.ReplyRoom; decide

theorem witness_TickSamples :
    (let d : Debounce := ⟨true, false, 0⟩
     d.count = 0 ∧ 1 ≤ 20 ∧ d.line ≠ d.stable ∧ 19 < 20 ∧ 20 ≤ 20) ∧
    ((present 8).lnk.presence = .present ∧ (present 8).lnk.elapsed < 9 ∧ 9 ≤ (present 9).lnk.elapsed) := by decide

/-! ### Witnesses: lots -/

theorem loaded_lot (j : SlotId) (l : Lot) (h : loaded.lot j = some l) : l = lot7 := by
  have all : ∀ j, loaded.lot j = none ∨ loaded.lot j = some lot7 := by decide
  rcases all j with e | e
  · rw [e] at h; cases h
  · rw [e] at h; cases h; rfl

theorem witness_ReportsKeepBalance :
    (∀ j l, loaded.lot j = some l → l.Balanced) ∧ (∀ l, loaded.lot 0 = some l → 0 < l.outstanding) ∧
    (∀ l, loaded.lot 0 = some l → 0 < l.inFlight) ∧ (∀ l, loaded.lot 0 = some l → 0 < l.awaiting) ∧
    loaded.lotSlot 7 = some 0 ∧ loaded.lotSlot (label .finalPass true).lotId = some 0 ∧
    loaded.lotSlot entry.lotId = some 0 := by
  refine ⟨?_, ?_, ?_, ?_, by decide, by decide, by decide⟩
  · intro j l h; rw [loaded_lot j l h]; unfold Lot.Balanced; decide
  · intro l h; rw [loaded_lot 0 l h]; decide
  · intro l h; rw [loaded_lot 0 l h]; decide
  · intro l h; rw [loaded_lot 0 l h]; decide

theorem witness_LotCommands :
    ((loaded.setLot 0 none).ReplyRoom ∧ (loaded.setLot 0 none).lot 0 = none ∧
      ((loaded.setLot 0 none).slot 0).loaded = true ∧ (∀ j, (loaded.setLot 0 none).lot j = none)) ∧
    (loaded.lot 7 = none ∧ loaded.lot 0 = some lot7 ∧ lot7.closing = false) ∧
    (loaded.setLot 0 (some { lot7 with closing := true })).lot 0 = some { lot7 with closing := true } := by
  unfold State.ReplyRoom; decide

theorem witness_LotCompletes :
    let l : Lot := { lot7 with closing := true, inFlight := 0, awaiting := 0 }
    let s : State := { loaded.setLot 0 (some l) with retest := [entry, { entry with lotId := 8 }] }
    s.lot 0 = some l ∧ l.closing = true ∧ l.summary = none ∧ l.inFlight = 0 ∧ l.awaiting = 0 ∧ s.retest.length = 2 := by
  decide

/-- 2 of 3 units passed: Y = 666; 3 of 4 outcomes in the window. -/
theorem witness_YieldFigures :
    lot7.passed + lot7.failed = 0 ∧ Lot.yield { lot7 with passed := 2, failed := 1 } = 666 ∧ lot7.window.length = 0 ∧
    Lot.rollingYield { lot7 with window := [true, false, true, true] } = 750 := by decide

/-! ### Witnesses: labels and the marking port -/

/-- T_mark 1000, T_queue 600, code 3; T_mark 0 and 1001; T_queue 0 and 601. -/
theorem witness_MarkConfigEffect :
    State.reset.ReplyRoom ∧
    (bits (put 3 20 2 ||| put 1000 10 10 ||| put 600 0 10) 10 10 = 1000 ∧
      bits (put 3 20 2 ||| put 1000 10 10 ||| put 600 0 10) 0 10 = 600 ∧
      bits (put 3 20 2 ||| put 1000 10 10 ||| put 600 0 10) 20 2 ≠ State.reset.mrk.code) ∧
    (1 ≤ bits (put 1 10 10 ||| put 1 0 10) 10 10 ∧ 1 ≤ bits (put 1 10 10 ||| put 1 0 10) 0 10) ∧
    bits 1#32 10 10 = 0 ∧ 1000 < bits (put 1001 10 10) 10 10 ∧ bits (put 1 10 10) 0 10 = 0 ∧ 600 < bits 601#32 0 10 := by
  unfold State.ReplyRoom; decide

theorem witness_RequestHandshake :
    (let q := label .finalPass false
     (withLabels [{ q with nest := 3 }, q, q]).mrk.records = [{ q with nest := 3 }] ++ q :: [q] ∧
      (∀ x ∈ [{ q with nest := 3 }] ++ q :: [q], x.issued = false) ∧ q.nest = 0 ∧
      (∀ x ∈ [{ q with nest := 3 }], x.nest ≠ 0) ∧
      (∀ x ∈ (withLabels [{ q with nest := 3 }]).mrk.records, x.issued = false ∧ x.nest ≠ 0)) ∧
    (let i := label .finalFail true
     let q := label .retest false
     (withLabels [q, i, q]).mrk.records = [q] ++ i :: [q] ∧ i.issued = true ∧ (∀ x ∈ [q], x.issued = false)) := by decide

theorem witness_MarkingResults :
    (let i := label .finalFail true
     let q := label .retest false
     (withLabels [q, i, q]).mrk.records = [q] ++ i :: [q] ∧ i.issued = true ∧ (∀ x ∈ [q] ++ [q], x.issued = false)) ∧
    (let q := label .finalPass false
     (withLabels (List.replicate 8 q)).mrk.records = List.replicate 7 q ++ q :: [] ∧ q.issued = false ∧
      (7 : Fin 8).val = (List.replicate 7 q).length ∧ (∀ r ∈ (withLabels (List.replicate 8 q)).mrk.records, r.issued = false)) := by
  decide

theorem witness_ResolutionCounts :
    loaded.lotSlot (label .retest true).lotId = some 0 ∧ loaded.lot 0 = some lot7 ∧ (label .retest true).kind = .retest ∧
    (label .finalPass true).kind = .finalPass ∧ (label .finalFail true).kind = .finalFail := by decide

/-! ### Witnesses: frames, the event queue, notices -/

theorem witness_LineFrameStored :
    loaded.lnk.presence ≠ .present ∧ (present 0).lnk.presence = .present ∧
    (0x3CA51E00#32).extractLsb' 8 24 = 0x3CA51E#24 ∧ (0x3CA51F00#32).extractLsb' 8 24 ≠ 0x3CA51E#24 := by decide

theorem witness_HeadFrameAnswered :
    (0xC35A7EFF#32).extractLsb' 8 24 = 0xC35A7E#24 ∧ (0xC35A7FFF#32).extractLsb' 8 24 ≠ 0xC35A7E#24 := by decide

theorem witness_HeadLossEntered :
    let s : State := { inPhase .running with lnk := { loaded.lnk with presence := .present } }
    s.lnk.presence = .present ∧ (s.nest 0).phase ≠ .idle ∧ (s.nest 0).phase ≠ .reporting := by decide

theorem witness_NoticeRequest :
    Notices.outbox { State.reset.ntc with outbox := .waiting } = .waiting ∧ State.reset.ntc.outbox = .empty ∧
    (waiting 15 [] State.reset).lnk.eventQ.length < 16 ∧ (waiting 15 [] State.reset).lnk.waitLine = [] ∧
    16 ≤ (waiting 16 [] State.reset).lnk.eventQ.length ∧ (waiting 0 [.vrd 3] State.reset).lnk.waitLine ≠ [] := by decide

/-- Flags 0 and 7; a timer that stands and one that runs, with and without a rising pending. -/
theorem witness_FlagsAndPeriod :
    State.reset.ntc.flags.getLsbD Flag.linkFault.index = false ∧
    (0x80#8).getLsbD Flag.traceLost.index = true ∧ State.reset.ntc.enables.getLsbD Flag.linkFault.index = true ∧
    (0#8).getLsbD Flag.linkFault.index = false ∧ State.reset.ntc.timer = none ∧
    Notices.timer { State.reset.ntc with timer := some 0 } ≠ none ∧ State.reset.ntc.nonUrgent = false ∧
    Notices.nonUrgent { State.reset.ntc with nonUrgent := true } = true := by decide

/-- Each producer at the head of the line with one place free. -/
theorem witness_WaitLineAdmits :
    (waiting 15 [.ntc] loaded).lnk.waitLine = .ntc :: [] ∧ (waiting 15 [.ntc] loaded).lnk.eventQ.length < 16 ∧
    ((loaded.modNest 3 fun x => { x with phase := .reporting, verdictOut := some anEvent }).nest 3).verdictOut = some anEvent ∧
    ((loaded.modSlot 7 fun x => { x with refDone := some anEvent }).slot 7).refDone = some anEvent ∧
    (loaded.setLot 7 (some { lot7 with summary := some anEvent })).lot 7 = some { lot7 with summary := some anEvent } ∧
    Lot.summary { lot7 with summary := some anEvent } = some anEvent := by decide

theorem witness_EndOfEvent : State.reset.Settled := by unfold State.Settled; decide

/-! ### Witnesses: arithmetic -/

theorem witness_PlogValues : 1 ≤ 1 ∧ 1 < 2 ^ 111 ∧ 1 ≤ 2 ^ 111 - 1 := by decide

theorem witness_PexpValues :
    (-4096 : Int) = 256 * (-16) + (0 : Nat) ∧ (-1 : Int) = 256 * (-1) + (255 : Nat) ∧ pexp (-1) < 8388607 := by decide

theorem witness_DriveArithmetic :
    8388607 ≤ 8388607 ∧ 256 ≤ 256 ∧ (-4096 : Int) ≤ -4096 ∧ (-4096 : Int) ≤ 0 ∧ (0x7FFFFFFF#32).toNat < 2 ^ 31 ∧
    drivenSample 8388607 0x40000000#32 256 = 8388351 := by decide

/-- Guard 10 about a lower limit of −100 and an upper limit of 100: each row at the values next to its ends. -/
theorem witness_LimitComparison :
    [(-32768 : Level), -100, -101, -110, -111, 32767].map (judgeLower (-100) · 10) =
      [.fail, .pass, .marginal, .marginal, .fail, .pass] ∧
    [(-32768 : Level), 32767, 100, 101, 110, 111].map (judgeUpper 100 · 10) =
      [.pass, .fail, .pass, .marginal, .marginal, .fail] ∧
    judgeUpper 32767 32767 10 = .pass := by decide

/-! ### Witnesses: the clauses on refusals -/

/-- HELLO of scope 15 with its check word and with a wrong one; a header of kind 0x06; a length of 1; a scope of 0. -/
theorem witness_MessageTests_checkWord :
    let s (n : Nat) (h : Word) (body : List Word) : State :=
      { replies n with lnk := { (replies n).lnk with asm := .check (h :: body) } }
    (s 3 (headerWord 15 6 1 0) []).lnk.asm = .check [headerWord 15 6 1 0] ∧ (s 3 0#32 []).lnk.replyQ.length < 4 ∧
    4 ≤ (s 4 0#32 []).lnk.replyQ.length ∧ (headerWord 15 6 1 0).extractLsb' 16 8 = 0x06#8 ∧
    Kind.hello.code = (headerWord 15 1 1 1).extractLsb' 16 8 ∧ Kind.hello.lengthOk [0#32].length = false ∧
    Kind.hello.lengthOk ([] : List Word).length = true ∧ 0x74FC8B04#32 ≠ checkWord [0x5F012C02#32] ∧
    0x74FC8B03#32 = checkWord [0x5F012C02#32] ∧ Kind.hello.scopeOk ((headerWord 0 1 1 0).extractLsb' 24 4) = false := by
  decide

/-- Mode 2; a session; COPY of the EMPTY slot 7; both buffers bound. -/
theorem witness_StageOpenEffect_refused :
    let one := loaded.setBuffer 1 (some (staged tabs true false false))
    let both := one.setBuffer 0 (some { staged tabs true false false with slot := 5 })
    loaded.ReplyRoom ∧ loaded.prot.protects 0 = false ∧ 1 < bits 2#32 0 8 ∧ one.session 0 ≠ none ∧
    (bits 1#32 0 8 = 1 ∧ loaded.session 7 = none ∧ (loaded.slot 7).loaded = false) ∧
    (both.ReplyRoom ∧ both.prot.protects 3 = false ∧ bits 0#32 0 8 ≤ 1 ∧ both.session 3 = none ∧
      (∀ b, both.buffer b ≠ none)) := by
  unfold State.ReplyRoom; decide

/-- Table 4; 3 words for a table of rows of 2; no session; a PENDING one; the first row one beyond the table; a 17th row. -/
theorem witness_StageRowsEffect_refused :
    let full := { tabs with grading := List.replicate 16 [0#32, 0#32] }
    (loaded.ReplyRoom ∧ loaded.prot.protects 0 = false ∧ 3 < bits 0x0400#32 8 8 ∧ bits 0x0300#32 8 8 = 3 ∧
      (List.replicate 3 0#32).length % rowSize 3 ≠ 0 ∧ (List.replicate 2 0#32).length % rowSize 3 = 0 ∧
      loaded.session 0 = none) ∧
    ((withSession (staged tabs true true false)).session 0 = some (staged tabs true true false) ∧
      (staged tabs true true false).pending = true) ∧
    ((staged tabs false false false).pending = false ∧ (staged tabs false false false).copy = false ∧
      bits 0x0301#32 0 8 ≠ (tabs.get 3).length ∧ (tabs.get 3).length < bits 0x0301#32 0 8) ∧
    ((withSession (staged full true false false)).session 0 = some (staged full true false false) ∧
      bits 0x0310#32 0 8 = (full.get 3).length ∧ capacity 3 < 16 + (List.replicate 2 0#32).length / rowSize 3) := by
  unfold State.ReplyRoom; decide

/-- No session; a PENDING one. -/
theorem witness_StageCommitEffect_refused :
    loaded.ReplyRoom ∧ loaded.prot.protects 0 = false ∧ loaded.session 0 = none ∧
    (withSession (staged tabs true true false)).session 0 = some (staged tabs true true false) := by
  unfold State.ReplyRoom; decide

/-- Table 4, bank 2; the active bank of slot 7; the staged bank without a session; a first row one beyond each bank. -/
theorem witness_DiscardAndRead_refused :
    loaded.ReplyRoom ∧ 3 < bits 0x04000000#32 24 8 ∧ 1 < bits 0x00020000#32 16 8 ∧ bits 0x01010400#32 24 8 ≤ 3 ∧
    (bits 0x01000400#32 16 8 = 0 ∧ (loaded.slot 7).loaded = false) ∧ (bits 0x01010400#32 16 8 = 1 ∧ loaded.session 0 = none) ∧
    ((loaded.slot 0).loaded = true ∧ ((loaded.slot 0).tables.get 1).length < bits 0x01000400#32 8 8) ∧
    ((withSession (staged tabs false false false)).session 0 = some (staged tabs false false false) ∧
      (tabs.get 1).length < bits 0x01010400#32 8 8) := by
  unfold State.ReplyRoom; decide

/-- Slot 7 EMPTY; a PENDING capture; a running one, a full outbox; targets 0 and 9. -/
theorem witness_CaptureCommands_refused :
    let x := loaded.slot 0
    loaded.ReplyRoom ∧ loaded.prot.protects 7 = false ∧ (loaded.slot 7).loaded = false ∧ x.loaded = true ∧
    ((loaded.setSlot 0 { x with capture := .pending 1 1 [-100] }).slot 0).capture = .pending 1 1 [-100] ∧
    ((loaded.setSlot 0 { x with capture := .capturing 8 0 [0] }).slot 0).capture = .capturing 8 0 [0] ∧
    ((loaded.setSlot 0 { x with refDone := some anEvent }).slot 0).refDone ≠ none ∧
    x.capture = .idle ∧ loaded.commitPending 0 = false ∧ bits 0#32 0 8 = 0 ∧ 8 < bits 9#32 0 8 := by
  unfold State.ReplyRoom; decide

/-- An ARMED nest; trim 0 and calibrations 8192 and −8193; bench with the key OFF. -/
theorem witness_NestConfigEffect_refused :
    (inPhase .armed).ReplyRoom ∧ ((inPhase .armed).nest 0).phase ≠ .idle ∧ (loaded.nest 0).phase = .idle ∧
    bits 0x1000#32 0 8 = 0 ∧ ¬ sbits 0x20000000#32 16 16 ≤ 8191 ∧ ¬ -8192 ≤ sbits 0x0000DFFF#32 0 16 ∧
    (bits 0x1001#32 0 8 ≠ 0 ∧ bits 0x1001#32 8 2 ≤ 1 ∧ -8192 ≤ sbits 0#32 16 16 ∧ sbits 0#32 16 16 ≤ 8191 ∧
      (0x1001#32).getLsbD 12 = true ∧ loaded.prot.key.stable = false) := by
  unfold State.ReplyRoom; decide

/-- Tables whose mask row has a REL limit. -/
def relTabs : Tables := { tabs with mask := [[0x101#32, 0#32, 0#32, 0#32, 0#32, 0#32]] }

/-- Nest 1 RUNNING with serial 9. -/
def serialHeld : State := loaded.modNest 1 fun x => { x with phase := .running, run := { x.run with serial := 9 } }

/-- The codes of orders 1 to 10 of R66 in turn. -/
theorem witness_StartCommand_codes :
    let r : StartRequest := ⟨0, false, true, 9⟩
    let slot0 (f : Slot → Slot) : State := loaded.modSlot 0 f
    let bench : State := loaded.modNest 0 fun x => { x with config := { x.config with bench := true } }
    let full : State := loaded.setLot 0 (some { lot7 with started := 16777215 })
    [startCheck (inPhase .armed) 0 r, startCheck loaded 0 { r with slot := 8 }, startCheck loaded 0 { r with slot := 7 },
     startCheck (slot0 fun x => { x with capture := .pending 1 1 [-100] }) 0 r, startCheck bench 0 { r with golden := true },
     startCheck loaded 0 { r with golden := true }, startCheck (slot0 fun x => { x with tables := relTabs }) 0 r,
     startCheck (loaded.setLot 0 none) 0 r, startCheck serialHeld 0 r, startCheck full 0 r] =
      [.busy, .range, .notReady, .held, .refused, .notReady, .notReady, .noLot, .duplicate, .lotFull] ∧
    startCheck { full with retest := [{ entry with serial := 9 }] } 0 r = .ok := by decide

/-- A lot in slot 0; LOT_OPEN of slot 7, EMPTY; an id that the table has. -/
theorem witness_LotCommands_refused :
    loaded.ReplyRoom ∧ loaded.lot 0 ≠ none ∧ loaded.lot 7 = none ∧ (loaded.slot 7).loaded = false ∧
    (let s := loaded.modSlot 7 fun x => { x with loaded := true }
     s.lot 7 = none ∧ (s.slot 7).loaded = true ∧ s.lot 0 = some lot7 ∧ lot7.id = 7#32) := by
  unfold State.ReplyRoom; decide

/-! ### Witnesses: further clauses -/

/-- A step that takes FREEZE; a tick at the 20th sample of the KEY line ON, and at the 19th. -/
theorem witness_FreezeHolds_step :
    let s (c : Nat) : State := { frozen with prot := { frozen.prot with key := ⟨true, false, c⟩ } }
    frozen.prot.freeze = true ∧ (∃ t, step { frozen with pending := [.freeze 15 0] } = .next t) ∧
    (∃ t, step (s 19) = .next t) ∧ (s 19).pending = [] ∧ 19 ≤ (s 19).prot.key.count ∧ ¬ 19 ≤ (s 18).prot.key.count :=
  ⟨by decide, ⟨_, rfl⟩, ⟨_, rfl⟩, by decide, by decide, by decide⟩

/-- The serial's entry stands for slot 7, whose lot has id 8. -/
theorem witness_StartCountsUnit_otherSlot :
    let e : RetestEntry := { entry with slot := 7, lotId := 8 }
    let s : State := { loaded.setLot 7 (some { lot7 with id := 8 }) with retest := [e] }
    runKindOf false (s.nest 0).config.bench = .counted ∧ s.retestEntry 5 = some e ∧ e.slot ≠ 0 ∧
    s.lotSlot e.lotId = some 7 ∧ (7 : SlotId) ≠ 0 ∧ s.lot 7 = some { lot7 with id := 8 } := by decide

/-- TONE, GAP and no frame played; fade frames 96 and 0. -/
theorem witness_RunEndLeaves_rows :
    let none' : Tables := { tabs with settings := [settings.set 2 0x00000BB8#32] }
    let e : Engine := { Engine.initial with mode := .step, last := .here }
    e.mode = .step ∧ e.last = .here ∧ (tabs.step e.step).kind = .tone ∧ 0 < tabs.settingsRow.fade ∧
    none'.settingsRow.fade = 0 ∧ (tabs.step { e with step := 2 }.step).kind ≠ .tone ∧
    { e with last := .tone 5#32 7 }.last = .tone 5#32 7 ∧ Engine.initial.last = .quiet ∧
    (∀ c, Run.blank.endCause ≠ .aborted c) := by
  refine ⟨by decide, by decide, by decide, by decide, by decide, by decide, by decide, by decide, ?_⟩
  intro c; simp [Run.blank]

/-- The second entry of two shares a class with the set; none does. -/
theorem witness_VerdictOrder_grade :
    let x : Tables := { tabs with grading := [[0x0A010000#32, 0#32], [0x0B020004#32, 0#32]] }
    x.grading = [[0x0A010000#32, 0#32]] ++ [0x0B020004#32, 0#32] :: [] ∧
    (∀ y ∈ [[0x0A010000#32, 0#32]], (gradeOf y).classes &&& 4#16 = 0#16) ∧
    (gradeOf [0x0B020004#32, 0#32]).classes &&& 4#16 ≠ 0#16 ∧ (∀ y ∈ x.grading, (gradeOf y).classes &&& 8#16 = 0#16) ∧
    RunKind.golden ≠ .counted := by decide

/-- A frame of a step with HARM, IMP and RB at residual order 4, and of a PULSE step that meets the threshold. -/
theorem witness_WindowStartDecides_frames :
    let st : Step := stepOf [0x39800000#32, 0#32, 0#32, 0#32]
    st.harm = true ∧ st.rb = true ∧ st.imp = true ∧ st.residual = 4 ∧ (stepOf [0x40000000#32]).kind = .pulse ∧
    (stepOf [0x40000000#32]).harm = false ∧ (stepOf [0x40000000#32]).rb = false ∧ Window.cleared.find = .notFound ∧
    8388608 ≤ (0x800000#24).toInt.natAbs := by decide

/-- Retries exhausted at retry count 1; a failed contact check; the last step; a value of a READY reference. -/
theorem witness_WindowEndOutcomes_ends :
    let s := atFrame .isOpen 0 1919
    let slip (x : Nest) : Nest := { x with analysis := { x.analysis with win := { x.analysis.win with slipSeen := true } } }
    let u := (s.modNest 0 slip).modEngine 0 fun e => { e with retry := 1 }
    let v := s.modSlot 0 fun x => { x with tables := { x.tables with
      plan := [(planRow 0 0 16000 1920 960 1920 true).set 0 0x0C000000#32] } }
    let w := s.modSlot 0 fun x => { x with reference := some [-100] }
    (u.windowEndDue 0 = true ∧ (u.windowMeasures 0).disturbance (u.runSettings 0).ambientLimit = some .slip ∧
      (u.runSettings 0).retryLimit ≤ (u.nest 0).engine.retry) ∧
    (v.windowEndDue 0 = true ∧ (v.windowMeasures 0).disturbance (v.runSettings 0).ambientLimit = none ∧
      (v.stepRec 0).contact = true ∧ (v.windowMeasures 0).contactFails (v.runSettings 0).contactFloor = true ∧
      ¬ (v.nest 0).engine.step + 1 < (v.runTables 0).plan.length) ∧
    ((w.nest 0).run.kind ≠ .golden ∧ (w.slot (w.nest 0).run.slot).reference = some [-100] ∧
      ([-100] : List Level)[((w.runTables 0).steps.take (w.nest 0).engine.step).countP (·.ref)]? = some (-100)) ∧
    Disturbance.ambientLevel.value ≤ 4 := by decide

/-- The end of the second TONE before the GAP, with fade frames; of the first before the second; of a retried one. -/
theorem witness_DwellsAndFadesEnd_entries :
    let s := atFrame .closed 1 1919
    let u := atFrame .closed 0 1919
    let v := (s.modNest 0 fun x => { x with retryMarked := true })
    (s.dwellEndDue 0 = true ∧ (s.stepRec 0).kind = .tone ∧ ((s.runTables 0).step 2).kind ≠ .tone ∧
      0 < (s.runTables 0).settingsRow.fade) ∧
    (u.dwellEndDue 0 = true ∧ ((u.runTables 0).step 1).kind = .tone) ∧ (v.dwellEndDue 0 = true ∧ (v.nest 0).retryMarked = true) ∧
    (s.nest 0).engine.mode = .step ∧ Engine.initial.mode ≠ .step := by decide

/-- PRESENT, QUIET and LOUD; WAITING; samples at the threshold 4,194,304 of code −256 and one below it. -/
theorem witness_AmbientMonitor_frames :
    (present 0).lnk.presence = .present ∧ (present 0).amb.loud = false ∧
    Ambient.loud { (present 0).amb with loud := true } = true ∧ loaded.lnk.presence ≠ .present ∧
    pexp State.reset.amb.code ≤ (0x400000#24).toInt.natAbs ∧ (0x3FFFFF#24).toInt.natAbs < pexp State.reset.amb.code := by
  decide

/-- 63 and 64 outcomes at the threshold 800: rolling yields 0, 812 and 828; an alarm armed and tripped. -/
theorem witness_ResolutionCounts_alarm :
    let s := loaded.modSlot 0 fun x => { x with tables := { tabs with settings := [settings.set 6 0x03202802#32] } }
    let l (p n : Nat) (t : Bool) : Lot := { lot7 with window := List.replicate p true ++ List.replicate n false, tripped := t }
    (s.slot 0).tables.settingsRow.lowYield = 800 ∧ (s.setLot 0 (some (l 0 64 false))).lot 0 = some (l 0 64 false) ∧
    ((l 0 64 false).window.length = 64 ∧ (l 0 64 false).rollingYield < 800) ∧ (l 0 63 false).window.length ≠ 64 ∧
    ((l 52 12 true).rollingYield = 812 ∧ (l 52 12 true).rollingYield < min (800 + 20) 1000) ∧
    ((l 53 11 true).rollingYield = 828 ∧ min (800 + 20) 1000 ≤ (l 53 11 true).rollingYield) := by decide

/-- A wrong sync pattern, a count other than expected and the one expected; each mode and step kind; each word sent. -/
theorem witness_HeadFrameAnswered_parts :
    let s : State := { present 0 with lnk := { (present 0).lnk with expect := some 9 } }
    let g := atFrame .before 2 0
    let m : Msg := ⟨0x81#8, 15#4, 0#8, [0#32]⟩
    ((0xC35A7FFF#32).extractLsb' 8 24 ≠ 0xC35A7E#24 ∧ s.lnk.expect = some 9 ∧ (0xC35A7E0B#32).extractLsb' 0 8 ≠ 9#8 ∧
      (0xC35A7E09#32).extractLsb' 0 8 = 9#8) ∧
    ((9#8).toNat = (8 : Fin 9).val + 1 ∧ (13#8).toNat = (3 : NestId).val + 10) ∧
    (Engine.initial.mode = .silent ∧ (g.nest 0).engine.mode = .step ∧ (g.stepRec 0).kind = .gap ∧
      ((atFrame .before 0 95).stepRec 0).kind = .tone ∧ ((atFrame .before 0 95).nest 0).engine.retry = 0 ∧
      95 < ((atFrame .before 0 95).runTables 0).settingsRow.fade ∧ ((atFrame .before 0 96).runTables 0).settingsRow.fade ≤ 96) ∧
    ((replies 1).lnk.tx = [] ∧ (replies 1).lnk.replyQ = m :: [] ∧ State.reset.lnk.replyQ = [] ∧
      State.reset.lnk.eventQ = ⟨0x82#8, 15#4, 0#8, [0x00020000#32, 0#32, 0#32]⟩ :: [] ∧
      Link.tx { State.reset.lnk with tx := [5#32] } = 5#32 :: []) := by decide

/-- A STEP_RESULT at 10 and at 11 messages; 8 messages and three to offer: STEP_RESULT, VERDICT, REF_DONE. -/
theorem witness_EndOfEvent_offers :
    let s := ((loaded.modNest 2 fun x => { x with phase := .reporting, verdictOut := some anEvent, stepOut := some anEvent }).modSlot
      7 fun x => { x with refDone := some anEvent })
    ((s.nest 2).stepOut = some anEvent ∧ (waiting 10 [] s).lnk.eventQ.length ≤ 10 ∧ 10 < (waiting 11 [] s).lnk.eventQ.length ∧
      (allNests.filter fun n => (s.nest n).stepOut.isSome).length = 1) ∧
    ((waiting 8 [] s).lnk.waitLine = [] ∧ (∀ k, (waiting 8 [] s).lotDue k = false) ∧
      (waiting 8 [] s).endEvent.lnk.eventQ.length = 8 + 3) := by decide +kernel

/-- A window of zero sums, and one with every sum above 0; the polarity find of a PULSE. -/
theorem witness_StepOutcomes_measures :
    let w := Window.cleared
    let v : Window := { w with h1 := ⟨3, 4⟩, h2 := ⟨0, 1⟩, current := ⟨1, 0⟩, peak := 2, residual := 4, micEnergy := 9, ambEnergy := 1 }
    (w.h1.i * w.h1.i + w.h1.q * w.h1.q).toNat = 0 ∧ (v.h1.i * v.h1.i + v.h1.q * v.h1.q).toNat = 25 ∧
    (v.h2.i * v.h2.i + v.h2.q * v.h2.q).toNat = 1 ∧ (v.current.i * v.current.i + v.current.q * v.current.q).toNat = 1 ∧
    v.peak ≠ 0 ∧ v.residual ≠ 0 ∧ v.micEnergy ≠ 0 ∧ v.ambEnergy ≠ 0 ∧ w.peak = 0 ∧ w.find = .notFound ∧
    (stepOf [0x40000000#32]).kind = .pulse ∧ (v.measures (tabs.step 0) NestConfig.initial).lrb =
      (v.measures (tabs.step 0) NestConfig.initial).lp - (v.measures (tabs.step 0) NestConfig.initial).lf := by
  decide +kernel

/-! ### Witness: the counting invariant -/

/-- Lot 7 with one unit in flight in nest 0 (serial 9), one awaiting its mark and one outstanding (serial 5); nest 1 plays
its fade-out with its VERDICT built. -/
def counted : State :=
  let s : State := { withLabels [label .finalPass true, label .retest false] with retest := [entry] }
  ((s.modSlot 0 fun x => { x with occupancy := 1 }).modNest 0 fun x =>
    { x with phase := .armed, run := { x.run with present := true, serial := 9, lotId := 7 } }).modNest 1 fun x =>
    { x with phase := .closing, verdictOut := some anEvent }

theorem counted_lot (j : SlotId) (l : Lot) (h : counted.lot j = some l) : j = 0 ∧ l = lot7 := by
  have all : ∀ j, (j = 0 ∧ counted.lot j = some lot7) ∨ counted.lot j = none := by decide
  rcases all j with ⟨e, h'⟩ | h'
  · rw [h'] at h; cases h; exact ⟨e, rfl⟩
  · rw [h'] at h; cases h

/-- The invariant holds of a state with a lot, a run, a label and an entry, and a step goes on from it. -/
theorem witness_ReportsKeepBalance_counts :
    CountsOk counted ∧ (counted.nest 1).verdictOut ≠ none ∧ (∃ t, step { counted with pending := [.abort 0 1] } = .next t) ∧
      (∃ t, step counted = .next t) := by
  refine ⟨⟨?_, ?_, ?_, ?_, ?_, ?_, ?_, ?_, ?_, ?_, ?_, ?_⟩, by decide, ⟨_, rfl⟩, ⟨_, rfl⟩⟩
  · intro k l h; obtain ⟨_, rfl⟩ := counted_lot k l h; unfold Lot.Balanced; decide
  · intro k l h hs; obtain ⟨_, rfl⟩ := counted_lot k l h; exact absurd rfl hs
  · intro j k l m h g _; exact (counted_lot j l h).1.trans (counted_lot k m g).1.symm
  · intro n h; exact ⟨lot7, by revert n; decide, by revert n; decide⟩
  · intro r hr _; exact ⟨0, lot7, by decide, by revert r; decide⟩
  · intro e he; exact ⟨lot7, by revert e; decide, by revert e; decide⟩
  · decide
  · decide
  · decide
  · decide
  · decide
  · decide

/-! ### Witnesses: nest frames, timers, reports, captures, the soft reset -/

/-- Soft reset: a CLOSING lot with none in flight is due after the reports; an OPEN one is not; a lot whose summary waits;
two captures and only NTC on the wait line. -/
theorem witness_SoftResetLeaves_blocks :
    let closing := loaded.setLot 0 (some { lot7 with closing := true, inFlight := 0, awaiting := 0 })
    let sent := loaded.setLot 0 (some { lot7 with closing := true, summary := some anEvent })
    let bare := ((waiting 16 [.ntc, .vrd 1] State.reset).modSlot 2 fun x => { x with capture := .capturing 8 1 [4] }).modSlot 5
      fun x => { x with capture := .pending 2 2 [7] }
    ((∀ k, loaded.lotDue k = false) ∧ (loaded.lot 0).bind (·.summary) = none) ∧
    (closing.lotDue 0 = true ∧ (closing.lot 0).bind (·.summary) = none ∧ closing.mrk.records = [] ∧
      ∀ n, (closing.nest n).counts = false) ∧
    (sent.lot 0).bind (·.summary) = some anEvent ∧
    (bare.lnk.waitLine = [.ntc, .vrd 1] ∧ (∀ k, bare.lot k = none ∧ (bare.slot k).refDone = none) ∧
      (bare.slot 2).capture ≠ .idle ∧ (bare.slot 5).capture ≠ .idle) ∧
    (counted.nest 0).phase = .armed ∧ (loaded.nest 0).phase = .idle := by
  refine ⟨⟨by decide, by decide⟩, ⟨by decide, by decide, by decide, by decide⟩, by decide, ⟨by decide, by decide, by decide,
    by decide⟩, by decide, by decide⟩

/-- A plan-touching swap over a CAPTURING and over an IDLE capture. -/
theorem witness_SwapInstalls_cancels :
    let s := withSession (staged tabs true true true)
    let t := s.modSlot 0 fun x => { x with capture := .capturing 8 3 [5] }
    s.sessionBuffer 0 = some 1 ∧ s.buffer 1 = some (staged tabs true true true) ∧ (s.slot 0).capture = .idle ∧
    t.sessionBuffer 0 = some 1 ∧ (t.slot 0).capture = .capturing 8 3 [5] := by decide

/-- Three values: the body has two words of values. A run that offers −740 as the first and as the second of two. -/
theorem witness_CaptureCommands_offers :
    let x : Slot := { loaded.slot 0 with reference := some [1, -2, 3] }
    let s (count : Nat) : State := loaded.modSlot 0 fun y => { y with capture := .capturing 2 count [-741] }
    let r : Run := { Run.blank with slot := 0, kind := .golden, bound := true, endCause := .completed, goldenValues := [some (-740)] }
    x.reference = some [1, -2, 3] ∧ [1, -2, 3].length < 120 ∧ [1, -2, 3].length % 2 = 1 ∧
    (r.kind = .golden ∧ r.bound = true ∧ r.endCause = .completed ∧ r.failSet = 0#16 ∧ r.slot = 0 ∧
      r.goldenValues = [(-740 : Level)].map some ∧ (-740 : Level) ≠ -32768) ∧
    ((s 0).slot 0).capture = .capturing 2 0 [-741] ∧ 0 + 1 < 2 ∧ ((s 1).slot 0).capture = .capturing 2 1 [-741] ∧
    2 ≤ 1 + 1 ∧ ((s 1).offerCapture r).slot 0 = { (s 1).slot 0 with capture := .pending 2 2 [-740] } ∧
    Run.blank.kind ≠ .golden ∧ (loaded.slot 0).capture = .idle := by decide

/-- The last of 20 entries that a reply can carry, and the first. -/
theorem witness_QueriesReport_entries :
    let s : State := { loaded with retest := List.replicate 21 entry }
    s.ReplyRoom ∧ s.retest[0]? = some entry ∧ s.retest[19]? = some entry ∧
    (s.retest.filter (fun e => e.slot == 0))[19]? = some entry ∧ (inPhase .armed).ReplyRoom := by
  unfold State.ReplyRoom; decide

/-- Counted and golden runs that end; the last nest on a slot with a pending commit and without one; one of two nests. -/
theorem witness_RunEndLeaves_records :
    let s (o : Nat) : State := (withSession (staged tabs true true false)).modSlot 0 fun x => { x with occupancy := o }
    let t (o : Nat) : State := (loaded.modSlot 0 fun x => { x with occupancy := o })
    Run.blank.kind = .counted ∧ (s 1).commitPending 0 = true ∧ (t 1).commitPending 0 = false ∧ ¬ 1 < ((t 1).slot 0).occupancy ∧
    1 < ((t 2).slot 0).occupancy := by decide

/-- A lot alone with its id; 31 and 32 retest entries; 7 labels, and 8 of which the first is ISSUED. -/
theorem witness_VerdictRecords_full :
    let s (n : Nat) : State := { loaded with retest := List.replicate n entry }
    let q := label .finalPass false
    let t := withLabels (label .retest true :: q :: List.replicate 6 q)
    loaded.lot 0 = some lot7 ∧ (∀ j, loaded.lot j = none ∨ j = 0) ∧ loaded.lotSlot entry.lotId = some 0 ∧
    (s 31).retest.length < 32 ∧ (s 32).retest = entry :: List.replicate 31 entry ∧ 32 ≤ (s 32).retest.length ∧
    (withLabels (List.replicate 7 q)).mrk.records.length < 8 ∧
    (t.mrk.records = [label .retest true] ++ q :: List.replicate 6 q ∧ 8 ≤ t.mrk.records.length ∧ q.issued = false ∧
      ∀ x ∈ [label .retest true], x.issued = true) := by decide

/-- A SEATED nest that is ARMED, one that is RUNNING, and an OPEN one. -/
theorem witness_SeatEvents_open :
    let s (p : Phase) : State := (inPhase p).modNest 0 fun x => { x with seat := ⟨true, true, 0⟩ }
    ((s .armed).nest 0).seat.stable = true ∧ ((s .armed).nest 0).phase ≠ .running ∧ ((s .running).nest 0).phase = .running ∧
    ((inPhase .armed).nest 0).seat.stable = false := by decide

/-- The first and the last frame of a window, and the frame after it. -/
theorem witness_WindowStartDecides_windowFrame :
    let inWindow (k : Nat) : Prop := let s := atFrame .isOpen 0 k
      (s.nest 0).phase = .running ∧ (s.nest 0).engine.mode = .step ∧ (s.nest 0).window = .isOpen ∧
        (s.nest 0).engine.held = false ∧ (s.stepRec 0).ws ≤ (s.nest 0).engine.k ∧ (s.nest 0).engine.k < (s.stepRec 0).we
    inWindow 960 ∧ inWindow 1919 ∧ ¬ inWindow 1920 ∧ ¬ inWindow 959 := by decide

/-- A SILENT nest; frames within a dwell, held, at a window's end, at a dwell's end and at both; fades within and at their
end; a window's end that ends the run, and one after which the run goes on. -/
theorem witness_DwellsAndFadesEnd_frames :
    let s (w : WindowPhase) (i k : Nat) : State := atFrame w i k
    let held := (s .before 0 960).modEngine 0 fun e => { e with held := true }
    let fade (m : Mode) (p : Phase) (f : Nat) : State :=
      (inPhase p).modNest 0 fun x => { x with engine := { x.engine with mode := m, fade := f, fadeLen := 96 } }
    (loaded.nest 0).engine.mode = .silent ∧ (held.nest 0).engine.held = true ∧
    ((s .before 0 5).windowEndDue 0 = false ∧ (s .before 0 5).dwellEndDue 0 = false ∧ ((s .before 0 5).nest 0).engine.held = false) ∧
    ((s .closed 0 1919).windowEndDue 0 = false ∧ (s .closed 0 1919).dwellEndDue 0 = true) ∧
    ((s .isOpen 0 1919).windowEndDue 0 = true ∧ (((s .isOpen 0 1919).closeWindow 0).nest 0).phase = .running ∧
      ((s .isOpen 0 1919).closeWindow 0).dwellEndDue 0 = true) ∧
    ((s .isOpen 1 1439).windowEndDue 0 = true ∧ (((s .isOpen 1 1439).closeWindow 0).nest 0).phase = .running ∧
      ((s .isOpen 1 1439).closeWindow 0).dwellEndDue 0 = false) ∧
    ((s .isOpen 2 959).windowEndDue 0 = true ∧ (((s .isOpen 2 959).closeWindow 0).nest 0).phase ≠ .running) ∧
    (((fade .stepFade .running 94).nest 0).engine.fade + 1 < 96 ∧ 96 ≤ ((fade .stepFade .running 95).nest 0).engine.fade + 1) ∧
    (((fade .endFade .closing 95).nest 0).phase = .closing ∧ ((fade .endFade .closing 95).nest 0).engine.mode = .endFade) := by
  refine ⟨?_, ?_, ⟨?_, ?_, ?_⟩, ⟨?_, ?_⟩, ⟨?_, ?_, ?_⟩, ⟨?_, ?_, ?_⟩, ⟨?_, ?_⟩, ⟨?_, ?_⟩, ?_, ?_⟩ <;> decide +kernel

/-- A period timer one tick before its end and two; a label at T_mark and one before; a seat timer of 2 and of 1; a count
one sample before its end and complete. -/
theorem witness_TickSamples_timers :
    let s (e : Nat) : State := { State.reset with ntc := { State.reset.ntc with timer := some e } }
    let armed (n : Nat) : State := (inPhase .armed).modRun 0 fun r => { r with seatTimer := n }
    let l (age : Nat) : Label := { label .finalPass true with age := age }
    State.reset.ntc.timer = none ∧ ((s 998).ntc.timer = some 998 ∧ 998 + 1 < (s 998).ntc.period * 100) ∧
    ((s 999).ntc.timer = some 999 ∧ (s 999).ntc.period * 100 ≤ 999 + 1) ∧
    ((l 5000).issued = true ∧ loaded.mrk.tMark * 10 ≤ (l 5000).age ∧ ¬ loaded.mrk.tMark * 10 ≤ (l 4999).age) ∧
    (loaded.nest 0).phase ≠ .armed ∧ (((armed 2).nest 0).phase = .armed ∧ 1 < ((armed 2).nest 0).run.seatTimer) ∧
    ((armed 1).nest 0).run.seatTimer ≤ 1 ∧
    ((⟨true, false, 19⟩ : Debounce).line = true ∧ 19 ≤ (⟨true, false, 19⟩ : Debounce).count) ∧
    [1, 1, 5, 20].getD (loaded.nest 0).config.seatCode 20 = 5 ∧ loaded.lnk.presence ≠ .present ∧ (present 8).lnk.elapsed < 9 ∧
    9 ≤ (present 9).lnk.elapsed := by decide

/-- The first and the last of the nine channels; a marked sample in a frame of the right sync pattern. -/
theorem witness_HeadFrameAnswered_channels :
    (0 : Fin 9).val = (0 : NestId).val ∧ (7 : Fin 9).val = (3 : NestId).val + 4 ∧
    (0xC35A7E09#32).extractLsb' 8 24 = 0xC35A7E#24 ∧ (0x80000001#32).getLsbD 31 = true := by decide

/-- An ARMED nest and an IDLE one at the loss of the head. -/
theorem witness_HeadLossEntered_ends :
    let s : State := { inPhase .armed with lnk := { loaded.lnk with presence := .present } }
    s.lnk.presence = .present ∧ (s.nest 0).phase = .armed ∧ (s.nest 1).phase = .idle := by decide

/-- HELLO's header and a word that differs from it in its last bit, in HUNT; the last two body words to come. -/
theorem witness_MessageTests_words :
    State.reset.lnk.asm = .hunt ∧ isHeader 0x5F012C02#32 = true ∧ (0x5F012C02#32).extractLsb' 2 6 = 0#6 ∧
    isHeader (headerWord 15 2 0 1) = true ∧ (headerWord 15 2 0 1).extractLsb' 2 6 ≠ 0#6 ∧
    0x5F012C03#32 ≠ 0#32 ∧ isHeader 0x5F012C03#32 = false ∧
    (let s (n : Nat) : State := { loaded with lnk := { loaded.lnk with asm := .body [headerWord 15 2 0 1] n } }
     (s 1).lnk.asm = .body [headerWord 15 2 0 1] 1 ∧ (s 2).lnk.asm = .body [headerWord 15 2 0 1] 2 ∧ 1 ≤ 1 ∧ ¬ 2 ≤ 1) := by
  decide

/-- No session; a PENDING COPY session in buffer 1 that has touched the plan. -/
theorem witness_QueriesReport_session :
    loaded.session 0 = none ∧ (withSession (staged tabs true true true)).sessionBuffer 0 = some 1 ∧
    (withSession (staged tabs true true true)).buffer 1 = some (staged tabs true true true) := by decide

/-- A nest at k = Ws of its dwell with the window CLOSED has no decision to make. -/
theorem witness_WindowStartDecides_none :
    ¬ (((atFrame .closed 0 960).nest 0).phase = .running ∧ ((atFrame .closed 0 960).nest 0).engine.mode = .step ∧
      ((atFrame .closed 0 960).nest 0).window = .before ∧
      ((atFrame .closed 0 960).nest 0).engine.k = ((atFrame .closed 0 960).stepRec 0).ws) := by decide

/-- REQ at the fifth sample of code 2 and at the fourth; MARKED at a level that stands. -/
theorem witness_TickSamples_marking :
    let rises (d : Debounce) : Prop := d.line = true ∧ d.stable = false ∧ [0, 1, 5, 20].getD 2 20 ≤ d.count + 1
    let falls (d : Debounce) : Prop := d.line = false ∧ d.stable = true ∧ [0, 1, 5, 20].getD 2 20 ≤ d.count + 1
    rises ⟨true, false, 4⟩ ∧ ¬ rises ⟨true, false, 3⟩ ∧ falls ⟨false, true, 4⟩ ∧ ¬ falls ⟨false, true, 3⟩ ∧
    ¬ rises ⟨true, true, 0⟩ := by decide

/-- A due lot alone with its id, its window at 64 outcomes and at 62, with two entries to give up and none. -/
theorem witness_LotCompletes_entries :
    let l (fill : Nat) : Lot := { lot7 with closing := true, inFlight := 0, awaiting := 0, outstanding := 2,
                                            window := List.replicate fill true }
    let s (fill : Nat) : State := { loaded.setLot 0 (some (l fill)) with retest := [entry, { entry with lotId := 8 }, entry] }
    (s 64).lot 0 = some (l 64) ∧ (l 64).closing = true ∧ (l 64).summary = none ∧ (l 64).inFlight = 0 ∧ (l 64).awaiting = 0 ∧
    (∀ j, (s 64).lot j = none ∨ j = 0) ∧ (s 64).lotDue 0 = true ∧ loaded.lotDue 0 = false ∧
    (((s 64).completeLot 0).lot 0).map (·.window) = some (List.replicate 62 true ++ [false, false]) ∧
    (((s 62).completeLot 0).lot 0).map (·.window) = some (List.replicate 62 true ++ [false, false]) ∧
    (l 64).outstanding ≤ ((s 64).retest.filter fun e => e.lotId == 7).length := by
  refine ⟨?_, ?_, ?_, ?_, ?_, ?_, ?_, ?_, ?_, ?_, ?_⟩ <;> decide +kernel

/-- No record ISSUED; one ISSUED behind a QUEUED one. -/
theorem witness_MarkConfigEffect_records :
    let i := label .finalFail true
    let q := label .retest false
    (∀ r ∈ (withLabels [q]).mrk.records, r.issued = false) ∧ (withLabels [q, i]).mrk.records = [q] ++ i :: [] ∧
    i.issued = true ∧ (∀ x ∈ [q], x.issued = false) := by decide

/-- The oldest QUEUED record of nest 0 behind an ISSUED one and one of nest 3; none for nest 2. -/
theorem witness_RequestHandshake_rising :
    let i := label .finalFail true
    let q := label .retest false
    (withLabels [i, { q with nest := 3 }, q]).mrk.records = [i, { q with nest := 3 }] ++ q :: [] ∧ q.issued = false ∧
    q.nest = 0 ∧ (∀ x ∈ [i, { q with nest := 3 }], x.issued = true ∨ x.nest ≠ 0) ∧
    (∀ x ∈ (withLabels [i, { q with nest := 3 }, q]).mrk.records, x.issued = true ∨ x.nest ≠ 2) ∧
    (∀ r ∈ (withLabels [q]).mrk.records, r.issued = false) ∧
    (withLabels [q, i]).mrk.records = [q] ++ i :: [] ∧ i.issued = true := by decide

/-- 16 messages and a line of one; 15 messages and a line of two. -/
theorem witness_WaitLineAdmits_places :
    16 ≤ (waiting 16 [.ntc] loaded).lnk.eventQ.length ∧ (waiting 15 [.ntc, .tbs 1] loaded).lnk.waitLine ≠ [] ∧
    (waiting 15 [.ntc, .tbs 1] loaded).lnk.eventQ.length < 16 ∧ loaded.lnk.waitLine = [] := by decide

/-- One cause alone and all four at once; a limit just below La and at La; Li at the contact floor, below it and none. -/
theorem witness_WindowEndOutcomes_disturbed :
    let quiet : Measures := Window.cleared.measures (tabs.step 0) NestConfig.initial
    let all : Measures := { quiet with slipSeen := true, dropout := true, loudSeen := true, la := -1535 }
    (quiet.slipSeen = false ∧ quiet.dropout = false ∧ quiet.loudSeen = false ∧ quiet.la = -32768) ∧
    all.disturbance (-1536) = some .slip ∧ Measures.disturbance { all with slipSeen := false } (-1536) = some .dropout ∧
    Measures.disturbance { all with slipSeen := false, dropout := false } (-1536) = some .ambientPeak ∧
    Measures.disturbance { quiet with la := -1535 } (-1536) = some .ambientLevel ∧
    Measures.disturbance { quiet with la := -1536 } (-1536) = none ∧ quiet.disturbance (-32768) = none ∧
    Measures.contactFails { quiet with li := -300 } (-300) = false ∧
    Measures.contactFails { quiet with li := -301 } (-300) = true ∧ quiet.contactFails (-32768) = true := by
  decide +kernel

/-- A nest that returns to IDLE with bench ending set, and one without. -/
theorem witness_WaitLineAdmits_bench :
    let s (b : Bool) : State := (waiting 15 [.vrd 3] loaded).modNest 3 fun x =>
      { x with phase := .reporting, verdictOut := some anEvent, config := { x.config with bench := true, benchEnding := b } }
    ((s true).nest 3).config.benchEnding = true ∧ ((s false).nest 3).config.benchEnding = false ∧
    ((s true).nest 3).verdictOut = some anEvent ∧ (s true).lnk.waitLine = .vrd 3 :: [] ∧
    ((after .waitLineAdmit (s true)).nest 3).config.bench = false ∧
    ((after .waitLineAdmit (s false)).nest 3).config.bench = true := by decide +kernel

/-- The last STEP_FADE frame before a PULSE. -/
theorem witness_DwellsAndFadesEnd_pulse :
    let pulsed : Tables := { tabs with plan := [planRow 0 0 16000 1920 960 1920 true, planRow 1 0 16000 960 0 960 false] }
    let s := ((atFrame .before 1 0).modSlot 0 fun x => { x with tables := pulsed }).modEngine 0 fun e =>
      { e with mode := .stepFade, fade := 95, fadeLen := 96 }
    s.stepFadeEndDue 0 = true ∧ (s.stepRec 0).kind = .pulse ∧
    ((after (.stepFadeEnd 0) s).nest 0).engine.lobe = .isOpen := by decide +kernel

/-! ### Witnesses: the wait line, the order of a soft reset, rows, START -/

/-- `counted` with the event queue full, and a NOTICE, the VERDICT of nest 2 and the REF_DONE of slot 5 waiting; slots 2 and 6
have captures. -/
def queued : State :=
  let s := (counted.modNest 2 fun x => { x with phase := .reporting, verdictOut := some anEvent }).modSlot 5
    fun x => { x with refDone := some anEvent }
  let t := (s.modSlot 2 fun x => { x with capture := .capturing 8 1 [4] }).modSlot 6 fun x => { x with capture := .pending 2 2 [7] }
  waiting 16 [.vrd 2, .tbs 5, .ntc] { t with ntc := { t.ntc with outbox := .waiting } }

theorem queued_lot (j : SlotId) (l : Lot) (h : queued.lot j = some l) : j = 0 ∧ l = lot7 := counted_lot j l h

/-- Producers wait, in the order in which they joined, and a step goes on from there. -/
theorem witness_StepKeepsQueues_line :
    LineOk queued ∧ queued.QueuesOk ∧ (∃ t, step { queued with pending := [.abort 0 1] } = .next t) := by
  refine ⟨⟨?_, ?_, ?_, ?_, ?_, ?_, ?_, ?_⟩, ?_, ⟨_, rfl⟩⟩
  all_goals first | decide +kernel | (unfold State.QueuesOk; decide)

/-- The order of a soft reset: the REF_DONE that waits, then those of the captures cancelled. -/
theorem witness_SoftResetLeaves_order :
    CountsOk queued ∧ (after (.softReset 15 1) queued).lnk.waitLine = [] ∧
      (after (.softReset 15 1) queued).lnk.eventQ.map (fun m => (m.kind, m.tag)) =
        [(0x82#8, 0#8), (0x83#8, 1#8), (0x86#8, 2#8), (0x86#8, 3#8)] := by
  refine ⟨⟨?_, ?_, ?_, ?_, ?_, ?_, ?_, ?_, ?_, ?_, ?_, ?_⟩, by decide +kernel, by decide +kernel⟩
  · intro k l h; obtain ⟨_, rfl⟩ := queued_lot k l h; unfold Lot.Balanced; decide +kernel
  · intro k l h hs; obtain ⟨_, rfl⟩ := queued_lot k l h; exact absurd rfl hs
  · intro j k l m h g _; exact (queued_lot j l h).1.trans (queued_lot k m g).1.symm
  · intro n h; exact ⟨lot7, by revert n; decide +kernel, by revert n; decide +kernel⟩
  · intro r hr _; exact ⟨0, lot7, by decide, by revert r; decide⟩
  · intro e he; exact ⟨lot7, by revert e; decide, by revert e; decide⟩
  all_goals decide +kernel

/-- The bits kept of a word of ones, in each of the four tables (R18, R21, R25). -/
theorem test_ignored_bits :
    let ones : Row := List.replicate 8 0xFFFFFFFF#32
    (storedRow 0 ones).drop 6 = [0xFFFFFFFF#32, 0#32] ∧ (storedRow 1 ones).drop 1 = [0x7FFFF#32, 0xFFFFFFFF#32, 0xFFFF0000#32] ∧
    (storedRow 2 ones).take 3 = [0x3FF#32, 0x3FF#32, 0xFFFFFFFF#32] ∧ storedRow 3 ones = [0xFFFFFFFF#32, 0#32] := by decide

/-- START in seat mode IMMEDIATE: step 0 at 1 kHz has increment 44,739,243 (R44), and nothing of an earlier run stays. -/
theorem test_start_enters_step :
    let s := (loaded.modSlot 0 fun x => { x with tables := { tabs with settings := [settingsNow] } }).modNest 0 fun x =>
      { x with retryMarked := true, engine := { x.engine with retry := 2, ext := 3, held := true, acc := 5, aeff := 1 } }
    let x := (after (.start 0 3 0#32 9#32) s).nest 0
    (x.phase, x.engine.retry, x.engine.ext, x.engine.held, x.engine.acc) = (.running, 0, 0, false, 0#32) ∧
    (x.engine.inc, x.engine.aeff, x.engine.lobe, x.retryMarked) = (44739243#32, 2097152, .ended, false) := by decide +kernel

/-- A plan whose mask row 0 has a REL lower limit, and one without; the older of two entries of a serial. -/
theorem witness_StartCommand_reads :
    relTabs.hasRel = true ∧ tabs.hasRel = false ∧
    (let s : State := { loaded with retest := [{ entry with serial := 4 }, entry, { entry with attempts := 2 }] }
     s.retestEntry 5 = some entry ∧ s.retestEntry 6 = none) := by decide +kernel

/-- The entry of a lot of another slot, given up by a START; its lot's window has room. -/
theorem witness_StartCountsUnit_given :
    let s : State := { loaded with retest := [entry] }
    (State.reportGivenUp { s with retest := s.retest.filter (fun x => x.serial != 5#48) } entry).lot 0 =
      some { lot7 with outstanding := 0, failed := 1, window := [false]
                       classes := (Vector.replicate 13 0).set 0 1 |>.set 12 1 } := by decide +kernel

end Sys2Proof.Tests
end

section
/-! PROOFS. The wait line inside an event (R14): `LineIn` is `LineOk` weakened to what holds between two actions of one event, and
each shared operation keeps it. `State.held` names the message that a producer has for LNK. -/

namespace Sys2Proof.Machine

/-! ### The message a producer holds -/

/-- The message that a producer other than NTC holds for LNK (R125, R141, R164). -/
def State.held (s : State) : Producer → Option Event
  | .ntc => none
  | .vrd n => if (s.nest n).phase = .reporting then (s.nest n).verdictOut else none
  | .tbs k => (s.slot k).refDone
  | .yld k => (s.lot k).bind (·.summary)

/-- The request for a NOTICE is kept back, as inside a soft reset (R16). -/
def NoticeBox.isDeferred : NoticeBox → Bool
  | .deferred _ => true
  | .empty | .waiting => false

/-- The wait line inside an event: every producer in it holds its message and stands in it once, NTC exactly while its outbox
waits. `deferred` says that NTC's requests are kept back; `offered` that nothing is left to be offered, as between events. -/
structure LineIn (deferred offered : Bool) (s : State) : Prop where
  distinct : s.lnk.waitLine.Nodup
  mode : s.ntc.outbox.isDeferred = deferred
  notice : s.ntc.outbox = .waiting ↔ .ntc ∈ s.lnk.waitLine
  waits : ∀ p ∈ s.lnk.waitLine, p ≠ .ntc → s.held p ≠ none
  verdictPhases : ∀ n, (s.nest n).verdictOut ≠ none → (s.nest n).phase = .closing ∨ (s.nest n).phase = .reporting
  captures : ∀ k, (s.slot k).refDone ≠ none → (s.slot k).capture = .idle
  offers : offered = true → ∀ p, s.held p ≠ none → p ∈ s.lnk.waitLine
  results : offered = true → ∀ n, (s.nest n).stepOut = none

theorem held_vrd_ne_none {s : State} {n : NestId} :
    s.held (.vrd n) ≠ none ↔ (s.nest n).phase = .reporting ∧ (s.nest n).verdictOut ≠ none := by
  simp only [State.held]
  split <;> simp_all

/-- `LineOk` is the wait line between two events. -/
theorem lineOk_iff {s : State} : LineOk s ↔ LineIn false true s := by
  constructor
  · intro h
    have hb : s.ntc.outbox.isDeferred = false ∧ (s.ntc.outbox = .waiting ↔ .ntc ∈ s.lnk.waitLine) := by
      rcases h.notice with ⟨h1, h2⟩ | ⟨h1, h2⟩ <;> simp [h1, h2, NoticeBox.isDeferred]
    have hheld : ∀ p, p ≠ .ntc → (p ∈ s.lnk.waitLine ↔ s.held p ≠ none) := by
      intro p hp
      cases p with
      | ntc => exact absurd rfl hp
      | vrd n => rw [h.verdicts, held_vrd_ne_none]
      | tbs k => exact h.refDones k
      | yld k => exact h.summaries k
    refine ⟨h.distinct, hb.1, hb.2, fun p hm hp => (hheld p hp).mp hm, h.verdictPhases, h.captures, fun _ p hp => ?_,
      fun _ => h.results⟩
    exact (hheld p (fun e => hp (by rw [e]; rfl))).mpr hp
  · intro h
    have hheld : ∀ p, p ≠ .ntc → (p ∈ s.lnk.waitLine ↔ s.held p ≠ none) := fun p hp =>
      ⟨fun hm => h.waits p hm hp, h.offers rfl p⟩
    refine ⟨h.distinct, ?_, fun n => by rw [hheld _ (by simp), held_vrd_ne_none], h.verdictPhases,
      fun k => hheld (.tbs k) (by simp), h.captures, fun k => hheld (.yld k) (by simp), h.results rfl⟩
    have hm := h.mode
    have hn := h.notice
    cases ho : s.ntc.outbox <;> simp_all [NoticeBox.isDeferred]

/-! ### Changes that the wait line does not see -/

/-- From s to t nothing changes that the wait line depends on: the line, NTC's outbox, the messages held and offered. -/
structure SameOffers (s t : State) : Prop where
  line : t.lnk.waitLine = s.lnk.waitLine
  outbox : t.ntc.outbox = s.ntc.outbox
  nests : ∀ n, (t.nest n).stepOut = (s.nest n).stepOut ∧ (t.nest n).verdictOut = (s.nest n).verdictOut ∧
    ((s.nest n).verdictOut = none ∨ (t.nest n).phase = (s.nest n).phase)
  slots : ∀ k, (t.slot k).refDone = (s.slot k).refDone ∧
    ((s.slot k).refDone = none ∨ ((s.slot k).capture = .idle → (t.slot k).capture = .idle))
  lots : ∀ k, (t.lot k).bind (·.summary) = (s.lot k).bind (·.summary)

theorem SameOffers.held {s t : State} (h : SameOffers s t) (p : Producer) : t.held p = s.held p := by
  cases p with
  | ntc => rfl
  | vrd n =>
    obtain ⟨_, hv, hp⟩ := h.nests n
    rcases hp with hp | hp <;> simp [State.held, hv, hp]
  | tbs k => exact (h.slots k).1
  | yld k => exact h.lots k

variable {d o : Bool} {s t : State}

theorem LineIn.congr (h : LineIn d o s) (g : SameOffers s t) : LineIn d o t where
  distinct := g.line ▸ h.distinct
  mode := g.outbox ▸ h.mode
  notice := by rw [g.outbox, g.line]; exact h.notice
  waits p := by rw [g.line, g.held]; exact h.waits p
  verdictPhases n hn := by
    obtain ⟨_, hv, hp⟩ := g.nests n
    rw [hv] at hn
    rcases hp with hp | hp
    · exact absurd hp hn
    · rw [hp]; exact h.verdictPhases n hn
  captures k hk := by
    obtain ⟨hr, hc⟩ := g.slots k
    rw [hr] at hk
    rcases hc with hc | hc
    · exact absurd hc hk
    · exact hc (h.captures k hk)
  offers ho p := by rw [g.line, g.held]; exact h.offers ho p
  results ho n := by rw [(g.nests n).1]; exact h.results ho n

/-- Inside an event nothing is said of what is still to be offered. -/
theorem LineIn.inside (h : LineIn d o s) : LineIn d false s :=
  { h with offers := fun h => absurd h (by decide), results := fun h => absurd h (by decide) }

theorem sameOffers_of_parts (hl : t.lnk.waitLine = s.lnk.waitLine) (hn : t.ntc.outbox = s.ntc.outbox)
    (h1 : t.nests = s.nests) (h2 : t.slots = s.slots) (h3 : t.lots = s.lots) : SameOffers s t :=
  ⟨hl, hn, fun n => by rw [nest_congr h1]; exact ⟨rfl, rfl, .inr rfl⟩,
    fun k => by rw [slot_congr h2]; exact ⟨rfl, .inr fun h => h⟩, fun k => by rw [lot_congr h3]⟩

/-- A nest that changes in neither outbox, and in its phase only where no VERDICT stands. -/
theorem modNest_sameOffers (n : NestId) (f : Nest → Nest) (h1 : (f (s.nest n)).stepOut = (s.nest n).stepOut)
    (h2 : (f (s.nest n)).verdictOut = (s.nest n).verdictOut)
    (h3 : (s.nest n).verdictOut = none ∨ (f (s.nest n)).phase = (s.nest n).phase) : SameOffers s (s.modNest n f) := by
  refine ⟨rfl, rfl, fun m => ?_, fun k => by simp, fun k => by simp⟩
  rw [nest_modNest]
  split
  · rename_i hm; rw [← hm]; exact ⟨h1, h2, h3⟩
  · exact ⟨rfl, rfl, .inr rfl⟩

theorem modLot_sameOffers (k : SlotId) (f : Lot → Lot) (hf : ∀ l, (f l).summary = l.summary) :
    SameOffers s (s.modLot k f) := by
  refine ⟨rfl, rfl, fun m => by simp, fun k => by simp, fun j => ?_⟩
  rw [lot_modLot]
  split
  · rename_i hk; subst hk; cases s.lot k <;> simp [hf]
  · rfl

theorem modSlot_sameOffers (k : SlotId) (f : Slot → Slot) (h1 : (f (s.slot k)).refDone = (s.slot k).refDone)
    (h2 : (s.slot k).refDone = none ∨ ((s.slot k).capture = .idle → (f (s.slot k)).capture = .idle)) :
    SameOffers s (s.modSlot k f) := by
  refine ⟨rfl, rfl, fun m => by simp, fun j => ?_, fun k => by simp⟩
  rw [slot_modSlot]
  split
  · rename_i hk; rw [← hk]; exact ⟨h1, h2⟩
  · exact ⟨rfl, .inr fun h => h⟩

/-! ### NTC's requests -/

/-- NTC's outbox empties and its name leaves the line, or was not in it. -/
theorem admitNotice_lineIn (h : LineIn d o s) (hw : .ntc ∉ s.lnk.waitLine) : LineIn false o s.admitNotice := by
  have hs : SameOffers { s with ntc := { s.ntc with outbox := .empty } } s.admitNotice :=
    sameOffers_of_parts rfl rfl rfl rfl rfl
  refine LineIn.congr ?_ hs
  exact { h with mode := rfl, notice := by simpa using hw }

theorem joinLine_lineIn (h : LineIn false o s) (ho : s.ntc.outbox ≠ .waiting) :
    LineIn false o ((s.modNtc fun c => { c with outbox := .waiting }).modLnk
      fun l => { l with waitLine := l.waitLine ++ [.ntc] }) := by
  have hn : .ntc ∉ s.lnk.waitLine := fun hm => ho (h.notice.mpr hm)
  exact
    { distinct := by simpa [List.nodup_append, hn] using ⟨h.distinct, fun a ha e => hn (e ▸ ha)⟩
      mode := rfl
      notice := by simp
      waits := fun p hp hne => h.waits p (by simpa [hne] using hp) hne
      verdictPhases := h.verdictPhases
      captures := h.captures
      offers := fun ho p hp => by simpa using .inl (h.offers ho p hp)
      results := h.results }

theorem askNotice_lineIn (h : LineIn d o s) : LineIn d o s.askNotice := by
  have hm := h.mode
  unfold State.askNotice
  split
  · exact h
  · rename_i hb
    rw [hb] at hm
    have hn : .ntc ∉ s.lnk.waitLine := fun hw => by simpa [hb] using h.notice.mpr hw
    exact { h with mode := by rw [← hm]; rfl, notice := by simpa using hn }
  · rename_i hb
    rw [hb] at hm
    obtain rfl : d = false := hm.symm
    split
    · exact admitNotice_lineIn h fun hw => by simpa [hb] using h.notice.mpr hw
    · exact joinLine_lineIn h (by simp [hb])

/-- NTC's bookkeeping but for its outbox. -/
theorem modNtc_lineIn (h : LineIn d o s) (f : Notices → Notices) (hf : (f s.ntc).outbox = s.ntc.outbox) :
    LineIn d o (s.modNtc f) :=
  h.congr (sameOffers_of_parts rfl hf rfl rfl rfl)

theorem modLnk_lineIn (h : LineIn d o s) (f : Link → Link) (hf : (f s.lnk).waitLine = s.lnk.waitLine) :
    LineIn d o (s.modLnk f) :=
  h.congr (sameOffers_of_parts hf rfl rfl rfl rfl)

theorem notifyRising_lineIn (h : LineIn d o s) (f : Flag) : LineIn d o (s.notifyRising f) := by
  simp only [State.notifyRising]
  (repeat' split)
  · exact askNotice_lineIn (modNtc_lineIn h _ rfl)
  · exact askNotice_lineIn (modNtc_lineIn h _ rfl)
  · exact modNtc_lineIn h _ rfl

theorem setFlag_lineIn (h : LineIn d o s) (f : Flag) : LineIn d o (s.setFlag f) := by
  simp only [State.setFlag]
  (repeat' split)
  · exact h
  · exact notifyRising_lineIn (modNtc_lineIn h _ rfl) f
  · exact modNtc_lineIn h _ rfl

theorem periodExpiry_lineIn (h : LineIn d o s) : LineIn d o s.periodExpiry := by
  simp only [State.periodExpiry]
  (repeat' split)
  · exact h
  · exact askNotice_lineIn (modNtc_lineIn h _ rfl)
  · exact modNtc_lineIn h _ rfl

theorem linkError_lineIn (h : LineIn d o s) : LineIn d o s.linkError :=
  setFlag_lineIn (modLnk_lineIn h _ rfl) _

theorem queueReply_lineIn (h : LineIn d o s) (m : Msg) : LineIn d o (s.queueReply m) := modLnk_lineIn h _ rfl

theorem reply_lineIn (h : LineIn d o s) (k : Kind) (scope : BitVec 4) (tag : BitVec 8) (code : ResultCode)
    (data : List Word) : LineIn d o (s.reply k scope tag code data) := queueReply_lineIn h _

end Sys2Proof.Machine
end

section
/-! PROOFS. Actions of the blocks that the wait line does not see, or sees only through a flag: YLD's reports, MRK, VRD's records,
captures, the monitor, the sequencer's own moves. -/

namespace Sys2Proof.Machine

variable {d o : Bool} {s : State}

/-! ### YLD -/

theorem modLot_lineIn (h : LineIn d o s) (k : SlotId) (f : Lot → Lot) (hf : ∀ l, (f l).summary = l.summary) :
    LineIn d o (s.modLot k f) :=
  h.congr (modLot_sameOffers k f hf)

theorem evaluateAlarm_lineIn (h : LineIn d o s) (k : SlotId) : LineIn d o (s.evaluateAlarm k) := by
  simp only [State.evaluateAlarm]
  (repeat' split)
  · exact h
  · exact modLot_lineIn h _ _ fun _ => by rfl
  · exact h
  · exact setFlag_lineIn (modNtc_lineIn (modLot_lineIn h _ _ fun _ => by rfl) _ rfl) _
  · exact h

theorem finalCount_lineIn (h : LineIn d o s) (k : SlotId) (pass : Bool) (classes : ClassSet) :
    LineIn d o (s.finalCount k pass classes) :=
  evaluateAlarm_lineIn (modLot_lineIn h _ _ fun _ => by rfl) k

theorem countVerdict_summary (l : Lot) (v : VerdictKind) : (l.countVerdict v).summary = l.summary := by cases v <;> rfl

theorem reportVerdict_lineIn (h : LineIn d o s) (v : VerdictKind) (id : Word) : LineIn d o (s.reportVerdict v id) := by
  simp only [State.reportVerdict]
  split
  · exact modLot_lineIn h _ _ fun l => countVerdict_summary l v
  · exact h

theorem reportResolution_lineIn (h : LineIn d o s) (r : Label) (marked : Bool) :
    LineIn d o (s.reportResolution r marked) := by
  simp only [State.reportResolution]
  (repeat' split)
  · exact h
  · exact h
  all_goals exact finalCount_lineIn (modLot_lineIn h _ _ fun _ => by rfl) _ _ _

theorem reportGivenUp_lineIn (h : LineIn d o s) (e : RetestEntry) : LineIn d o (s.reportGivenUp e) := by
  simp only [State.reportGivenUp]
  split
  · exact finalCount_lineIn (modLot_lineIn h _ _ fun _ => by rfl) _ _ _
  · exact h

/-- The retest list, the marking unit and the buffers are not seen by the wait line. -/
theorem setRetest_lineIn (h : LineIn d o s) (v : List RetestEntry) : LineIn d o { s with retest := v } :=
  h.congr (sameOffers_of_parts rfl rfl rfl rfl rfl)

theorem giveUpLot_lineIn (h : LineIn d o s) (id : Word) : LineIn d o (s.giveUpLot id) :=
  foldl_keeps (P := LineIn d o) (fun _ e h => reportGivenUp_lineIn h e) _ _ (setRetest_lineIn h _)

/-! ### MRK -/

theorem modMrk_lineIn (h : LineIn d o s) (f : Marking → Marking) : LineIn d o (s.modMrk f) :=
  h.congr (sameOffers_of_parts rfl rfl rfl rfl rfl)

theorem resolveLabel_lineIn (h : LineIn d o s) (i : Nat) (marked fault : Bool) :
    LineIn d o (s.resolveLabel i marked fault) := by
  simp only [State.resolveLabel]
  (repeat' split)
  · exact h
  · exact setFlag_lineIn (reportResolution_lineIn (modMrk_lineIn h _) _ _) _
  · exact reportResolution_lineIn (modMrk_lineIn h _) _ _

theorem resolveIssued_lineIn (h : LineIn d o s) (marked : Bool) : LineIn d o (s.resolveIssued marked) := by
  simp only [State.resolveIssued]
  split
  · exact resolveLabel_lineIn h _ _ _
  · exact h

theorem makeRoom_lineIn (h : LineIn d o s) : LineIn d o s.makeRoom := by
  simp only [State.makeRoom]
  (repeat' split)
  · exact resolveLabel_lineIn h _ _ _
  · exact h
  · exact h

theorem createLabel_lineIn (h : LineIn d o s) (r : Label) : LineIn d o (s.createLabel r) :=
  modMrk_lineIn (makeRoom_lineIn h) _

theorem requestRising_lineIn (h : LineIn d o s) (n : NestId) : LineIn d o (s.requestRising n) := by
  simp only [State.requestRising, State.answerRequest]
  split <;> exact modMrk_lineIn (resolveIssued_lineIn h false) _

theorem strayResult_lineIn (h : LineIn d o s) : LineIn d o s.strayResult := setFlag_lineIn (modMrk_lineIn h _) _

theorem markedRising_lineIn (h : LineIn d o s) : LineIn d o s.markedRising := by
  simp only [State.markedRising]
  split
  · exact resolveIssued_lineIn h true
  · exact strayResult_lineIn h

theorem jamRising_lineIn (h : LineIn d o s) : LineIn d o s.jamRising := by
  simp only [State.jamRising]
  split
  · exact resolveIssued_lineIn h false
  · exact strayResult_lineIn h

theorem expireLabel_lineIn (h : LineIn d o s) (i : Nat) : LineIn d o (s.expireLabel i) := by
  simp only [State.expireLabel]
  (repeat' split)
  · exact h
  · exact resolveLabel_lineIn h _ _ _
  · exact h

theorem resolveOverdue_lineIn : ∀ (fuel : Nat) {s : State}, LineIn d o s → LineIn d o (State.resolveOverdue fuel s)
  | 0, _, h => h
  | fuel + 1, s, h => by
    simp only [State.resolveOverdue]
    split
    · exact resolveOverdue_lineIn fuel (resolveLabel_lineIn h _ _ _)
    · exact h

theorem tickLabels_lineIn (h : LineIn d o s) : LineIn d o s.tickLabels := resolveOverdue_lineIn _ (modMrk_lineIn h _)

theorem tickMarking_lineIn (h : LineIn d o s) : LineIn d o s.tickMarking := by
  have ha : LineIn d o (s.modMrk Marking.sampleInputs) := modMrk_lineIn h _
  have hb : ∀ (c : Bool) (n : NestId), LineIn d o (if c then (if s.mrk.req.line then
      (s.modMrk Marking.sampleInputs).requestRising n else (s.modMrk Marking.sampleInputs).requestFalling)
      else s.modMrk Marking.sampleInputs) := by
    intro c n
    (repeat' split)
    · exact requestRising_lineIn ha n
    · exact modMrk_lineIn ha _
    · exact ha
  have marked : ∀ (c : Bool) {t : State}, LineIn d o t → LineIn d o (if c then t.markedRising else t) := by
    intro c t ht
    split
    · exact markedRising_lineIn ht
    · exact ht
  have jam : ∀ (c : Bool) {t : State}, LineIn d o t → LineIn d o (if c then t.jamRising else t) := by
    intro c t ht
    split
    · exact jamRising_lineIn ht
    · exact ht
  exact jam _ (marked _ (hb _ _))

/-! ### AMB -/

theorem setAmb_lineIn (h : LineIn d o s) (v : Ambient) : LineIn d o { s with amb := v } :=
  h.congr (sameOffers_of_parts rfl rfl rfl rfl rfl)

theorem turnLoud_lineIn (h : LineIn d o s) : LineIn d o s.turnLoud := setFlag_lineIn (setAmb_lineIn h _) _

theorem countFrame_lineIn (h : LineIn d o s) (b : Bool) : LineIn d o (s.countFrame b) := by
  simp only [State.countFrame]
  (repeat' split)
  · exact setAmb_lineIn h _
  · exact turnLoud_lineIn h
  · exact setAmb_lineIn h _
  · exact setAmb_lineIn h _
  · exact setAmb_lineIn h _
  · exact setAmb_lineIn h _

/-! ### Nests: changes that leave outboxes and phase -/

theorem modNest_lineIn (h : LineIn d o s) (n : NestId) (f : Nest → Nest)
    (hf : ∀ x, (f x).stepOut = x.stepOut ∧ (f x).verdictOut = x.verdictOut ∧ (f x).phase = x.phase) :
    LineIn d o (s.modNest n f) :=
  h.congr (modNest_sameOffers n f (hf _).1 (hf _).2.1 (.inr (hf _).2.2))

/-- A nest with no VERDICT may change its phase. -/
theorem modNest_noVerdict_lineIn (h : LineIn d o s) (n : NestId) (f : Nest → Nest)
    (hf : ∀ x, (f x).stepOut = x.stepOut ∧ (f x).verdictOut = x.verdictOut) (hv : (s.nest n).verdictOut = none) :
    LineIn d o (s.modNest n f) :=
  h.congr (modNest_sameOffers n f (hf _).1 (hf _).2 (.inl hv))

theorem modRun_lineIn (h : LineIn d o s) (n : NestId) (f : Run → Run) : LineIn d o (s.modRun n f) :=
  modNest_lineIn h n _ fun _ => by exact ⟨rfl, rfl, rfl⟩

theorem modEngine_lineIn (h : LineIn d o s) (n : NestId) (f : Engine → Engine) : LineIn d o (s.modEngine n f) :=
  modNest_lineIn h n _ fun _ => by exact ⟨rfl, rfl, rfl⟩

theorem markEnd_lineIn (h : LineIn d o s) (n : NestId) (cause : EndCause) : LineIn d o (s.markEnd n cause) :=
  modNest_lineIn h n _ fun _ => by exact ⟨rfl, rfl, rfl⟩

theorem decideWindow_lineIn (h : LineIn d o s) (n : NestId) : LineIn d o (s.decideWindow n) := by
  simp only [State.decideWindow]
  split
  · refine modNest_lineIn h n _ fun x => ?_
    unfold Nest.decideWindow
    split <;> exact ⟨rfl, rfl, rfl⟩
  · exact h

theorem endDwell_lineIn (h : LineIn d o s) (n : NestId) : LineIn d o (s.endDwell n) := by
  simp only [State.endDwell]
  exact modNest_lineIn h n _ fun _ => by exact ⟨rfl, rfl, rfl⟩

theorem endStepFade_lineIn (h : LineIn d o s) (n : NestId) : LineIn d o (s.endStepFade n) := by
  simp only [State.endStepFade]
  exact modNest_lineIn h n _ fun _ => by exact ⟨rfl, rfl, rfl⟩

theorem analyseFrame_lineIn (h : LineIn d o s) (n : NestId) (inp : FrameInput) : LineIn d o (s.analyseFrame n inp) := by
  simp only [State.analyseFrame]
  exact modNest_lineIn h n _ fun _ => by exact ⟨rfl, rfl, rfl⟩

theorem clearBound_outboxes (k : SlotId) (x : Nest) :
    (x.clearBound k).stepOut = x.stepOut ∧ (x.clearBound k).verdictOut = x.verdictOut ∧
      (x.clearBound k).phase = x.phase := by
  unfold Nest.clearBound
  split <;> exact ⟨rfl, rfl, rfl⟩

theorem clearBounds_lineIn (h : LineIn d o s) (k : SlotId) : LineIn d o (s.clearBounds k) :=
  foldl_keeps (P := LineIn d o) (fun _ n h => modNest_lineIn h n _ (clearBound_outboxes k)) _ _ h

/-! ### The key -/

theorem setProt_lineIn (h : LineIn d o s) (v : Protection) : LineIn d o { s with prot := v } :=
  h.congr (sameOffers_of_parts rfl rfl rfl rfl rfl)

theorem keyTurnedOff_outboxes (x : Nest) :
    x.keyTurnedOff.stepOut = x.stepOut ∧ x.keyTurnedOff.verdictOut = x.verdictOut ∧ x.keyTurnedOff.phase = x.phase := by
  unfold Nest.keyTurnedOff
  split <;> exact ⟨rfl, rfl, rfl⟩

theorem keyTurnedOff_lineIn (h : LineIn d o s) : LineIn d o s.keyTurnedOff :=
  foldl_keeps (P := LineIn d o) (fun _ n h => modNest_lineIn h n _ keyTurnedOff_outboxes) _ _ (setProt_lineIn h _)

theorem keyTurnedOn_lineIn (h : LineIn d o s) : LineIn d o s.keyTurnedOn := setProt_lineIn h _

theorem tickKey_lineIn (h : LineIn d o s) : LineIn d o s.tickKey := by
  simp only [State.tickKey]
  (repeat' split)
  · exact keyTurnedOn_lineIn (setProt_lineIn h _)
  · exact keyTurnedOff_lineIn (setProt_lineIn h _)
  · exact setProt_lineIn h _

theorem tickNotices_lineIn (h : LineIn d o s) : LineIn d o s.tickNotices := by
  simp only [State.tickNotices]
  (repeat' split)
  · exact h
  · exact periodExpiry_lineIn (modNtc_lineIn h _ rfl)
  · exact modNtc_lineIn h _ rfl

/-! ### Records of a verdict, captures -/

theorem evictRetest_lineIn (h : LineIn d o s) : LineIn d o s.evictRetest := by
  simp only [State.evictRetest]
  (repeat' split)
  · exact setFlag_lineIn (reportGivenUp_lineIn (setRetest_lineIn h _) _) _
  · exact h
  · exact h

theorem addRetest_lineIn (h : LineIn d o s) (r : Run) (classes : ClassSet) : LineIn d o (s.addRetest r classes) :=
  setRetest_lineIn (evictRetest_lineIn h) _

theorem recordVerdict_lineIn (h : LineIn d o s) (n : NestId) (r : Run) (v : VerdictKind) (classes : ClassSet)
    (g : LabelField) : LineIn d o (s.recordVerdict n r v classes g) := by
  have ha : LineIn d o (if v == .retest then s.addRetest r classes else s) := by
    split
    · exact addRetest_lineIn h _ _
    · exact h
  simp only [State.recordVerdict]
  split
  · exact createLabel_lineIn (reportVerdict_lineIn ha _ _) _
  · exact reportVerdict_lineIn ha _ _

/-- A slot with a capture may change in all but its REF_DONE: none waits (R117). -/
theorem modSlot_capture_lineIn (h : LineIn d o s) (k : SlotId) (f : Slot → Slot)
    (hf : ∀ x, (f x).refDone = x.refDone) (hc : (s.slot k).capture ≠ .idle) : LineIn d o (s.modSlot k f) := by
  refine h.congr (modSlot_sameOffers k f (hf _) (.inr fun hi => absurd hi hc))

theorem modSlot_lineIn (h : LineIn d o s) (k : SlotId) (f : Slot → Slot)
    (hf : ∀ x, (f x).refDone = x.refDone ∧ (f x).capture = x.capture) : LineIn d o (s.modSlot k f) :=
  h.congr (modSlot_sameOffers k f (hf _).1 (.inr fun hi => by rw [(hf _).2]; exact hi))

theorem addToCapture_lineIn (h : LineIn d o s) (k : SlotId) (values : List Level) : LineIn d o (s.addToCapture k values) := by
  simp only [State.addToCapture]
  split
  · rename_i hc
    have hne : (s.slot k).capture ≠ .idle := by rw [hc]; simp
    split
    · exact modSlot_capture_lineIn h k _ (fun _ => by rfl) hne
    · exact clearBounds_lineIn (modSlot_capture_lineIn h k _ (fun _ => by rfl) hne) k
  · exact h

theorem offerCapture_lineIn (h : LineIn d o s) (r : Run) : LineIn d o (s.offerCapture r) := by
  simp only [State.offerCapture]
  (repeat' split)
  · exact addToCapture_lineIn h _ _
  · exact h
  · exact h

theorem setBuffer_lineIn (h : LineIn d o s) (b : Fin 2) (v : Option Session) : LineIn d o (s.setBuffer b v) :=
  h.congr (sameOffers_of_parts rfl rfl rfl rfl rfl)

/-! ### A run begins -/

/-- A nest that is neither CLOSING nor REPORTING holds no VERDICT (R141). -/
theorem LineIn.noVerdict (h : LineIn d o s) {n : NestId} (h1 : (s.nest n).phase ≠ .closing)
    (h2 : (s.nest n).phase ≠ .reporting) : (s.nest n).verdictOut = none := by
  by_contra hv
  rcases h.verdictPhases n hv with hp | hp
  · exact h1 hp
  · exact h2 hp

theorem becomeRunning_lineIn (h : LineIn d o s) (n : NestId) (cause : StartCause) (hv : (s.nest n).verdictOut = none) :
    LineIn d o (s.becomeRunning n cause) := by
  simp only [State.becomeRunning]
  exact modNest_noVerdict_lineIn h n _ (fun _ => by exact ⟨rfl, rfl⟩) hv

theorem arm_lineIn (h : LineIn d o s) (n : NestId) (hv : (s.nest n).verdictOut = none) : LineIn d o (s.arm n) := by
  simp only [State.arm]
  exact modNest_noVerdict_lineIn h n _ (fun _ => by exact ⟨rfl, rfl⟩) hv

theorem enterRun_lineIn (h : LineIn d o s) (n : NestId) (k : SlotId) (hv : (s.nest n).verdictOut = none) :
    LineIn d o (s.enterRun n k) := by
  have ho : LineIn d o (s.occupy k) := modSlot_lineIn h k _ fun _ => by exact ⟨rfl, rfl⟩
  have hv' : ((s.occupy k).nest n).verdictOut = none := by simpa using hv
  simp only [State.enterRun]
  (repeat' split)
  · exact becomeRunning_lineIn ho n _ hv'
  · exact becomeRunning_lineIn ho n _ hv'
  · exact arm_lineIn ho n hv'

theorem lookupRetest_lineIn (h : LineIn d o s) (k : SlotId) (serial : BitVec 48) :
    LineIn d o (s.lookupRetest k serial).2 := by
  simp only [State.lookupRetest]
  (repeat' split)
  · exact modLot_lineIn (setRetest_lineIn h _) _ _ fun _ => by rfl
  · exact modLot_lineIn (reportGivenUp_lineIn (setRetest_lineIn h _) _) _ _ fun _ => by rfl
  · exact modLot_lineIn h _ _ fun _ => by rfl

theorem startRun_lineIn (h : LineIn d o s) (n : NestId) (k : SlotId) (r : StartRequest)
    (hv : (s.nest n).verdictOut = none) : LineIn d o (s.startRun n k r) := by
  have ht : LineIn d o (if runKindOf r.golden (s.nest n).config.bench == .counted then s.lookupRetest k r.serial
      else (1, s)).2 := by
    split
    · exact lookupRetest_lineIn h k _
    · exact h
  have hn : ((if runKindOf r.golden (s.nest n).config.bench == .counted then s.lookupRetest k r.serial
      else (1, s)).2.nest n).verdictOut = none := by
    split <;> simpa using hv
  exact enterRun_lineIn (modNest_lineIn ht n _ fun _ => by exact ⟨rfl, rfl, rfl⟩) n k (by simpa using hn)

theorem seatClosed_lineIn (h : LineIn d o s) (n : NestId) : LineIn d o (s.seatClosed n) := by
  have ht : LineIn d o (s.modNest n fun x => { x with seat := .settled true }) :=
    modNest_lineIn h n _ fun _ => by exact ⟨rfl, rfl, rfl⟩
  simp only [State.seatClosed]
  split
  · rename_i hp
    have hp := eq_of_beq hp
    exact becomeRunning_lineIn ht n _ (ht.noVerdict (by rw [hp]; simp) (by rw [hp]; simp))
  · exact ht

end Sys2Proof.Machine
end

section
/-! PROOFS. Messages produced, admitted and offered, as the wait line sees them (R13, R14): a producer that is admitted holds
nothing, one that is offered holds nothing or waits, and after the close of an event nothing is left to be offered. -/

namespace Sys2Proof.Machine

variable {d o : Bool} {s : State}

/-! ### Messages produced -/

theorem modNest_modNest (s : State) (n : NestId) (f g : Nest → Nest) :
    (s.modNest n f).modNest n g = s.modNest n fun x => g (f x) := by
  rw [State.modNest, State.modNest, State.modNest, setNest_setNest, nest_setNest, if_pos rfl]

/-- One nest changes inside an event: its producer waits only where its VERDICT is to be offered, and a VERDICT stands only after a
run end (R141). -/
theorem modNest_inside (h : LineIn d o s) (n : NestId) (f : Nest → Nest)
    (hw : .vrd n ∈ s.lnk.waitLine → (f (s.nest n)).phase = .reporting ∧ (f (s.nest n)).verdictOut ≠ none)
    (hp : (f (s.nest n)).verdictOut ≠ none → (f (s.nest n)).phase = .closing ∨ (f (s.nest n)).phase = .reporting) :
    LineIn d false (s.modNest n f) :=
  { h with
    waits := fun p hm hne => by
      have hp' := h.waits p hm hne
      cases p with
      | vrd m =>
        rw [held_vrd_ne_none, nest_modNest]
        split
        · rename_i hnm; exact hw (hnm ▸ hm)
        · exact held_vrd_ne_none.mp hp'
      | ntc => exact absurd rfl hne
      | _ => simpa [State.held] using hp'
    verdictPhases := fun m => by
      rw [nest_modNest]
      split
      · exact hp
      · exact h.verdictPhases m
    captures := fun k => by simpa using h.captures k
    offers := fun h => absurd h (by decide)
    results := fun h => absurd h (by decide) }

/-- The slot's capture has ended and its REF_DONE is built (R125). -/
theorem produceRefDone_lineIn (h : LineIn d o s) (k : SlotId) (out : RefOutcome) (n c : Nat)
    (hc : (s.slot k).capture = .idle) : LineIn d false (s.produceRefDone k out n c) := by
  have hheld : ∀ p, s.held p ≠ none → (s.produceRefDone k out n c).held p ≠ none := by
    intro p hp
    cases p with
    | tbs j =>
      simp only [State.held, State.produceRefDone, slot_modSlot] at hp ⊢
      split
      · simp
      · exact hp
    | ntc => exact hp
    | _ => simpa [State.held] using hp
  exact
    { distinct := h.distinct, mode := h.mode, notice := h.notice
      waits := fun p hm hp => hheld p (h.waits p hm hp)
      verdictPhases := fun m => by simpa using h.verdictPhases m
      captures := fun j => by
        simp only [State.produceRefDone, slot_modSlot]
        split
        · exact fun _ => hc
        · exact h.captures j
      offers := fun h => absurd h (by decide)
      results := fun h => absurd h (by decide) }

theorem cancelCapture_lineIn (h : LineIn d o s) (k : SlotId) (out : RefOutcome) :
    LineIn d false (s.cancelCapture k out) := by
  have cancel : ∀ n c, (s.slot k).capture ≠ .idle → LineIn d false
      (((s.modSlot k fun x => { x with capture := .idle }).clearBounds k).produceRefDone k out n c) := fun n c hc =>
    produceRefDone_lineIn (clearBounds_lineIn (modSlot_capture_lineIn h k _ (fun _ => by rfl) hc) k) k out n c (by simp)
  simp only [State.cancelCapture]
  split
  · exact h.inside
  all_goals exact cancel _ _ (by simp [*])

theorem swap_lineIn (h : LineIn d o s) (k : SlotId) : LineIn d false (s.swap k) := by
  have installed : ∀ (e : Session) (b : Fin 2), LineIn d false ((s.modSlot k fun x => x.install e).setBuffer b none) :=
    fun e b => setBuffer_lineIn (modSlot_lineIn h.inside k _ fun _ => by exact ⟨rfl, rfl⟩) b none
  simp only [State.swap]
  (repeat' split)
  · exact h.inside
  · exact h.inside
  · exact modLot_lineIn (cancelCapture_lineIn (installed _ _) k _) k _ fun _ => by rfl
  · exact modLot_lineIn (installed _ _) k _ fun _ => by rfl

theorem promote_lineIn (h : LineIn d o s) (k : SlotId) : LineIn d false (s.promote k) := by
  simp only [State.promote]
  split
  · rename_i hc
    split
    · exact produceRefDone_lineIn (modSlot_capture_lineIn h k _ (fun _ => by rfl) (by rw [hc]; simp)) k _ _ _ (by simp)
    · exact h.inside
  · exact h.inside

theorem releaseSlot_lineIn (h : LineIn d o s) (k : SlotId) : LineIn d false (s.releaseSlot k) := by
  simp only [State.releaseSlot, State.deferredSwap]
  split
  · exact promote_lineIn (swap_lineIn h k) k
  · exact promote_lineIn h k

theorem depart_lineIn (h : LineIn d o s) (k : SlotId) : LineIn d false (s.depart k) :=
  releaseSlot_lineIn (modSlot_lineIn h k _ fun _ => by exact ⟨rfl, rfl⟩) k

theorem completeLot_lineIn (h : LineIn d o s) (k : SlotId) : LineIn d false (s.completeLot k) := by
  simp only [State.completeLot]
  (repeat' split)
  · exact h.inside
  · rename_i l _ _
    have g : LineIn d false (s.giveUpLot l.id) := giveUpLot_lineIn h.inside _
    refine { g with waits := fun p hm hp => ?_, offers := fun h => absurd h (by decide),
                    verdictPhases := fun m => by simpa using g.verdictPhases m
                    captures := fun j => by simpa using g.captures j
                    results := fun h => absurd h (by decide) }
    have hw := g.waits p hm hp
    cases p with
    | yld j =>
      simp only [State.held, lot_modLot] at hw ⊢
      split
      · rename_i hk
        subst hk
        cases hl : (s.giveUpLot l.id).lot k <;> simp_all
      · exact hw
    | ntc => exact absurd rfl hp
    | _ => simpa [State.held] using hw
  · exact h.inside

/-! ### A run ends -/

/-- A run's end cause and end step (R73, step 1). -/
def State.endedRun (s : State) (n : NestId) (cause : EndCause) : Run :=
  { (s.nest n).run with
    endCause := cause, endStep := if (s.nest n).phase = .armed then 255 else (s.nest n).engine.step }

/-- The verdict of a run that ends (R130). -/
def State.endVerdict (s : State) (n : NestId) (cause : EndCause) : VerdictKind × ClassSet :=
  (s.endedRun n cause).verdict (s.runSettings n).retestLimit

/-- The grade of that verdict (R132, R133). -/
def State.endGrade (s : State) (n : NestId) (cause : EndCause) : LabelField :=
  (s.runTables n).grade (s.nest n).run.kind (s.endVerdict n cause).1 (s.endVerdict n cause).2

/-- The VERDICT of a run that ends (R140). -/
def State.endMessage (s : State) (n : NestId) (cause : EndCause) : Event :=
  verdictEvent n (s.endedRun n cause) (s.endVerdict n cause).1 (s.endVerdict n cause).2 (s.endGrade n cause)

/-- The engine after the run end (R58, R59). -/
def State.endEngine (s : State) (n : NestId) (cause : EndCause) : Engine :=
  if cause = .aborted .headLoss then (s.nest n).engine.silence else (s.nest n).engine.endRun (s.runTables n)

/-- Steps 1 to 5 of a run end: end cause and step, and the records of a counted verdict (R73, R134). -/
def State.endRecords (s : State) (n : NestId) (cause : EndCause) : State :=
  let t := s.markEnd n cause
  if (s.nest n).run.kind = .counted then
    t.recordVerdict n (s.endedRun n cause) (s.endVerdict n cause).1 (s.endVerdict n cause).2 (s.endGrade n cause)
  else t

/-- The nest that has left its run: its VERDICT in the outbox, its engine in the fade or silent (R58, R73). -/
def Nest.leave (e : Engine) (m : Event) (x : Nest) : Nest :=
  { x with verdictOut := some m, engine := e, phase := if e.mode = .silent then .reporting else .closing }

theorem nest_markEnd (s : State) (n : NestId) (cause : EndCause) :
    (s.markEnd n cause).nest n = { s.nest n with run := s.endedRun n cause } := by
  simp [State.markEnd, State.endedRun]

/-- A run end, step by step: records, the offer to the capture, the nest's leaving, the slot's departure (R73, R134). -/
theorem endRun_eq (s : State) (n : NestId) (cause : EndCause) :
    s.endRun n cause =
      (((s.endRecords n cause).offerCapture (s.endedRun n cause)).modNest n
        (Nest.leave (s.endEngine n cause) (s.endMessage n cause))).depart (s.nest n).run.slot := by
  have hslot : (((s.markEnd n cause).formVerdict n).nest n).run.slot = (s.nest n).run.slot := by
    obtain ⟨e, he⟩ := formVerdict_nest (s.markEnd n cause) n n
    have hr := congrArg Run.slot he.fields.2.2.2.1
    rw [if_pos rfl, nest_markEnd] at hr
    exact hr
  have htables : (s.markEnd n cause).runTables n = s.runTables n := by
    simp [State.runTables, State.markEnd]
  have hform : (s.markEnd n cause).formVerdict n =
      ((s.endRecords n cause).offerCapture (s.endedRun n cause)).modNest n
        fun x => { x with verdictOut := some (s.endMessage n cause) } := by
    simp only [State.formVerdict, nest_markEnd, htables, beq_iff_eq]
    rfl
  simp only [State.endRun, State.leaveRun, hslot]
  rw [hform, modNest_modNest]
  simp only [State.endEngine, beq_iff_eq]
  rfl

theorem endRecords_lineIn (h : LineIn d o s) (n : NestId) (cause : EndCause) : LineIn d o (s.endRecords n cause) := by
  simp only [State.endRecords]
  split
  · exact recordVerdict_lineIn (markEnd_lineIn h n cause) _ _ _ _ _
  · exact markEnd_lineIn h n cause

/-- A nest with no VERDICT gets one as it leaves its run. -/
theorem modNest_leave_lineIn (h : LineIn d o s) (n : NestId) (e : Engine) (m : Event)
    (hv : (s.nest n).verdictOut = none) : LineIn d false (s.modNest n (Nest.leave e m)) := by
  have hw : .vrd n ∉ s.lnk.waitLine := fun hm => by simpa [State.held, hv] using h.waits _ hm (by simp)
  refine modNest_inside h n _ (fun hm => absurd hm hw) fun _ => ?_
  by_cases hs : e.mode = .silent <;> simp [Nest.leave, hs]

theorem endRun_lineIn (h : LineIn d o s) (n : NestId) (cause : EndCause) (hv : (s.nest n).verdictOut = none) :
    LineIn d false (s.endRun n cause) := by
  have hr := offerCapture_lineIn (endRecords_lineIn h n cause) (s.endedRun n cause)
  have hn : (((s.endRecords n cause).offerCapture (s.endedRun n cause)).nest n).verdictOut = none := by
    rw [(offerCapture_nest (s.endRecords n cause) _ n).fields.2.2.2.2.2.2.2.2.1]
    simp only [State.endRecords]
    split <;> simp [nest_markEnd, hv]
  rw [endRun_eq]
  exact depart_lineIn (modNest_leave_lineIn hr n _ _ hn) _

/-- An ARMED or RUNNING nest holds no VERDICT. -/
theorem LineIn.active (h : LineIn d o s) {n : NestId} (ha : (s.nest n).phase.active = true) :
    (s.nest n).verdictOut = none := by
  refine h.noVerdict ?_ ?_ <;> intro hp <;> simp [hp, Phase.active] at ha

theorem addContact_lineIn (h : LineIn d o s) (n : NestId) : LineIn d o (s.addContact n) := modRun_lineIn h n _

theorem addDisturbed_lineIn (h : LineIn d o s) (n : NestId) : LineIn d o (s.addDisturbed n) := modRun_lineIn h n _

theorem traceWindow_lineIn (h : LineIn d o s) (n : NestId) (m : Measures) (out : StepOutcome) (cause : Nat) :
    LineIn d false (s.traceWindow n m out cause) := by
  simp only [State.traceWindow]
  split
  · exact modNest_inside h n _ (fun hm => held_vrd_ne_none.mp (h.waits _ hm (by simp))) (h.verdictPhases n)
  · exact h.inside

theorem traceWindow_verdictOut (s : State) (n : NestId) (m : Measures) (out : StepOutcome) (cause : Nat) :
    ((s.traceWindow n m out cause).nest n).verdictOut = (s.nest n).verdictOut := by
  obtain ⟨x, hx⟩ := traceWindow_nest s n m out cause
  rw [hx, if_pos rfl]

theorem judgeWindow_lineIn (h : LineIn d o s) (n : NestId) (m : Measures) (hv : (s.nest n).verdictOut = none) :
    LineIn d false (s.judgeWindow n m) := by
  have traced : ∀ (f : Run → Run) (out : StepOutcome), LineIn d false ((s.modRun n f).traceWindow n m out 0) ∧
      (((s.modRun n f).traceWindow n m out 0).nest n).verdictOut = none := fun f out =>
    ⟨traceWindow_lineIn (modRun_lineIn h n f) n m out 0, by
      rw [traceWindow_verdictOut]; simpa [State.modRun] using hv⟩
  simp only [State.judgeWindow]
  split
  · exact endRun_lineIn (traced _ _).1 n _ (traced _ _).2
  · exact (traced _ _).1

theorem disturbWindow_lineIn (h : LineIn d o s) (n : NestId) (m : Measures) (x : Disturbance)
    (hv : (s.nest n).verdictOut = none) : LineIn d false (s.disturbWindow n m x) := by
  have ht := traceWindow_lineIn h n m .disturbed x.value
  simp only [State.disturbWindow]
  split
  · exact modNest_lineIn ht n _ fun _ => by exact ⟨rfl, rfl, rfl⟩
  · refine endRun_lineIn (addDisturbed_lineIn ht n) n _ ?_
    simpa [State.addDisturbed, State.modRun, traceWindow_verdictOut] using hv

theorem closeWindow_lineIn (h : LineIn d o s) (n : NestId) (hv : (s.nest n).verdictOut = none) :
    LineIn d false (s.closeWindow n) := by
  have ha : LineIn d o (s.modNest n fun x => { x with
      window := .closed, run := { x.run with clipSeen := x.run.clipSeen || (s.windowMeasures n).clip } }) :=
    modNest_lineIn h n _ fun _ => by exact ⟨rfl, rfl, rfl⟩
  have hva : ((s.modNest n fun x => { x with
      window := .closed
      run := { x.run with clipSeen := x.run.clipSeen || (s.windowMeasures n).clip } }).nest n).verdictOut = none := by
    simpa using hv
  simp only [State.closeWindow]
  (repeat' split)
  · exact disturbWindow_lineIn ha n _ _ hva
  · refine endRun_lineIn (addContact_lineIn (traceWindow_lineIn ha n _ .contact 0) n) n _ ?_
    simpa [State.addContact, State.modRun, traceWindow_verdictOut] using hv
  · exact judgeWindow_lineIn ha n _ hva

theorem fadeEnded_lineIn (h : LineIn d o s) (n : NestId) : LineIn d false (s.fadeEnded n) := by
  simp only [State.fadeEnded]
  split
  · rename_i hp
    have hp := eq_of_beq hp
    have hw : .vrd n ∉ s.lnk.waitLine := fun hm => by
      simpa [hp] using (held_vrd_ne_none.mp (h.waits _ hm (by simp))).1
    exact modNest_inside h n _ (fun hm => absurd hm hw) fun _ => .inr rfl
  · exact h.inside

end Sys2Proof.Machine
end

section
/-! PROOFS. The offers and the close of an event (R13, R14, R141, R164): each offer admits a message or lets its producer join the
line, so that after the close nothing is left to be offered. -/

namespace Sys2Proof.Machine

variable {d o : Bool} {s : State}

theorem mem_allNests : ∀ n, n ∈ allNests := by decide

theorem mem_allSlots : ∀ k, k ∈ allSlots := by decide

/-! ### Admissions -/

/-- An admission empties the outbox of its producer alone. -/
theorem held_admitProducer (s : State) {p : Producer} (hp : p ≠ .ntc) (q : Producer) :
    (s.admitProducer p).held q = if p = q then none else s.held q := by
  cases p with
  | ntc => exact absurd rfl hp
  | vrd n =>
    cases hv : (s.nest n).verdictOut with
    | none =>
      simp only [State.admitProducer, hv]
      split
      · rename_i h; subst h; simp [State.held, hv]
      · rfl
    | some e =>
      simp only [State.admitProducer, hv]
      cases q with
      | vrd m =>
        by_cases h : n = m
        · simp [State.held, h, returnIdle_eq]
        · simp [State.held, h]
      | _ => simp [State.held]
  | tbs k =>
    cases hv : (s.slot k).refDone with
    | none =>
      simp only [State.admitProducer, hv]
      split
      · rename_i h; subst h; simp [State.held, hv]
      · rfl
    | some e =>
      simp only [State.admitProducer, hv]
      cases q with
      | tbs j =>
        by_cases h : k = j
        · simp [State.held, h]
        · simp [State.held, h]
      | _ => simp [State.held]
  | yld k =>
    cases hv : (s.lot k).bind (·.summary) with
    | none =>
      simp only [State.admitProducer, hv]
      split
      · rename_i h; subst h; simp [State.held, hv]
      · rfl
    | some e =>
      simp only [State.admitProducer, hv]
      cases q with
      | yld j =>
        by_cases h : k = j
        · simp [State.held, h]
        · simp [State.held, h]
      | _ => simp [State.held]

/-- What an admission leaves of a nest. -/
theorem nest_admitProducer (s : State) (p : Producer) (n : NestId) :
    ((s.admitProducer p).nest n = s.nest n ∧ (p = .vrd n → (s.nest n).verdictOut = none)) ∨
      (p = .vrd n ∧ (s.nest n).verdictOut ≠ none ∧
        (s.admitProducer p).nest n = { s.nest n with verdictOut := none }.returnIdle) := by
  cases p with
  | ntc => exact .inl ⟨by simp [State.admitProducer], fun h => by cases h⟩
  | vrd m =>
    cases hv : (s.nest m).verdictOut with
    | none => exact .inl ⟨by simp [State.admitProducer, hv], fun h => by cases h; exact hv⟩
    | some e =>
      by_cases hm : m = n
      · subst hm
        exact .inr ⟨rfl, by simp [hv], by simp [State.admitProducer, hv]⟩
      · exact .inl ⟨by simp [State.admitProducer, hv, hm], fun h => by cases h; exact absurd rfl hm⟩
  | tbs k => exact .inl ⟨by simp only [State.admitProducer]; split <;> simp, fun h => by cases h⟩
  | yld k => exact .inl ⟨by simp only [State.admitProducer]; split <;> simp, fun h => by cases h⟩

/-- What an admission leaves of a slot. -/
theorem slot_admitProducer (s : State) (p : Producer) (k : SlotId) :
    (s.admitProducer p).slot k = if p = .tbs k then { s.slot k with refDone := none } else s.slot k := by
  cases p with
  | ntc => simp [State.admitProducer]
  | vrd m => simp only [State.admitProducer]; split <;> simp
  | tbs j =>
    cases hv : (s.slot j).refDone with
    | none =>
      simp only [State.admitProducer, hv]
      split
      · rename_i h; cases h; rw [← hv]
      · rfl
    | some e =>
      by_cases h : j = k
      · subst h; simp [State.admitProducer, hv]
      · simp [State.admitProducer, hv, h]
  | yld j => simp only [State.admitProducer]; split <;> simp

/-- Neither line nor NTC's outbox changes at another producer's admission. -/
theorem admitProducer_line (s : State) {p : Producer} (hp : p ≠ .ntc) :
    (s.admitProducer p).lnk.waitLine = s.lnk.waitLine ∧ (s.admitProducer p).ntc = s.ntc := by
  cases p with
  | ntc => exact absurd rfl hp
  | _ => simp only [State.admitProducer]; split <;> simp

/-- A producer other than NTC is admitted and leaves the line. -/
theorem admitProducer_lineIn (h : LineIn d o s) {p : Producer} (hp : p ≠ .ntc) :
    LineIn d o ((s.modLnk fun l => { l with waitLine := l.waitLine.erase p }).admitProducer p) := by
  obtain ⟨hline, hntc⟩ := admitProducer_line (s.modLnk fun l => { l with waitLine := l.waitLine.erase p }) hp
  have hheld : ∀ q, ((s.modLnk fun l => { l with waitLine := l.waitLine.erase p }).admitProducer p).held q =
      if p = q then none else s.held q := fun q => held_admitProducer _ hp q
  have hnest := nest_admitProducer (s.modLnk fun l => { l with waitLine := l.waitLine.erase p }) p
  refine ⟨?_, ?_, ?_, fun q hq hne => ?_, fun n => ?_, fun k => ?_, fun ho q hq => ?_, fun ho n => ?_⟩
  · rw [hline]; exact h.distinct.erase p
  · rw [hntc]; exact h.mode
  · rw [hntc, hline, modLnk_lnk, List.mem_erase_of_ne hp.symm]; exact h.notice
  · rw [hline, modLnk_lnk, h.distinct.mem_erase_iff] at hq
    rw [hheld, if_neg (Ne.symm hq.1)]
    exact h.waits q hq.2 hne
  · rcases hnest n with ⟨he, -⟩ | ⟨-, -, he⟩
    · rw [he]; exact h.verdictPhases n
    · simp [he, returnIdle_eq]
  · rw [slot_admitProducer]
    split
    · simp
    · exact h.captures k
  · rw [hheld] at hq
    split at hq
    · exact absurd rfl hq
    · rename_i hpq
      rw [hline, modLnk_lnk, h.distinct.mem_erase_iff]
      exact ⟨fun e => hpq e.symm, h.offers ho q hq⟩
  · rcases hnest n with ⟨he, -⟩ | ⟨-, -, he⟩
    · rw [he]; exact h.results ho n
    · rw [he, returnIdle_eq]; exact h.results ho n

/-- The head of the wait line is admitted (R14). -/
theorem admitHead_lineIn (h : LineIn d o s) : LineIn d o s.admitHead := by
  unfold State.admitHead
  split
  · exact h
  · rename_i p rest hl
    split
    · by_cases hp : p = .ntc
      · subst hp
        have hd := hl ▸ h.distinct
        have hw : s.ntc.outbox = .waiting := h.notice.mpr (by simp [hl])
        obtain rfl : d = false := by rw [← h.mode, hw]; rfl
        have hn : .ntc ∉ rest := (List.nodup_cons.mp hd).1
        refine (LineIn.congr (s := { s with lnk := { s.lnk with waitLine := rest }, ntc := { s.ntc with outbox := .empty } })
          ?_ (sameOffers_of_parts rfl rfl rfl rfl rfl))
        exact
          { h with
            distinct := (List.nodup_cons.mp hd).2
            mode := rfl
            notice := by simpa using hn
            waits := fun p hm hne => h.waits p (by rw [hl]; exact .tail _ hm) hne
            offers := fun ho p hq => by
              have hm := h.offers ho p hq
              rw [hl, List.mem_cons] at hm
              exact hm.resolve_left fun e => by subst e; exact hq rfl }
      · have he : s.lnk.waitLine.erase p = rest := by simp [hl]
        have := admitProducer_lineIn h hp
        simp only [State.modLnk, he] at this
        exact this
    · exact h

theorem drainWaitLine_lineIn : ∀ (fuel : Nat) {s : State}, LineIn d o s → LineIn d o (s.drainWaitLine fuel)
  | 0, _, h => h
  | fuel + 1, s, h => by
    simp only [State.drainWaitLine]
    split
    · exact drainWaitLine_lineIn fuel (admitHead_lineIn h)
    · exact h

theorem fillPlaces_lineIn (h : LineIn d o s) : LineIn d o s.fillPlaces := drainWaitLine_lineIn _ h

/-! ### Offers -/

/-- The producer has a message to offer: it holds one and does not wait already (R13). -/
def State.ready (s : State) (p : Producer) : Bool := (s.held p).isSome && !s.lnk.waitLine.contains p

/-- A producer with a message to offer offers it. -/
def State.offerReady (s : State) (p : Producer) : State := if s.ready p then s.offer p else s

theorem ready_iff {p : Producer} : s.ready p = true ↔ s.held p ≠ none ∧ p ∉ s.lnk.waitLine := by
  simp [State.ready, Option.isSome_iff_ne_none]

theorem ready_ne_ntc {p : Producer} (h : s.ready p = true) : p ≠ .ntc := by
  rintro rfl
  exact (ready_iff.mp h).1 rfl

theorem verdictReady_eq (s : State) (n : NestId) : s.verdictReady n = s.ready (.vrd n) := by
  simp only [State.verdictReady, State.ready, State.held]
  by_cases h : (s.nest n).phase = .reporting <;> simp [h]

theorem offerNest_eq (s : State) (n : NestId) : s.offerNest n = (s.offerStepResult n).offerReady (.vrd n) := by
  simp only [State.offerNest, State.offerReady, verdictReady_eq]

theorem offerRefDone_eq (s : State) (k : SlotId) : s.offerRefDone k = s.offerReady (.tbs k) := rfl

theorem offerSummary_eq (s : State) (k : SlotId) : s.offerSummary k = s.offerReady (.yld k) := rfl

/-- Every producer but NTC, in the order of R14. -/
def offerOrder : List Producer := allNests.map .vrd ++ allSlots.map .tbs ++ allSlots.map .yld

theorem mem_offerOrder {p : Producer} (hp : p ≠ .ntc) : p ∈ offerOrder := by
  cases p with
  | ntc => exact absurd rfl hp
  | vrd n => simp only [offerOrder, List.mem_append, List.mem_map]; exact .inl (.inl ⟨n, mem_allNests n, rfl⟩)
  | tbs k => simp only [offerOrder, List.mem_append, List.mem_map]; exact .inl (.inr ⟨k, mem_allSlots k, rfl⟩)
  | yld k => simp only [offerOrder, List.mem_append, List.mem_map]; exact .inr ⟨k, mem_allSlots k, rfl⟩

/-- From s to t offers are made: no message appears, and a producer that waits goes on waiting. -/
structure Offered (s t : State) : Prop where
  ready : ∀ p, t.ready p = true → s.ready p = true
  results : ∀ n, (t.nest n).stepOut ≠ none → (s.nest n).stepOut ≠ none

theorem Offered.refl (s : State) : Offered s s := ⟨fun _ h => h, fun _ h => h⟩

theorem Offered.trans {s t u : State} (h : Offered s t) (g : Offered t u) : Offered s u :=
  ⟨fun p hp => h.ready p (g.ready p hp), fun n hn => h.results n (g.results n hn)⟩

/-- An offer: the message is admitted, or its producer joins the line; either way it is offered no more. -/
theorem offer_offered {p : Producer} (hr : s.ready p = true) : Offered s (s.offer p) ∧ (s.offer p).ready p = false := by
  have hp := ready_ne_ntc hr
  unfold State.offer
  split
  · have hl := admitProducer_line s hp
    refine ⟨⟨fun q hq => ?_, fun n hn => ?_⟩, ?_⟩
    · rw [ready_iff, held_admitProducer s hp, hl.1] at hq
      rw [ready_iff]
      split at hq
      · exact absurd rfl hq.1
      · exact hq
    · rcases nest_admitProducer s p n with ⟨he, -⟩ | ⟨-, -, he⟩
      · rwa [he] at hn
      · rwa [he, returnIdle_eq] at hn
    · simp [State.ready, held_admitProducer s hp]
  · refine ⟨⟨fun q hq => ?_, fun n hn => hn⟩, by simp [State.ready]⟩
    rw [ready_iff] at hq ⊢
    exact ⟨hq.1, fun hm => hq.2 (List.mem_append_left _ hm)⟩

theorem offer_lineIn (h : LineIn d o s) {p : Producer} (hr : s.ready p = true) : LineIn d o (s.offer p) := by
  have hp := ready_ne_ntc hr
  obtain ⟨hheld, hw⟩ := ready_iff.mp hr
  unfold State.offer
  split
  · have herase : (s.modLnk fun l => { l with waitLine := l.waitLine.erase p }) = s := by
      simp only [State.modLnk, List.erase_of_not_mem hw]
    have := admitProducer_lineIn h hp
    rwa [herase] at this
  · exact
      { h with
        distinct := by simpa [List.nodup_append, hw] using ⟨h.distinct, fun a ha e => hw (e ▸ ha)⟩
        notice := by simpa [hp.symm] using h.notice
        waits := fun q hq hne => by
          rcases List.mem_append.mp hq with hq | hq
          · exact h.waits q hq hne
          · rw [List.mem_singleton.mp hq]; exact hheld
        offers := fun ho q hq => List.mem_append_left _ (h.offers ho q hq) }

theorem offerReady_offered (s : State) (p : Producer) : Offered s (s.offerReady p) ∧ (s.offerReady p).ready p = false := by
  unfold State.offerReady
  split
  · rename_i hr; exact offer_offered hr
  · rename_i hr; exact ⟨.refl s, by simpa using hr⟩

theorem offerReady_lineIn (h : LineIn d o s) (p : Producer) : LineIn d o (s.offerReady p) := by
  unfold State.offerReady
  split
  · rename_i hr; exact offer_lineIn h hr
  · exact h

theorem offerReady_spec (h : LineIn d o s) (p : Producer) :
    LineIn d o (s.offerReady p) ∧ Offered s (s.offerReady p) ∧ (s.offerReady p).ready p = false :=
  ⟨offerReady_lineIn h p, offerReady_offered s p⟩

/-- Actions under which no message appears: flags rise, a NOTICE is asked for, STEP_RESULTs leave. -/
theorem offered_of_held {s t : State} (hh : ∀ p, t.held p = s.held p) (hw : ∀ p ∈ s.lnk.waitLine, p ∈ t.lnk.waitLine)
    (hr : ∀ n, (t.nest n).stepOut ≠ none → (s.nest n).stepOut ≠ none) : Offered s t := by
  refine ⟨fun p hp => ?_, hr⟩
  rw [ready_iff, hh] at hp
  exact ready_iff.mpr ⟨hp.1, fun hm => hp.2 (hw p hm)⟩

theorem askNotice_waitLine (s : State) (p : Producer) (h : p ∈ s.lnk.waitLine) : p ∈ s.askNotice.lnk.waitLine := by
  simp only [State.askNotice]
  (repeat' split)
  · exact h
  · exact h
  · exact h
  · exact List.mem_append_left _ h

theorem setFlag_waitLine (s : State) (f : Flag) (p : Producer) (h : p ∈ s.lnk.waitLine) :
    p ∈ (s.setFlag f).lnk.waitLine := by
  simp only [State.setFlag, State.notifyRising]
  (repeat' split)
  · exact h
  · exact askNotice_waitLine _ p h
  · exact askNotice_waitLine _ p h
  · exact h
  · exact h

theorem held_congr {s t : State} (h1 : t.nests = s.nests) (h2 : t.slots = s.slots) (h3 : t.lots = s.lots)
    (p : Producer) : t.held p = s.held p := by
  cases p with
  | ntc => rfl
  | vrd n => simp only [State.held, nest_congr h1]
  | tbs k => simp only [State.held, slot_congr h2]
  | yld k => simp only [State.held, lot_congr h3]

theorem setFlag_offered (s : State) (f : Flag) : Offered s (s.setFlag f) :=
  offered_of_held (held_congr (by simp) (by simp) (by simp)) (setFlag_waitLine s f) fun n => by simp

/-- A nest's STEP_RESULT leaves its outbox. -/
theorem clearResult_offered (s : State) (n : NestId) : Offered s (s.modNest n fun x => { x with stepOut := none }) := by
  refine offered_of_held (fun p => ?_) (fun p h => h) fun m => ?_
  · cases p with
    | vrd m => by_cases h : n = m <;> simp [State.held, h]
    | ntc => rfl
    | _ => simp [State.held]
  · by_cases h : n = m <;> simp [h]

theorem clearResult_lineIn (h : LineIn d false s) (n : NestId) :
    LineIn d false (s.modNest n fun x => { x with stepOut := none }) :=
  modNest_inside h n _ (fun hm => held_vrd_ne_none.mp (h.waits _ hm (by simp))) (h.verdictPhases n)

theorem discardResult_lineIn (h : LineIn d false s) (n : NestId) : LineIn d false (s.discardResult n) :=
  modLnk_lineIn (clearResult_lineIn h n) _ rfl

theorem dropResults_lineIn (h : LineIn d false s) : LineIn d false s.dropResults := by
  simp only [State.dropResults]
  split
  · exact h
  · exact setFlag_lineIn (foldl_keeps (P := LineIn d false) (fun _ n h => discardResult_lineIn h n) _ _ h) _

theorem offerStepResult_offered (s : State) (n : NestId) :
    Offered s (s.offerStepResult n) ∧ ((s.offerStepResult n).nest n).stepOut = none := by
  have ho := clearResult_offered s n
  simp only [State.offerStepResult]
  split
  · rename_i hs; exact ⟨.refl s, hs⟩
  · split
    · exact ⟨⟨ho.ready, ho.results⟩, by simp⟩
    · exact ⟨Offered.trans (t := s.discardResult n) ⟨ho.ready, ho.results⟩ (setFlag_offered _ _), by simp [State.discardResult]⟩

theorem offerStepResult_lineIn (h : LineIn d false s) (n : NestId) : LineIn d false (s.offerStepResult n) := by
  simp only [State.offerStepResult]
  split
  · exact h
  · split
    · exact modLnk_lineIn (clearResult_lineIn h n) _ rfl
    · exact setFlag_lineIn (discardResult_lineIn h n) _

theorem offerNest_spec (h : LineIn d false s) (n : NestId) :
    LineIn d false (s.offerNest n) ∧ Offered s (s.offerNest n) ∧
      (s.offerNest n).ready (.vrd n) = false ∧ ((s.offerNest n).nest n).stepOut = none := by
  obtain ⟨g1, r1⟩ := offerStepResult_offered s n
  have h1 := offerStepResult_lineIn h n
  obtain ⟨h2, g2, r2⟩ := offerReady_spec h1 (.vrd n)
  rw [offerNest_eq]
  refine ⟨h2, g1.trans g2, r2, ?_⟩
  by_contra hn
  exact g2.results n hn r1

/-- A fold of offers: what each offer settles stays settled. -/
theorem foldl_offered {α : Type} {f : State → α → State} {done : State → α → Prop}
    (hf : ∀ {s : State}, LineIn d false s → ∀ x, LineIn d false (f s x) ∧ Offered s (f s x) ∧ done (f s x) x)
    (keep : ∀ {s t : State} x, Offered s t → done s x → done t x) :
    ∀ (l : List α) {s : State}, LineIn d false s →
      LineIn d false (l.foldl f s) ∧ Offered s (l.foldl f s) ∧ ∀ x ∈ l, done (l.foldl f s) x
  | [], s, h => ⟨h, .refl s, by simp⟩
  | x :: l, s, h => by
    obtain ⟨h1, g1, r1⟩ := hf h x
    obtain ⟨h2, g2, r2⟩ := foldl_offered hf keep l h1
    refine ⟨h2, g1.trans g2, fun y hy => ?_⟩
    rcases List.mem_cons.mp hy with rfl | hy
    · exact keep y g2 r1
    · exact r2 y hy

theorem Offered.notReady {s t : State} (h : Offered s t) {p : Producer} (hp : s.ready p = false) : t.ready p = false := by
  by_contra hn
  have := h.ready p (by simpa using hn)
  simp [hp] at this

/-- After the offers of an event nothing is left to be offered. -/
theorem makeOffers_lineIn (h : LineIn d o s) : LineIn d true s.makeOffers := by
  obtain ⟨h1, -, r1⟩ := foldl_offered (f := State.offerNest)
    (done := fun s n => s.ready (.vrd n) = false ∧ (s.nest n).stepOut = none)
    (fun h n => by obtain ⟨a, b, c, e⟩ := offerNest_spec h n; exact ⟨a, b, c, e⟩)
    (fun n g hd => ⟨g.notReady hd.1, by by_contra hn; exact g.results n hn hd.2⟩) allNests (dropResults_lineIn h.inside)
  obtain ⟨h2, g2, r2⟩ := foldl_offered (f := State.offerRefDone) (done := fun s k => s.ready (.tbs k) = false)
    (fun h k => offerReady_spec h (.tbs k)) (fun _ g hd => g.notReady hd) allSlots h1
  obtain ⟨h3, g3, r3⟩ := foldl_offered (f := State.offerSummary) (done := fun s k => s.ready (.yld k) = false)
    (fun h k => offerReady_spec h (.yld k)) (fun _ g hd => g.notReady hd) allSlots h2
  have hready : ∀ p, s.makeOffers.ready p = false := by
    intro p
    cases p with
    | ntc => rfl
    | vrd n => exact g3.notReady (g2.notReady (r1 n (mem_allNests n)).1)
    | tbs k => exact g3.notReady (r2 k (mem_allSlots k))
    | yld k => exact r3 k (mem_allSlots k)
  have hline : LineIn d false s.makeOffers := h3
  refine ⟨hline.distinct, hline.mode, hline.notice, hline.waits, hline.verdictPhases, hline.captures, fun _ p hp => ?_,
    fun _ n => ?_⟩
  · by_contra hm
    have := ready_iff.mpr ⟨hp, hm⟩
    simp [hready p] at this
  · by_contra hn
    exact g2.results n (g3.results n hn) (r1 n (mem_allNests n)).2

/-- The close of an event leaves the wait line in order and nothing to be offered (R14). -/
theorem endEvent_lineIn (h : LineIn d o s) : LineIn d true s.endEvent :=
  makeOffers_lineIn (foldl_keeps (P := LineIn d false) (fun _ k h => completeLot_lineIn h k) _ _ h.inside)

end Sys2Proof.Machine
end

section
/-! PROOFS. What a command, an event and a tick do to LNK: `Acts` says it once (queues, wait line, the link's own position), one
lemma for each owner of a message, each part of a head frame and of a tick (R1, R4, R10, R14, R16). -/

namespace Sys2Proof.Machine

variable {d o : Bool} {s t : State}

/-! ### The rest of the sequencer's ends -/

theorem moveStep_lineIn (h : LineIn d o s) (n : NestId) : LineIn d false (s.moveStep n) := by
  have ha : LineIn d false (if s.windowEndDue n then s.closeWindow n else s) := by
    split
    · rename_i hw
      refine closeWindow_lineIn h n (h.active ?_)
      simp only [State.windowEndDue, Bool.and_eq_true, beq_iff_eq] at hw
      simp [hw, Phase.active]
    · exact h.inside
  have moved : ∀ a : State, LineIn d false a → LineIn d false
      (if (a.nest n).phase == .running && (a.nest n).engine.mode == .step then
        if a.dwellEndDue n then a.endDwell n else a.modEngine n fun e => { e with k := e.k + 1 }
      else a) := by
    intro a ha
    (repeat' split)
    · exact endDwell_lineIn ha n
    · exact modEngine_lineIn ha n _
    · exact ha
  simp only [State.moveStep]
  by_cases hh : (s.nest n).engine.held = true
  · rw [if_pos hh]; exact h.inside
  · rw [if_neg hh]; exact moved _ ha

theorem moveOn_lineIn (h : LineIn d o s) (n : NestId) : LineIn d false (s.moveOn n) := by
  simp only [State.moveOn]
  (repeat' split)
  · exact h.inside
  · exact moveStep_lineIn h n
  · exact endStepFade_lineIn h.inside n
  · exact modEngine_lineIn h.inside n _
  · exact fadeEnded_lineIn h n
  · exact modEngine_lineIn h.inside n _

theorem nestFrame_lineIn (h : LineIn d o s) (n : NestId) (inp : FrameInput) : LineIn d false (s.nestFrame n inp) :=
  moveOn_lineIn (modEngine_lineIn (analyseFrame_lineIn h n inp) n _) n

theorem seatOpened_lineIn (h : LineIn d o s) (n : NestId) : LineIn d false (s.seatOpened n) := by
  have ht : LineIn d o (s.modNest n fun x => { x with seat := .settled false }) :=
    modNest_lineIn h n _ fun _ => by exact ⟨rfl, rfl, rfl⟩
  simp only [State.seatOpened]
  split
  · rename_i hp
    have hc := addContact_lineIn ht n
    exact endRun_lineIn hc n _ (hc.active (by simp_all [State.addContact, State.modRun, Phase.active]))
  · exact ht.inside

theorem seatTimedOut_lineIn (h : LineIn d o s) (n : NestId) : LineIn d false (s.seatTimedOut n) := by
  simp only [State.seatTimedOut]
  split
  · rename_i hp
    have hc := addContact_lineIn (modRun_lineIn h n fun r => { r with seatTimer := 0 }) n
    exact endRun_lineIn hc n _ (hc.active (by simp_all [State.addContact, State.modRun, Phase.active]))
  · exact h.inside

theorem tickSeat_lineIn (h : LineIn d o s) (n : NestId) : LineIn d false (s.tickSeat n) := by
  have ht : LineIn d o (s.modNest n fun x =>
      { x with seat := (s.nest n).seat.sample (debounceSamples (s.nest n).config.seatCode) }) :=
    modNest_lineIn h n _ fun _ => by exact ⟨rfl, rfl, rfl⟩
  simp only [State.tickSeat]
  (repeat' split)
  · exact (seatClosed_lineIn ht n).inside
  · exact seatOpened_lineIn ht n
  · exact ht.inside

theorem tickSeatTimer_lineIn (h : LineIn d o s) (n : NestId) : LineIn d false (s.tickSeatTimer n) := by
  simp only [State.tickSeatTimer]
  (repeat' split)
  · exact seatTimedOut_lineIn h n
  · exact modRun_lineIn h.inside n _
  · exact h.inside

theorem loseNest_lineIn (h : LineIn d o s) (n : NestId) : LineIn d false (s.loseNest n) := by
  simp only [State.loseNest]
  split
  · exact endRun_lineIn h n _ (h.active (by simp [*, Phase.active]))
  · exact endRun_lineIn h n _ (h.active (by simp [*, Phase.active]))
  · rename_i hp
    refine modNest_inside h n _ (fun hm => ?_) fun _ => .inr rfl
    exact absurd (held_vrd_ne_none.mp (h.waits _ hm (by simp))).1 (by simp [hp])
  · exact h.inside
  · exact h.inside

theorem loseHead_lineIn (h : LineIn d o s) : LineIn d false s.loseHead :=
  foldl_keeps (P := LineIn d false) (fun _ n h => loseNest_lineIn h n) _ _
    (setFlag_lineIn (modLnk_lineIn h.inside Link.lose rfl) _)

theorem tickPresence_lineIn (h : LineIn d o s) : LineIn d false s.tickPresence := by
  simp only [State.tickPresence]
  (repeat' split)
  · exact loseHead_lineIn h
  · exact modLnk_lineIn h.inside _ rfl
  · exact h.inside

theorem tick_lineIn (h : LineIn d o s) : LineIn d true s.tick := by
  have ha : LineIn d false (allNests.foldl State.tickSeat s.tickNotices.tickLabels.tickKey) :=
    foldl_keeps (P := LineIn d false) (fun _ n h => tickSeat_lineIn h n) _ _
      (tickKey_lineIn (tickLabels_lineIn (tickNotices_lineIn h))).inside
  have hb := tickPresence_lineIn (tickMarking_lineIn ha)
  exact endEvent_lineIn (foldl_keeps (P := LineIn d false) (fun _ n h => tickSeatTimer_lineIn h n) allNests _ hb)

/-! ### The queues under the parts of a tick and of a soft reset -/

theorem resolveOverdue_reports (fuel : Nat) : ∀ {t : State}, Reports s t → Reports s (State.resolveOverdue fuel t) := by
  induction fuel with
  | zero => exact fun h => h
  | succ fuel ih =>
    intro t h
    simp only [State.resolveOverdue]
    split
    · exact ih (resolveLabel_reports h _ _ _)
    · exact h

theorem tickLabels_reports (h : Reports s t) : Reports s t.tickLabels := resolveOverdue_reports _ (modMrk_reports h _)

theorem tickNotices_reports (h : Reports s t) : Reports s t.tickNotices := by
  have g (e : Nat) : Reports s (t.modNtc fun c => { c with timer := some e }) :=
    h.trans (reports_of_ntc _ (fun _ h => h) ⟨rfl, rfl, rfl⟩ fun h => h)
  simp only [State.tickNotices]
  (repeat' split)
  · exact h
  · exact periodExpiry_reports (g _)
  · exact g _

theorem keyTurnedOff_reports (h : Reports s t) : Reports s t.keyTurnedOff :=
  foldl_reports (fun h n => modNest_reports h n _) allNests
    (h.trans (reports_of_same (u := { t with prot := { t.prot with key := .settled false } }) rfl rfl rfl))

theorem tickKey_reports (h : Reports s t) : Reports s t.tickKey := by
  simp only [State.tickKey]
  (repeat' split)
  · exact h.trans (reports_of_same rfl rfl rfl)
  · exact keyTurnedOff_reports (h.trans (reports_of_same rfl rfl rfl))
  · exact h.trans (reports_of_same rfl rfl rfl)

theorem tickSeat_reports (h : Reports s t) (n : NestId) : Reports s (t.tickSeat n) := by
  simp only [State.tickSeat]
  (repeat' split)
  · exact seatClosed_reports (modNest_reports h n _) n
  · exact seatOpened_reports (modNest_reports h n _) n
  · exact modNest_reports h n _

theorem tickSeatTimer_reports (h : Reports s t) (n : NestId) : Reports s (t.tickSeatTimer n) := by
  simp only [State.tickSeatTimer]
  (repeat' split)
  · exact seatTimedOut_reports h n
  · exact modRun_reports h n _
  · exact h

theorem tickMarking_reports (h : Reports s t) : Reports s t.tickMarking := by
  have ha : Reports s (t.modMrk Marking.sampleInputs) := modMrk_reports h _
  have hb : ∀ (c : Bool) (n : NestId), Reports s (if c then (if t.mrk.req.line then
      (t.modMrk Marking.sampleInputs).requestRising n else (t.modMrk Marking.sampleInputs).requestFalling)
      else t.modMrk Marking.sampleInputs) := by
    intro c n
    (repeat' split)
    · exact requestRising_reports ha n
    · exact requestFalling_reports ha
    · exact ha
  have marked : ∀ (c : Bool) {u : State}, Reports s u → Reports s (if c then u.markedRising else u) := by
    intro c u hu
    split
    · exact markedRising_reports hu
    · exact hu
  have jam : ∀ (c : Bool) {u : State}, Reports s u → Reports s (if c then u.jamRising else u) := by
    intro c u hu
    split
    · exact jamRising_reports hu
    · exact hu
  exact jam _ (marked _ (hb _ _))

theorem loseNest_reports (h : Reports s t) (n : NestId) : Reports s (t.loseNest n) := by
  simp only [State.loseNest]
  split
  · exact endRun_reports h n _
  · exact endRun_reports h n _
  · exact modNest_reports h n _
  · exact h
  · exact h

theorem loseHead_queues (h : s.QueuesOk) : s.loseHead.QueuesOk :=
  (foldl_reports (fun h n => loseNest_reports h n) allNests (setFlag_reports (.refl (s.modLnk Link.lose)) _)).queues
    (queuesOk_congr h rfl rfl rfl)

theorem tickPresence_queues (h : s.QueuesOk) : s.tickPresence.QueuesOk := by
  simp only [State.tickPresence]
  (repeat' split)
  · exact loseHead_queues h
  · exact queuesOk_congr h rfl rfl rfl
  · exact h

theorem tick_queues (h : s.QueuesOk) : s.tick.QueuesOk := by
  have ha : Reports s (allNests.foldl State.tickSeat s.tickNotices.tickLabels.tickKey).tickMarking :=
    tickMarking_reports (foldl_reports (fun h n => tickSeat_reports h n) allNests
      (tickKey_reports (tickLabels_reports (tickNotices_reports (.refl s)))))
  exact (endEvent_reports (foldl_reports (fun h n => tickSeatTimer_reports h n) allNests (.refl _))).queues
    (tickPresence_queues (ha.queues h))

/-! ### A soft reset -/

theorem resetLabels_reports (fuel : Nat) : ∀ {t : State}, Reports s t → Reports s (State.resetLabels fuel t) := by
  induction fuel with
  | zero => exact fun h => h
  | succ fuel ih => exact fun h => ih (resolveLabel_reports h _ _ _)

theorem softResetNest_reports (h : Reports s t) (n : NestId) : Reports s (t.softResetNest n) := by
  simp only [State.softResetNest]
  split
  · exact modNest_reports (reportVerdict_reports h _ _) n _
  · exact modNest_reports h n _

theorem softResetMarking_reports (h : Reports s t) : Reports s t.softResetMarking :=
  modMrk_reports (resetLabels_reports _ h) _

theorem softResetTables_reports (h : Reports s t) : Reports s t.softResetTables := by
  unfold State.softResetTables
  exact foldl_reports (fun h k => cancelCapture_reports h k _) allSlots (h.trans (reports_of_same rfl rfl rfl))

theorem clearOccupancy_reports (h : Reports s t) : Reports s t.clearOccupancy := by
  unfold State.clearOccupancy
  exact foldl_reports (fun h k => modSlot_reports h k _) allSlots h

theorem softResetBlocks_reports (h : Reports s t) : Reports s t.softResetBlocks := by
  unfold State.softResetBlocks
  exact softResetMarking_reports (setAmb_reports (clearOccupancy_reports
    (foldl_reports (fun h n => softResetNest_reports h n) allNests (softResetTables_reports h))) _)

theorem settleNotice_queues (h : s.QueuesOk) : s.settleNotice.QueuesOk := by
  simp only [State.settleNotice]
  (repeat' split)
  · exact askNotice_queues (queuesOk_of_lnk h rfl)
  · exact queuesOk_of_lnk h rfl
  · exact h
  · exact h

/-- The state once LNK, NTC and the VERDICT outboxes are reset, before the post-reset NOTICE (R176, steps 1 and 2). -/
def State.softCleared (s : State) (scope : BitVec 4) (tag : BitVec 8) : State :=
  (((s.modLnk Link.softReset).reply .softReset scope tag .ok []).modNtc Notices.softReset).withdrawVerdicts

/-- The state before the blocks' own actions of a soft reset (R176, step 3; R16). -/
def State.softFilled (s : State) (scope : BitVec 4) (tag : BitVec 8) : State :=
  (s.softCleared scope tag).admitNotice.fillPlaces.modNtc fun x => { x with outbox := .deferred false }

theorem takeSoftReset_eq (scope : BitVec 4) (tag : BitVec 8) (s : State) :
    takeSoftReset scope tag s = (s.softFilled scope tag).softResetBlocks.endEvent.settleNotice := rfl

theorem nest_withdrawVerdicts (s : State) (n : NestId) :
    s.withdrawVerdicts.nest n = { s.nest n with verdictOut := none, stepOut := none } := by
  unfold State.withdrawVerdicts allNests
  simp only [List.foldl, nest_modNest]
  fin_cases n <;> simp

@[simp] theorem withdrawVerdicts_frame (s : State) :
    s.withdrawVerdicts.lnk = s.lnk ∧ s.withdrawVerdicts.slots = s.slots ∧ s.withdrawVerdicts.buffers = s.buffers ∧
      s.withdrawVerdicts.prot = s.prot ∧ s.withdrawVerdicts.amb = s.amb ∧ s.withdrawVerdicts.retest = s.retest ∧
      s.withdrawVerdicts.mrk = s.mrk ∧ s.withdrawVerdicts.lots = s.lots ∧ s.withdrawVerdicts.ntc = s.ntc ∧
      s.withdrawVerdicts.pending = s.pending := ⟨rfl, rfl, rfl, rfl, rfl, rfl, rfl, rfl, rfl, rfl⟩

theorem softFilled_queues (s : State) (scope : BitVec 4) (tag : BitVec 8) : (s.softFilled scope tag).QueuesOk :=
  queuesOk_of_lnk (fillPlaces_queues (by simp [State.softCleared, Link.softReset, State.admitNotice, Config.replyCap])
    (by simp [State.softCleared, Link.softReset, State.admitNotice, Config.eventCap])) rfl

theorem takeSoftReset_queues (s : State) (scope : BitVec 4) (tag : BitVec 8) : (takeSoftReset scope tag s).QueuesOk := by
  rw [takeSoftReset_eq]
  exact settleNotice_queues ((endEvent_reports (softResetBlocks_reports (.refl _))).queues (softFilled_queues s scope tag))

/-- The wait line that a soft reset leaves before its own actions: the slots and lots whose messages survive (R126, R169). -/
theorem softCleared_lineIn (h : LineIn false o s) (scope : BitVec 4) (tag : BitVec 8) :
    LineIn false false (s.softCleared scope tag) where
  distinct := by simpa [State.softCleared, Link.softReset] using h.distinct.filter _
  mode := rfl
  notice := by simp [State.softCleared, Link.softReset, Notices.softReset, Producer.survives]
  waits p hm hp := by
    simp only [State.softCleared, withdrawVerdicts_frame, modNtc_frame, reply_lnk, modLnk_lnk, Link.softReset,
      List.mem_filter] at hm
    have hh := h.waits p hm.1 hp
    cases p with
    | ntc => exact absurd rfl hp
    | vrd n => simp [Producer.survives] at hm
    | tbs k => exact hh
    | yld k => exact hh
  verdictPhases n := by simp [State.softCleared, nest_withdrawVerdicts]
  captures := h.captures
  offers h := absurd h (by decide)
  results h := absurd h (by decide)

/-- The head of the line leaves it, and nothing else. -/
theorem admitHead_waitLine (s : State) : s.admitHead.lnk.waitLine <:+ s.lnk.waitLine := by
  unfold State.admitHead
  split
  · exact List.suffix_refl _
  · rename_i p rest hl
    split
    · have hw : ((s.modLnk fun l => { l with waitLine := rest }).admitProducer p).lnk.waitLine = rest := by
        by_cases hp : p = .ntc
        · subst hp; rfl
        · rw [(admitProducer_line _ hp).1]; rfl
      rw [hw, hl]
      exact List.suffix_cons p rest
    · exact List.suffix_refl _

theorem drainWaitLine_waitLine : ∀ (fuel : Nat) (s : State), (s.drainWaitLine fuel).lnk.waitLine <:+ s.lnk.waitLine
  | 0, _ => List.suffix_refl _
  | fuel + 1, s => by
    simp only [State.drainWaitLine]
    split
    · exact (drainWaitLine_waitLine fuel _).trans (admitHead_waitLine s)
    · exact List.suffix_refl _

/-- No VERDICT stands, as from a soft reset's withdrawal on (R141). -/
def State.NoVerdicts (s : State) : Prop := ∀ n, (s.nest n).verdictOut = none

theorem admitProducer_noVerdicts (h : s.NoVerdicts) (p : Producer) : (s.admitProducer p).NoVerdicts := by
  intro n
  rcases nest_admitProducer s p n with ⟨he, -⟩ | ⟨-, -, he⟩
  · rw [he]; exact h n
  · rw [he, returnIdle_eq]

theorem drainWaitLine_noVerdicts : ∀ (fuel : Nat) {s : State}, s.NoVerdicts → (s.drainWaitLine fuel).NoVerdicts
  | 0, _, h => h
  | fuel + 1, s, h => by
    have ha : s.admitHead.NoVerdicts := by
      simp only [State.admitHead]
      (repeat' split)
      · exact h
      · rename_i rest _ _
        exact admitProducer_noVerdicts (s := s.modLnk fun l => { l with waitLine := rest }) h _
      · exact h
    simp only [State.drainWaitLine]
    split
    · exact drainWaitLine_noVerdicts fuel ha
    · exact h

theorem softFilled_lineIn (h : LineIn false o s) (scope : BitVec 4) (tag : BitVec 8) :
    LineIn true false (s.softFilled scope tag) ∧ (s.softFilled scope tag).NoVerdicts := by
  have hc := softCleared_lineIn h scope tag
  have hn : .ntc ∉ (s.softCleared scope tag).lnk.waitLine := by
    simp [State.softCleared, Link.softReset, Producer.survives]
  have hf := fillPlaces_lineIn (admitNotice_lineIn hc hn)
  have hn' : .ntc ∉ (s.softCleared scope tag).admitNotice.fillPlaces.lnk.waitLine := fun hm =>
    hn ((drainWaitLine_waitLine _ (s.softCleared scope tag).admitNotice).subset hm)
  refine ⟨?_, ?_⟩
  · exact { hf with mode := rfl, notice := by simpa [State.softFilled] using hn' }
  · exact drainWaitLine_noVerdicts _ fun n => by simp [State.softCleared, nest_withdrawVerdicts]

theorem softResetNest_lineIn (h : LineIn d o s) (hv : s.NoVerdicts) (n : NestId) :
    LineIn d o (s.softResetNest n) ∧ (s.softResetNest n).NoVerdicts := by
  have ht : LineIn d o (if (s.nest n).phase.active && (s.nest n).run.kind == .counted then
      s.reportVerdict .aborted (s.nest n).run.lotId else s) := by
    split
    · exact reportVerdict_lineIn h _ _
    · exact h
  have hn : ∀ m, ((if (s.nest n).phase.active && (s.nest n).run.kind == .counted then
      s.reportVerdict .aborted (s.nest n).run.lotId else s).nest m) = s.nest m := by
    intro m; split <;> simp
  have hx : ∀ x : Nest, x.softReset.stepOut = x.stepOut ∧ x.softReset.verdictOut = x.verdictOut := by
    intro x
    unfold Nest.softReset
    by_cases hp : x.phase = .idle <;> simp [hp, returnIdle_eq]
  refine ⟨modNest_noVerdict_lineIn ht n _ hx (by rw [hn]; exact hv n), fun m => ?_⟩
  simp only [State.softResetNest, nest_modNest, hn]
  split
  · rw [(hx _).2]; exact hv n
  · exact hv m

theorem resetLabels_lineIn : ∀ (fuel : Nat) {s : State}, LineIn d o s → LineIn d o (State.resetLabels fuel s)
  | 0, _, h => h
  | fuel + 1, _, h => resetLabels_lineIn fuel (resolveLabel_lineIn h _ _ _)

theorem softResetMarking_lineIn (h : LineIn d o s) : LineIn d o s.softResetMarking :=
  modMrk_lineIn (resetLabels_lineIn _ h) _

theorem softResetTables_lineIn (h : LineIn d o s) (hv : s.NoVerdicts) :
    LineIn d false s.softResetTables ∧ s.softResetTables.NoVerdicts := by
  have start : LineIn d false { s with buffers := Vector.replicate 2 none } :=
    h.inside.congr (sameOffers_of_parts rfl rfl rfl rfl rfl)
  unfold State.softResetTables
  refine foldl_keeps (P := fun s => LineIn d false s ∧ s.NoVerdicts)
    (fun t k ht => ⟨cancelCapture_lineIn ht.1 k _, fun n => ?_⟩) allSlots _ ⟨start, hv⟩
  rw [(cancelCapture_nest t k .softReset n).fields.2.2.2.2.2.2.2.2.1]
  exact ht.2 n

theorem clearOccupancy_lineIn (h : LineIn d o s) : LineIn d o s.clearOccupancy := by
  unfold State.clearOccupancy
  exact foldl_keeps (P := LineIn d o) (fun _ k h => modSlot_lineIn h k _ fun _ => by exact ⟨rfl, rfl⟩) allSlots _ h

theorem softResetBlocks_lineIn (h : LineIn d o s) (hv : s.NoVerdicts) : LineIn d false s.softResetBlocks := by
  have hb := (foldl_keeps (P := fun s => LineIn d false s ∧ s.NoVerdicts)
    (fun t n ht => softResetNest_lineIn ht.1 ht.2 n) allNests _ (softResetTables_lineIn h hv)).1
  unfold State.softResetBlocks
  exact softResetMarking_lineIn (setAmb_lineIn (clearOccupancy_lineIn hb) _)

theorem settleNotice_lineIn (h : LineIn true o s) : LineIn false o s.settleNotice := by
  have hm := h.mode
  have hn : .ntc ∉ s.lnk.waitLine := fun hw => by
    have := h.notice.mpr hw
    simp [this, NoticeBox.isDeferred] at hm
  have ht : LineIn false o (s.modNtc fun c => { c with outbox := .empty }) :=
    { h with mode := rfl, notice := by simpa using hn }
  simp only [State.settleNotice]
  split
  · split
    · exact askNotice_lineIn ht
    · exact ht
  · simp [*, NoticeBox.isDeferred] at hm
  · simp [*, NoticeBox.isDeferred] at hm

theorem takeSoftReset_lineIn (h : LineIn false o s) (scope : BitVec 4) (tag : BitVec 8) :
    LineIn false true (takeSoftReset scope tag s) := by
  obtain ⟨hf, hv⟩ := softFilled_lineIn h scope tag
  rw [takeSoftReset_eq]
  exact settleNotice_lineIn (endEvent_lineIn (softResetBlocks_lineIn hf hv))

end Sys2Proof.Machine
end

section
/-! PROOFS. `Acts`: what a command or a head frame's word does to the queues, the wait line and the link's own position; the tests
of R10 over it, the owners one by one, the assembler and the head frame. -/

namespace Sys2Proof.Machine

/-- What no command changes in LNK: presence, expectation, store, the aux words, the message being sent, the frames sent. -/
def Link.carrier (l : Link) : Link :=
  { l.still with replyQ := [], asm := .hunt, linkErr := 0, overrun := 0, slip := 0, tap0 := 0, tap1 := 0 }

theorem Link.carrier_of_still {l m : Link} (h : l.still = m.still) : l.carrier = m.carrier := by
  simp only [Link.carrier, h]

theorem Link.carrier_fields {l m : Link} (h : l.carrier = m.carrier) :
    l.expect = m.expect ∧ l.presence = m.presence ∧ l.elapsed = m.elapsed ∧ l.store = m.store ∧
    l.auxToLine = m.auxToLine ∧ l.auxToHead = m.auxToHead ∧ l.tx = m.tx ∧ l.headBound = m.headBound ∧
    l.lineBound = m.lineBound := by
  simp only [Link.carrier, Link.still, Link.mk.injEq] at h
  obtain ⟨h1, h2, h3, h4, h5, h6, -, -, -, -, -, -, h7, -, -, -, -, -, h8, h9⟩ := h
  exact ⟨h1, h2, h3, h4, h5, h6, h7, h8, h9⟩

/-- From s to t the queues and the wait line stay in order, and LNK keeps its position. With `o` true nothing new is left to be
offered either. -/
structure Acts (o : Bool) (s t : State) : Prop where
  queues : s.QueuesOk → t.QueuesOk
  line : LineIn false o s → LineIn false o t
  carrier : t.lnk.carrier = s.lnk.carrier
  pending : t.pending = s.pending

variable {o : Bool} {s t u : State}

theorem Acts.refl (s : State) : Acts o s s := ⟨id, id, rfl, rfl⟩

theorem Acts.trans (h : Acts o s t) (g : Acts o t u) : Acts o s u :=
  ⟨g.queues ∘ h.queues, g.line ∘ h.line, g.carrier.trans h.carrier, g.pending.trans h.pending⟩

theorem acts_of_reports (h : Reports s t) (hl : LineIn false o s → LineIn false o t) : Acts o s t :=
  ⟨h.queues, hl, Link.carrier_of_still h.still, h.pending⟩

/-- A reply, with a place free for it, after the owner's action. -/
theorem acts_reply (h : Reports s t) (hl : LineIn false o s → LineIn false o t) (hr : s.ReplyRoom) (m : Msg) :
    Acts o s (t.queueReply m) where
  queues hq := queueReply_queues (h.queues hq) m (by
    have := (Link.still_fields h.still).2.2.2.2.2.2.2.2.2.1
    rw [State.ReplyRoom, this]; exact hr)
  line hi := queueReply_lineIn (hl hi) m
  carrier := (Link.carrier_of_still h.still : _)
  pending := h.pending

/-- A reply alone. -/
theorem acts_replyOnly (hr : s.ReplyRoom) (k : Kind) (scope : BitVec 4) (tag : BitVec 8) (code : ResultCode)
    (data : List Word) : Acts o s (s.reply k scope tag code data) := acts_reply (.refl s) id hr _

/-- A block that touches neither LNK nor NTC acts, and a reply is made. -/
theorem acts_block_reply (hk : t.lnk = s.lnk ∧ t.ntc = s.ntc ∧ t.pending = s.pending)
    (hl : LineIn false o s → LineIn false o t) (hr : s.ReplyRoom) (k : Kind) (scope : BitVec 4) (tag : BitVec 8)
    (code : ResultCode) (data : List Word) : Acts o s (t.reply k scope tag code data) :=
  acts_reply (reports_of_same hk.1 hk.2.1 hk.2.2) hl hr _

theorem setFlag_acts (s : State) (f : Flag) : Acts o s (s.setFlag f) :=
  acts_of_reports (setFlag_reports (.refl s) f) fun h => setFlag_lineIn h f

/-- LNK's counters and the assembler. -/
theorem modLnk_acts (s : State) (f : Link → Link) (hq : (f s.lnk).replyQ = s.lnk.replyQ) (he : (f s.lnk).eventQ = s.lnk.eventQ)
    (hw : (f s.lnk).waitLine = s.lnk.waitLine) (hc : (f s.lnk).carrier = s.lnk.carrier) : Acts o s (s.modLnk f) :=
  ⟨fun h => queuesOk_congr h hq he hw, fun h => modLnk_lineIn h f hw, hc, rfl⟩

theorem linkError_acts (s : State) : Acts o s s.linkError :=
  (modLnk_acts s _ (by rfl) (by rfl) (by rfl) (by rfl)).trans (setFlag_acts _ _)

theorem overrun_acts (s : State) : Acts o s (s.countOverrun.setFlag .linkFault) :=
  (modLnk_acts s _ (by rfl) (by rfl) (by rfl) (by rfl)).trans (setFlag_acts _ _)

/-! ### The tests of R10 -/

/-- What the completion of a message comes to (R10): an overrun, a reply of its first failing test, or its owner's action. -/
theorem complete_cases (s : State) (k : Kind) (scope : BitVec 4) (tag : BitVec 8) (len : Nat) (ok : Bool)
    (take : State → State) :
    s.complete k scope tag len ok take = s.countOverrun.setFlag .linkFault ∨
    (s.ReplyRoom ∧ ∃ code, s.complete k scope tag len ok take = s.reply k scope tag code []) ∨
    ((s.ReplyRoom ∨ k = .softReset) ∧ s.complete k scope tag len ok take = take s) := by
  by_cases hr : s.ReplyRoom
  · right
    have h : ¬ Config.replyCap ≤ s.lnk.replyQ.length := by simpa [State.ReplyRoom] using hr
    simp only [State.complete, decide_eq_false h, Bool.false_and, Bool.false_eq_true, if_false]
    (repeat' split)
    · exact .inl ⟨hr, _, rfl⟩
    · exact .inl ⟨hr, _, rfl⟩
    · exact .inl ⟨hr, _, rfl⟩
    · exact .inr ⟨.inl hr, rfl⟩
  · have h : Config.replyCap ≤ s.lnk.replyQ.length := by simpa [State.ReplyRoom] using hr
    by_cases hs : (k == .softReset && k.lengthOk len && ok && k.scopeOk scope) = true
    · simp only [Bool.and_eq_true, beq_iff_eq] at hs
      obtain ⟨⟨⟨hk, hl⟩, hc⟩, hsc⟩ := hs
      subst hk
      exact .inr (.inr ⟨.inr rfl, by simp [State.complete, hl, hc, hsc]⟩)
    · left
      simp only [State.complete, decide_eq_true h, Bool.true_and, (Bool.not_eq_true _).mp hs]
      rfl

theorem complete_acts {k : Kind} {take : State → State} (scope : BitVec 4) (tag : BitVec 8) (len : Nat) (ok : Bool)
    (ht : s.ReplyRoom ∨ k = .softReset → Acts o s (take s)) : Acts o s (s.complete k scope tag len ok take) := by
  rcases complete_cases s k scope tag len ok take with h | ⟨hr, code, h⟩ | ⟨hr, h⟩
  · rw [h]; exact overrun_acts s
  · rw [h]; exact acts_replyOnly hr _ _ _ _ _
  · rw [h]; exact ht hr

/-! ### The owners -/

/-- The commands whose row closes its event: those that can bring messages of VRD, TBS or YLD (logs 11 and 30). -/
def closesEvent : Kind → Bool
  | .stageCommit | .start | .abort | .refCancel | .lotClose => true
  | .hello | .status | .noticeSet | .softReset | .tapSelect | .stageOpen | .stageRows | .stageDiscard | .readRows
  | .protectRange | .protectAll | .freeze | .protectQuery | .nestConfig | .nestQuery | .ambientConfig | .refBegin
  | .lotOpen | .lotQuery | .retestQuery | .markConfig => false

/-- A START that passes its checks finds its nest IDLE (R66). -/
theorem startCheck_idle {n : NestId} {r : StartRequest} (h : startCheck s n r = .ok) : (s.nest n).phase = .idle := by
  by_contra hp
  simp [startCheck, hp] at h

/-- A REF_BEGIN that passes its checks finds no REF_DONE waiting (R117). -/
theorem refBeginCheck_refDone {k : SlotId} {n : Nat} (h : refBeginCheck s k n = .ok) : (s.slot k).refDone = none := by
  by_contra hd
  have hd' : (s.slot k).refDone.isSome = true := Option.isSome_iff_ne_none.mpr hd
  simp only [refBeginCheck, hd', Bool.or_true] at h
  (repeat' split at h) <;> simp_all

/-- A lot replaced by one with the same message waiting, or none. -/
theorem setLot_lineIn {d : Bool} (h : LineIn d o s) (k : SlotId) (v : Option Lot)
    (hv : v.bind (·.summary) = (s.lot k).bind (·.summary)) : LineIn d o (s.setLot k v) := by
  refine h.congr ⟨rfl, rfl, fun n => by simp, fun k => by simp, fun j => ?_⟩
  rw [lot_setLot]
  split
  · rename_i hk; rw [← hk]; exact hv
  · rfl

variable (hr : s.ReplyRoom) (scope : BitVec 4) (tag : BitVec 8) (w w1 : Word) (body : List Word)
include hr

theorem takeStatus_acts : Acts o s (takeStatus scope tag w s) where
  queues hq := queuesOk_congr (reply_queues hq hr .status scope tag .ok (statusData s)) rfl rfl rfl
  line h := by
    have h1 := modNtc_lineIn (reply_lineIn h .status scope tag .ok (statusData s)) (fun c => c.clear (w.extractLsb' 0 8)) (by rfl)
    exact modLnk_lineIn h1 (fun l => l.clear w) (by rfl)
  carrier := rfl
  pending := rfl

theorem takeNoticeSet_acts : Acts o s (takeNoticeSet scope tag w s) := by
  simp only [takeNoticeSet]
  split
  · exact acts_replyOnly hr _ _ _ _ _
  · exact ⟨fun hq => queuesOk_congr (reply_queues hq hr .noticeSet scope tag .ok []) rfl rfl rfl,
      fun h => reply_lineIn (modNtc_lineIn h _ (by rfl)) _ _ _ _ _, rfl, rfl⟩

theorem takeTapSelect_acts : Acts o s (takeTapSelect scope tag w s) := by
  simp only [takeTapSelect]
  split
  · exact acts_replyOnly hr _ _ _ _ _
  · exact ⟨fun hq => queuesOk_congr (reply_queues hq hr .tapSelect scope tag .ok []) rfl rfl rfl,
      fun h => reply_lineIn (modLnk_lineIn h _ (by rfl)) _ _ _ _ _, rfl, rfl⟩

theorem takeStageOpen_acts : Acts o s (takeStageOpen scope tag w s) := by
  simp only [takeStageOpen]
  split
  · exact acts_block_reply (by exact ⟨rfl, rfl, rfl⟩) (fun h => by exact setBuffer_lineIn h _ _) hr _ _ _ _ _
  · exact acts_replyOnly hr _ _ _ _ _

theorem takeStageRows_acts : Acts o s (takeStageRows scope tag body s) := by
  simp only [takeStageRows]
  split
  · exact acts_block_reply (by exact ⟨rfl, rfl, rfl⟩) (fun h => by exact setBuffer_lineIn h _ _) hr _ _ _ _ _
  · exact acts_replyOnly hr _ _ _ _ _

theorem commit_acts (k : SlotId) (b : Fin 2) : Acts false s (s.commit k b scope tag) := by
  simp only [State.commit]
  split
  · exact acts_reply (swap_reports (.refl s) k) (fun h => swap_lineIn h k) hr _
  · exact acts_block_reply (by exact ⟨rfl, rfl, rfl⟩) (fun h => by exact setBuffer_lineIn h _ _) hr _ _ _ _ _

theorem takeStageCommit_acts : Acts false s (takeStageCommit scope tag s) := by
  simp only [takeStageCommit]
  (repeat' split)
  · exact acts_replyOnly hr _ _ _ _ _
  · exact acts_replyOnly hr _ _ _ _ _
  · exact acts_reply (.refl s) id hr _
  · exact commit_acts hr scope tag _ _
  · exact acts_replyOnly hr _ _ _ _ _

theorem takeStageDiscard_acts : Acts o s (takeStageDiscard scope tag s) := by
  simp only [takeStageDiscard]
  (repeat' split)
  · exact acts_replyOnly hr _ _ _ _ _
  · exact acts_replyOnly hr _ _ _ _ _
  · exact acts_block_reply (by exact ⟨rfl, rfl, rfl⟩) (fun h => by exact setBuffer_lineIn h _ _) hr _ _ _ _ _

theorem takeReadRows_acts : Acts o s (takeReadRows scope tag w s) := by
  simp only [takeReadRows]
  (repeat' split) <;> exact acts_replyOnly hr _ _ _ _ _

theorem takeProtectRange_acts : Acts o s (takeProtectRange scope tag w s) := by
  simp only [takeProtectRange]
  (repeat' split)
  · exact acts_replyOnly hr _ _ _ _ _
  · exact acts_replyOnly hr _ _ _ _ _
  · exact acts_block_reply (by exact ⟨rfl, rfl, rfl⟩) (fun h => by exact setProt_lineIn h _) hr _ _ _ _ _

theorem takeProtectAll_acts : Acts o s (takeProtectAll scope tag s) := by
  simp only [takeProtectAll]
  split
  · exact acts_replyOnly hr _ _ _ _ _
  · exact acts_block_reply (by exact ⟨rfl, rfl, rfl⟩) (fun h => by exact setProt_lineIn h _) hr _ _ _ _ _

theorem takeFreeze_acts : Acts o s (takeFreeze scope tag s) :=
  acts_block_reply (by exact ⟨rfl, rfl, rfl⟩) (fun h => by exact setProt_lineIn h _) hr _ _ _ _ _

theorem takeNestConfig_acts : Acts o s (takeNestConfig scope tag w w1 s) := by
  simp only [takeNestConfig]
  split
  · exact acts_block_reply (by exact ⟨rfl, rfl, rfl⟩) (fun h => by exact modNest_lineIn h _ _ fun _ => by exact ⟨rfl, rfl, rfl⟩) hr _ _ _ _ _
  · exact acts_replyOnly hr _ _ _ _ _

theorem takeStart_acts : Acts o s (takeStart scope tag w w1 s) := by
  simp only [takeStart]
  split
  · rename_i hc
    have hp := startCheck_idle (eq_of_beq hc)
    exact acts_reply (startRun_reports (.refl s) _ _ _)
      (fun h => startRun_lineIn h _ _ _ (h.noVerdict (by simp [hp]) (by simp [hp]))) hr _
  · exact acts_replyOnly hr _ _ _ _ _

theorem takeAbort_acts : Acts false s (takeAbort scope tag s) := by
  simp only [takeAbort]
  split
  · rename_i ha
    exact acts_reply (endRun_reports (.refl s) _ _) (fun h => endRun_lineIn h _ _ (h.active ha)) hr _
  · exact acts_replyOnly hr _ _ _ _ _

theorem takeAmbientConfig_acts : Acts o s (takeAmbientConfig scope tag w s) := by
  simp only [takeAmbientConfig]
  split
  · exact acts_replyOnly hr _ _ _ _ _
  · exact acts_block_reply (by exact ⟨rfl, rfl, rfl⟩) (fun h => by exact setAmb_lineIn h _) hr _ _ _ _ _

theorem takeRefBegin_acts : Acts o s (takeRefBegin scope tag w s) := by
  simp only [takeRefBegin]
  split
  · rename_i hc
    have hd := refBeginCheck_refDone (eq_of_beq hc)
    exact acts_block_reply (by exact ⟨rfl, rfl, rfl⟩) (fun h => by exact h.congr (modSlot_sameOffers _ _ rfl (.inl hd))) hr _ _ _ _ _
  · exact acts_replyOnly hr _ _ _ _ _

theorem takeRefCancel_acts : Acts false s (takeRefCancel scope tag s) := by
  simp only [takeRefCancel]
  split
  · exact acts_replyOnly hr _ _ _ _ _
  · exact acts_reply (cancelCapture_reports (.refl s) _ _) (fun h => cancelCapture_lineIn h _ _) hr _

theorem takeLotOpen_acts : Acts o s (takeLotOpen scope tag w s) := by
  simp only [takeLotOpen]
  split
  · rename_i hc
    have hn : s.lot (slotOf scope) = none := by
      by_contra hl
      have := Option.isSome_iff_ne_none.mpr hl
      simp [lotOpenCheck, this] at hc
    exact acts_block_reply (by exact ⟨rfl, rfl, rfl⟩) (fun h => by exact setLot_lineIn h _ _ (by simp [hn, Lot.opened])) hr _ _ _ _ _
  · exact acts_replyOnly hr _ _ _ _ _

theorem takeLotClose_acts : Acts o s (takeLotClose scope tag s) := by
  simp only [takeLotClose]
  (repeat' split)
  · exact acts_replyOnly hr _ _ _ _ _
  · exact acts_replyOnly hr _ _ _ _ _
  · rename_i l hl _
    exact acts_block_reply (by exact ⟨rfl, rfl, rfl⟩) (fun h => by exact setLot_lineIn h _ _ (by simp [hl])) hr _ _ _ _ _

theorem takeLotQuery_acts : Acts o s (takeLotQuery scope tag s) := by
  simp only [takeLotQuery]
  split <;> exact acts_replyOnly hr _ _ _ _ _

theorem takeMarkConfig_acts : Acts o s (takeMarkConfig scope tag w s) := by
  simp only [takeMarkConfig]
  split
  · exact acts_block_reply (by exact ⟨rfl, rfl, rfl⟩) (fun h => by exact modMrk_lineIn h _) hr _ _ _ _ _
  · exact acts_replyOnly hr _ _ _ _ _

omit hr

/-- The carrier of a soft reset's first steps is LNK's own. -/
theorem takeSoftReset_acts : Acts o s (takeSoftReset scope tag s) where
  queues _ := takeSoftReset_queues s scope tag
  line h := by
    have := takeSoftReset_lineIn h scope tag
    cases o
    · exact this.inside
    · exact this
  carrier := by
    have hf : (s.softFilled scope tag).lnk.carrier = s.lnk.carrier :=
      (Link.carrier_of_still (fillPlaces_reports (.refl (s.softCleared scope tag).admitNotice)).still).trans rfl
    have hb : ((s.softFilled scope tag).softResetBlocks.endEvent).lnk.carrier = (s.softFilled scope tag).lnk.carrier :=
      Link.carrier_of_still (endEvent_reports (softResetBlocks_reports (.refl _))).still
    have hs : ∀ t : State, t.settleNotice.lnk.carrier = t.lnk.carrier := by
      intro t
      simp only [State.settleNotice]
      (repeat' split)
      · exact Link.carrier_of_still (askNotice_frame _).1
      · rfl
      · rfl
      · rfl
    rw [takeSoftReset_eq, hs, hb, hf]
  pending := by
    have hs : ∀ t : State, t.settleNotice.pending = t.pending := by
      intro t
      simp only [State.settleNotice]
      (repeat' split) <;> simp
    rw [takeSoftReset_eq, hs, (endEvent_reports (softResetBlocks_reports (.refl _))).pending]
    simp [State.softFilled, State.softCleared]

/-- The owner of every kind (R10). -/
theorem takeMessage_acts (k : Kind) (hr : s.ReplyRoom ∨ k = .softReset) (hc : closesEvent k = true → o = false) :
    Acts o s (takeMessage k scope tag body s) := by
  cases k with
  | softReset => exact takeSoftReset_acts scope tag
  | hello => exact acts_replyOnly (hr.resolve_right (by simp)) _ _ _ _ _
  | status => exact takeStatus_acts (hr.resolve_right (by simp)) _ _ _
  | noticeSet => exact takeNoticeSet_acts (hr.resolve_right (by simp)) _ _ _
  | tapSelect => exact takeTapSelect_acts (hr.resolve_right (by simp)) _ _ _
  | stageOpen => exact takeStageOpen_acts (hr.resolve_right (by simp)) _ _ _
  | stageRows => exact takeStageRows_acts (hr.resolve_right (by simp)) _ _ _
  | stageCommit => rw [hc rfl]; exact takeStageCommit_acts (hr.resolve_right (by simp)) _ _
  | stageDiscard => exact takeStageDiscard_acts (hr.resolve_right (by simp)) _ _
  | readRows => exact takeReadRows_acts (hr.resolve_right (by simp)) _ _ _
  | protectRange => exact takeProtectRange_acts (hr.resolve_right (by simp)) _ _ _
  | protectAll => exact takeProtectAll_acts (hr.resolve_right (by simp)) _ _
  | freeze => exact takeFreeze_acts (hr.resolve_right (by simp)) _ _
  | protectQuery => exact acts_replyOnly (hr.resolve_right (by simp)) _ _ _ _ _
  | nestConfig => exact takeNestConfig_acts (hr.resolve_right (by simp)) _ _ _ _
  | start => exact takeStart_acts (hr.resolve_right (by simp)) _ _ _ _
  | abort => rw [hc rfl]; exact takeAbort_acts (hr.resolve_right (by simp)) _ _
  | nestQuery => exact acts_replyOnly (hr.resolve_right (by simp)) _ _ _ _ _
  | ambientConfig => exact takeAmbientConfig_acts (hr.resolve_right (by simp)) _ _ _
  | refBegin => exact takeRefBegin_acts (hr.resolve_right (by simp)) _ _ _
  | refCancel => rw [hc rfl]; exact takeRefCancel_acts (hr.resolve_right (by simp)) _ _
  | lotOpen => exact takeLotOpen_acts (hr.resolve_right (by simp)) _ _ _
  | lotClose => exact takeLotClose_acts (hr.resolve_right (by simp)) _ _
  | lotQuery => exact takeLotQuery_acts (hr.resolve_right (by simp)) _ _
  | retestQuery => exact acts_replyOnly (hr.resolve_right (by simp)) _ _ _ _ _
  | markConfig => exact takeMarkConfig_acts (hr.resolve_right (by simp)) _ _ _

/-- The message of a command as R10 takes it, whatever its length and scope. -/
def State.completes (s : State) (k : Kind) (scope : BitVec 4) (tag : BitVec 8) (body : List Word) : State :=
  s.complete k scope tag body.length true (takeMessage k scope tag body)

theorem completes_acts (k : Kind) (hc : closesEvent k = true → o = false) : Acts o s (s.completes k scope tag body) :=
  complete_acts scope tag _ _ fun hr => takeMessage_acts scope tag body k hr hc

/-- The row of a command takes its message and, for the kinds that `closesEvent` names, closes its event (logs 11, 30). -/
theorem exec_of_message {i : Instr} {k : Kind} {scope : BitVec 4} {tag : BitVec 8} {body : List Word} (s : State)
    (h : i.message = some (k, scope, tag, body)) :
    exec i s = .next (if closesEvent k then (s.completes k scope tag body).endEvent else s.completes k scope tag body) := by
  cases i <;> simp only [Instr.message, Option.some.injEq, Prod.mk.injEq, reduceCtorEq] at h
  all_goals obtain ⟨rfl, rfl, rfl, rfl⟩ := h; rfl

/-! ### The assembler and the head frame -/

theorem completeUnknown_acts (s : State) (kind : BitVec 8) : Acts o s (s.completeUnknown kind scope tag) := by
  simp only [State.completeUnknown]
  split
  · exact overrun_acts s
  · rename_i h
    exact acts_reply (.refl s) id (by simpa [State.ReplyRoom] using h) _

theorem completeMessage_acts (s : State) (words : List Word) (check : Word) : Acts false s (s.completeMessage words check) := by
  simp only [State.completeMessage]
  split
  · exact complete_acts _ _ _ _ fun hr => takeMessage_acts _ _ _ _ hr fun _ => rfl
  · exact completeUnknown_acts _ _ s _

theorem assemble_acts (s : State) (w : Word) : Acts false s (s.assemble w) := by
  simp only [State.assemble]
  split
  · by_cases h0 : (w == 0#32) = true
    · rw [if_pos h0]; exact .refl s
    · rw [if_neg h0]
      by_cases hh : isHeader w = true
      · rw [if_pos hh]; exact modLnk_acts s _ (by rfl) (by rfl) (by rfl) (by rfl)
      · rw [if_neg hh]; exact linkError_acts s
  · exact modLnk_acts s _ (by rfl) (by rfl) (by rfl) (by rfl)
  · exact (modLnk_acts s _ (by rfl) (by rfl) (by rfl) (by rfl)).trans (completeMessage_acts _ _ _)

/-- What the sending of a control word keeps: the queues in order, and the wait line with what it offers (R14, R15). -/
theorem nextControl_keeps (s : State) :
    (s.QueuesOk → s.nextControl.2.QueuesOk) ∧ (LineIn false false s → LineIn false false s.nextControl.2) := by
  rcases ht : s.lnk.tx with _ | ⟨w, rest⟩
  · rcases hq : s.lnk.replyQ with _ | ⟨m, rest⟩
    · rcases he : s.lnk.eventQ with _ | ⟨m, rest⟩
      · have : s.nextControl = (0#32, s) := by simp only [State.nextControl, ht, hq, he]
        rw [this]; exact ⟨id, id⟩
      · have : s.nextControl.2 = (s.modLnk fun l => { l with eventQ := rest }.beginMessage m).fillPlaces := by
          simp only [State.nextControl, ht, hq, he]
        rw [this]
        refine ⟨fun h => fillPlaces_queues h.1 ?_, fun h => fillPlaces_lineIn (modLnk_lineIn h _ (by rfl))⟩
        have := h.2.1
        rw [he, List.length_cons] at this
        simp only [modLnk_lnk, Link.beginMessage]
        omega
    · have : s.nextControl.2 = s.modLnk fun l => { l with replyQ := rest }.beginMessage m := by
        simp only [State.nextControl, ht, hq]
      rw [this]
      refine ⟨fun h => ⟨?_, h.2⟩, fun h => modLnk_lineIn h _ (by rfl)⟩
      have := h.1
      rw [hq, List.length_cons] at this
      simp only [modLnk_lnk, Link.beginMessage]
      omega
  · have : s.nextControl.2 = s.modLnk fun l => { l with tx := rest } := by simp only [State.nextControl, ht]
    rw [this]; exact ⟨fun h => queuesOk_congr h rfl rfl rfl, fun h => modLnk_lineIn h _ (by rfl)⟩

/-- LNK after a head frame has been answered (R1 step 5, R6). -/
def Link.sent (l : Link) (f : HeadFrame) (lineAux : Word) (hb : HeadBound) (lb : LineBound) : Link :=
  { l with headBound := some hb, lineBound := some lb, auxToLine := frameAux f, auxToHead := lineAux }

theorem sendFrames_eq (s : State) (f : HeadFrame) (aux : Word) :
    s.sendFrames f aux = s.nextControl.2.modLnk fun l =>
      l.sent f aux (s.headBound f) (s.lineBound f s.nextControl.1) := rfl

theorem sendFrames_keeps (s : State) (f : HeadFrame) (aux : Word) :
    (s.QueuesOk → (s.sendFrames f aux).QueuesOk) ∧ (LineIn false false s → LineIn false false (s.sendFrames f aux)) := by
  rw [sendFrames_eq]
  exact ⟨fun h => queuesOk_congr ((nextControl_keeps s).1 h) rfl rfl rfl,
    fun h => modLnk_lineIn ((nextControl_keeps s).2 h) _ (by rfl)⟩

theorem arriveHead_keeps (s : State) (f : HeadFrame) :
    (s.QueuesOk → (s.arriveHead f).QueuesOk) ∧ (LineIn false o s → LineIn false o (s.arriveHead f)) := by
  simp only [State.arriveHead]
  split
  · exact ⟨fun h => setFlag_queues (by exact queuesOk_congr h rfl rfl rfl) _,
      fun h => setFlag_lineIn (modLnk_lineIn (modLnk_lineIn h _ (by rfl)) _ (by rfl)) _⟩
  · exact ⟨fun h => queuesOk_congr h rfl rfl rfl, fun h => modLnk_lineIn h _ (by rfl)⟩

theorem consumeLine_keeps (s : State) :
    (s.QueuesOk → s.consumeLine.QueuesOk) ∧ (LineIn false false s → LineIn false false s.consumeLine) := by
  have h := assemble_acts (s.modLnk fun l => { l with store := none }) s.lnk.consumed.control
  exact ⟨fun hq => h.queues (queuesOk_congr hq rfl rfl rfl), fun hl => h.line (modLnk_lineIn hl _ (by rfl))⟩

theorem headFrame_keeps (s : State) (f : HeadFrame) :
    (s.QueuesOk → (s.headFrame f).QueuesOk) ∧ (LineIn false o s → LineIn false true (s.headFrame f)) := by
  have hb : Reports (s.arriveHead f).consumeLine
      (allNests.foldl State.decideWindow ((s.arriveHead f).consumeLine.hearFrame (frameChannel f 8))) :=
    foldl_reports (fun h n => decideWindow_reports h n) allNests (hearFrame_reports (.refl _) _)
  have he : ∀ (t : State) (slip : Bool), Reports t
      (allNests.foldl (fun t n => t.nestFrame n (frameInput f n slip)) t).endEvent := fun t slip =>
    endEvent_reports (foldl_reports (fun h n => nestFrame_reports h n _) allNests (.refl t))
  constructor
  · intro h
    exact (he _ _).queues ((sendFrames_keeps _ f _).1 (hb.queues ((consumeLine_keeps _).1 ((arriveHead_keeps (o := o) s f).1 h))))
  · intro h
    have h1 := (consumeLine_keeps _).2 ((arriveHead_keeps s f).2 h.inside)
    have h2 : LineIn false false (allNests.foldl State.decideWindow
        ((s.arriveHead f).consumeLine.hearFrame (frameChannel f 8))) :=
      foldl_keeps (P := LineIn false false) (fun _ n h => decideWindow_lineIn h n) allNests _ (countFrame_lineIn h1 _)
    have h3 := (sendFrames_keeps _ f s.lnk.consumed.aux).2 h2
    exact endEvent_lineIn (foldl_keeps (P := LineIn false false) (fun _ n h => nestFrame_lineIn h n _) allNests _ h3)

end Sys2Proof.Machine
end

section
/-! PROOFS. Every row keeps the queues and the wait line; the state after power-on. -/

namespace Sys2Proof.Machine

/-- A whole event: the queues keep their capacities and the wait line its condition (R12–R14). -/
structure Orderly (s t : State) : Prop where
  queues : s.QueuesOk → t.QueuesOk
  line : LineIn false true s → LineIn false true t

variable {o : Bool} {s t : State}

theorem Orderly.refl (s : State) : Orderly s s := ⟨id, id⟩

theorem Orderly.ite {c : Prop} [Decidable c] {u : State} (h : Orderly s t) (g : Orderly s u) :
    Orderly s (if c then t else u) := by
  split
  · exact h
  · exact g

theorem Acts.orderly (h : Acts true s t) : Orderly s t := ⟨h.queues, h.line⟩

theorem orderly_of_reports (h : Reports s t) (hl : LineIn false true s → LineIn false true t) : Orderly s t := ⟨h.queues, hl⟩

/-- An action of a block and the close of its event. -/
theorem orderly_endEvent (h : Reports s t) (hl : LineIn false true s → LineIn false o t) : Orderly s t.endEvent :=
  ⟨(endEvent_reports h).queues, fun hs => endEvent_lineIn (hl hs)⟩

theorem Acts.orderly_endEvent (h : Acts false s t) : Orderly s t.endEvent :=
  ⟨fun hq => (endEvent_reports (.refl t)).queues (h.queues hq), fun hl => endEvent_lineIn (h.line hl.inside)⟩

/-- A command's row (R10): the message is taken and, where it can bring offers, the event closed. -/
theorem command_orderly (s : State) (k : Kind) (scope : BitVec 4) (tag : BitVec 8) (body : List Word) :
    Orderly s (if closesEvent k then (s.completes k scope tag body).endEvent else s.completes k scope tag body) := by
  split
  · exact (completes_acts scope tag body k fun _ => rfl).orderly_endEvent
  · rename_i hc
    exact (completes_acts scope tag body k fun h => absurd h hc).orderly

/-- A fresh state: nothing waits, nothing is held. -/
theorem lineIn_of_fresh (hw : s.lnk.waitLine = []) (hb : s.ntc.outbox = .empty)
    (hn : ∀ n, (s.nest n).stepOut = none ∧ (s.nest n).verdictOut = none) (hk : ∀ k, (s.slot k).refDone = none)
    (hl : ∀ k, s.lot k = none) : LineIn false true s where
  distinct := by simp [hw]
  mode := by rw [hb]; rfl
  notice := by simp [hw, hb]
  waits := by simp [hw]
  verdictPhases n h := absurd (hn n).2 h
  captures k h := absurd (hk k) h
  offers _ p := by cases p <;> simp [State.held, hn, hk, hl]
  results _ n := (hn n).1

theorem nest_keepInputs (t s : State) (n : NestId) :
    (t.keepInputs s).nest n = { t.nest n with seat := .low (s.nest n).seat.line } := by
  fin_cases n <;> simp [State.keepInputs, State.nest, allNests, Fin.isValue]

theorem nest_blank (strap : Bool) (n : NestId) : (State.blank strap).nest n = .initial false := by
  simp [State.nest, State.blank]

theorem slot_blank (strap : Bool) (k : SlotId) : (State.blank strap).slot k = .initial := by
  simp [State.slot, State.blank]

theorem lot_blank (strap : Bool) (k : SlotId) : (State.blank strap).lot k = none := by
  simp [State.lot, State.blank]

theorem blank_lineIn (strap : Bool) (s : State) : LineIn false true ((State.blank strap).keepInputs s) :=
  lineIn_of_fresh rfl rfl (fun n => by rw [nest_keepInputs, nest_blank]; exact ⟨rfl, rfl⟩)
    (fun k => by rw [slot_congr (s := State.blank strap) (by rfl), slot_blank]; rfl)
    (fun k => by rw [lot_congr (s := State.blank strap) (by rfl), lot_blank])

theorem powerOn_orderly (strap : Bool) (s : State) : Orderly s ((State.blank strap).keepInputs s).askNotice where
  queues _ := askNotice_queues ⟨by simp [State.keepInputs, State.blank, Link.initial],
    by simp [State.keepInputs, State.blank, Link.initial], fun h => absurd rfl h⟩
  line _ := askNotice_lineIn (blank_lineIn strap s)

theorem lineFrame_orderly (word0 control aux : Word) (s : State) : Orderly s (s.receiveLine word0 control aux) := by
  simp only [State.receiveLine]
  split
  · exact .refl s
  · split
    · exact (linkError_acts s).orderly
    · have hq : s.QueuesOk → (s.modLnk fun l => { l with store := some ⟨control, aux⟩ }).QueuesOk := fun h =>
        queuesOk_congr h rfl rfl rfl
      have hl : LineIn false true s → LineIn false true (s.modLnk fun l => { l with store := some ⟨control, aux⟩ }) :=
        fun h => modLnk_lineIn h _ (by rfl)
      have ha := linkError_acts (o := true) (s.modLnk fun l => { l with store := some ⟨control, aux⟩ })
      exact .ite ⟨ha.queues ∘ hq, ha.line ∘ hl⟩ ⟨hq, hl⟩

theorem headLoss_orderly (s : State) : Orderly s s.loseHead.endEvent where
  queues h := (endEvent_reports (.refl s.loseHead)).queues (loseHead_queues h)
  line h := endEvent_lineIn (loseHead_lineIn h)

/-- The rows that are no command, each one event. -/
theorem event_orderly (i : Instr) (s : State) (hi : i.message = none) : ∃ t, exec i s = .next t ∧ Orderly s t := by
  cases i with
  | hello | status | noticeSet | softReset | tapSelect | stageOpen | stageRows | stageCommit | stageDiscard | readRows
  | protectRange | protectAll | freeze | protectQuery | nestConfig | start | abort | nestQuery | ambientConfig | refBegin
  | refCancel | lotOpen | lotClose | lotQuery | retestQuery | markConfig => simp [Instr.message] at hi
  | powerOn strap => exact ⟨_, rfl, powerOn_orderly strap s⟩
  | headFrame f => exact ⟨_, rfl, (headFrame_keeps (o := true) s f).1, (headFrame_keeps s f).2⟩
  | lineFrame a b c => exact ⟨_, rfl, lineFrame_orderly a b c s⟩
  | waitLineAdmit => exact ⟨_, rfl, admitHead_queues, fun h => admitHead_lineIn h⟩
  | headLoss =>
    refine ⟨if s.lnk.presence == .present then s.loseHead.endEvent else s, ?_, .ite (headLoss_orderly s) (.refl s)⟩
    simp only [exec, execHeadLoss]; split <;> rfl
  | deferredSwap k =>
    refine ⟨if s.swapDue k then (s.releaseSlot k).endEvent else s, ?_,
      .ite (orderly_endEvent (releaseSlot_reports (.refl s) k) fun h => releaseSlot_lineIn h k) (.refl s)⟩
    simp only [exec, execDeferredSwap]; split <;> rfl
  | promotion k => exact ⟨_, rfl, orderly_endEvent (releaseSlot_reports (.refl s) k) fun h => releaseSlot_lineIn h k⟩
  | keyOn => exact ⟨_, rfl, .ite (.refl s) ⟨fun h => queuesOk_of_lnk h rfl, fun h => keyTurnedOn_lineIn h⟩⟩
  | keyOff =>
    exact ⟨_, rfl, .ite (orderly_of_reports (keyTurnedOff_reports (.refl s)) fun h => keyTurnedOff_lineIn h) (.refl s)⟩
  | seatClosed n =>
    exact ⟨_, rfl, .ite (.refl s) (orderly_of_reports (seatClosed_reports (.refl s) n) fun h => seatClosed_lineIn h n)⟩
  | seatLoss n =>
    refine ⟨if (s.nest n).seat.stable then (s.seatOpened n).endEvent else s, ?_,
      .ite (orderly_endEvent (seatOpened_reports (.refl s) n) fun h => seatOpened_lineIn h n) (.refl s)⟩
    simp only [exec, execSeatLoss]; split <;> rfl
  | seatTimeout n =>
    exact ⟨_, rfl, orderly_endEvent (seatTimedOut_reports (.refl s) n) fun h => seatTimedOut_lineIn h n⟩
  | windowStart n => exact ⟨_, rfl, orderly_of_reports (decideWindow_reports (.refl s) n) fun h => decideWindow_lineIn h n⟩
  | windowEnd n =>
    by_cases hd : s.windowEndDue n = true
    · refine ⟨(s.closeWindow n).endEvent, by simp only [exec, execWindowEnd, if_pos hd],
        orderly_endEvent (o := false) (closeWindow_reports (.refl s) n) fun h => closeWindow_lineIn h n ?_⟩
      obtain ⟨⟨⟨⟨hp, -⟩, -⟩, -⟩, -⟩ : (((_ ∧ _) ∧ _) ∧ _) ∧ _ := by
        simpa only [State.windowEndDue, Bool.and_eq_true, beq_iff_eq] using hd
      exact h.active (by rw [hp]; rfl)
    · exact ⟨s, by simp only [exec, execWindowEnd, if_neg hd], .refl s⟩
  | dwellEnd n =>
    exact ⟨_, rfl, .ite (orderly_of_reports (endDwell_reports (.refl s) n) fun h => endDwell_lineIn h n) (.refl s)⟩
  | stepFadeEnd n =>
    exact ⟨_, rfl, .ite (orderly_of_reports (endStepFade_reports (.refl s) n) fun h => endStepFade_lineIn h n) (.refl s)⟩
  | fadeEnd n => exact ⟨_, rfl, orderly_endEvent (fadeEnded_reports (.refl s) n) fun h => fadeEnded_lineIn h n⟩
  | ambientLoud => exact ⟨_, rfl, .ite (orderly_of_reports (turnLoud_reports (.refl s)) fun h => turnLoud_lineIn h) (.refl s)⟩
  | ambientQuiet => exact ⟨_, rfl, .ite (orderly_of_reports (turnQuiet_reports (.refl s)) fun h => setAmb_lineIn h _) (.refl s)⟩
  | lotComplete k =>
    refine ⟨if s.lotDue k then (s.completeLot k).endEvent else s, ?_,
      .ite (orderly_endEvent (completeLot_reports (.refl s) k) fun h => completeLot_lineIn h k) (.refl s)⟩
    simp only [exec, execLotComplete]; split <;> rfl
  | reqRising n =>
    exact ⟨_, rfl, orderly_endEvent (requestRising_reports (modMrk_reports (.refl s) _) n)
      fun h => requestRising_lineIn (modMrk_lineIn h _) n⟩
  | reqFalling =>
    exact ⟨_, rfl, orderly_of_reports (requestFalling_reports (modMrk_reports (.refl s) _))
      fun h => modMrk_lineIn (modMrk_lineIn h _) _⟩
  | markedResult =>
    exact ⟨_, rfl, orderly_endEvent (markedRising_reports (modMrk_reports (.refl s) _))
      fun h => markedRising_lineIn (modMrk_lineIn h _)⟩
  | jamResult =>
    exact ⟨_, rfl, orderly_endEvent (jamRising_reports (modMrk_reports (.refl s) _))
      fun h => jamRising_lineIn (modMrk_lineIn h _)⟩
  | issueTimeout =>
    exact ⟨_, rfl, orderly_endEvent (resolveIssued_reports (.refl s) false) fun h => resolveIssued_lineIn h false⟩
  | queueExpiry i => exact ⟨_, rfl, orderly_endEvent (expireLabel_reports (.refl s) _) fun h => expireLabel_lineIn h _⟩
  | noticePeriodExpiry => exact ⟨_, rfl, orderly_of_reports (periodExpiry_reports (.refl s)) fun h => periodExpiry_lineIn h⟩

theorem exec_orderly (i : Instr) (s : State) : ∃ t, exec i s = .next t ∧ Orderly s t := by
  cases hi : i.message with
  | none => exact event_orderly i s hi
  | some m => exact ⟨_, exec_of_message s hi, command_orderly s _ _ _ _⟩

theorem tick_orderly (s : State) : Orderly s s.tick := ⟨tick_queues, fun h => tick_lineIn h⟩

/-- Every step is orderly, a tick too. -/
theorem step_orderly {s t : State} (h : step s = .next t) : Orderly s t := by
  unfold step at h
  split at h
  · obtain rfl : s.tick = t := Host.Outcome.next.inj h
    exact tick_orderly s
  · rename_i c rest _
    obtain ⟨u, hu, ho⟩ := exec_orderly c { s with pending := rest }
    obtain rfl : u = t := Host.Outcome.next.inj (hu.symm.trans h)
    exact ⟨fun hq => ho.queues (queuesOk_of_lnk hq rfl),
      fun hl => ho.line (hl.congr (sameOffers_of_parts rfl rfl rfl rfl rfl))⟩

/-- Settles O3: every row is one orderly event, and so is the tick. -/
theorem stepKeepsQueues : Obligations.StepKeepsQueues :=
  ⟨fun _ _ hs h => (step_orderly h).queues hs,
    fun _ _ hs h => lineOk_iff.mpr ((step_orderly h).line (lineOk_iff.mp hs))⟩

end Sys2Proof.Machine
end

section
/-! PROOFS. The fields of the words sent, and the statements that need no more than their definitions: the front of the queue,
the reset state, replies, the commands of LNK, NTC and MRK, line-side frames, a NOTICE asked for. -/

namespace Sys2Proof

/-! ### Fields -/

theorem extract_flag_apart (b : Bool) (lo lo' w' : Nat) (h : lo + 1 ≤ lo' ∨ lo' + w' ≤ lo) :
    (flag b lo).extractLsb' lo' w' = 0#w' := extract_put_apart _ _ _ _ _ h

/-- Two halves in one word, read back. -/
theorem halves_hi (a b : Nat) : (halves a b).extractLsb' 16 16 = BitVec.ofNat 16 a := by
  rw [halves, extract_or, extract_put _ _ _ (by decide), extract_put_apart _ _ _ _ _ (by decide), BitVec.or_zero]

theorem halves_lo (a b : Nat) : (halves a b).extractLsb' 0 16 = BitVec.ofNat 16 b := by
  rw [halves, extract_or, extract_put_apart _ _ _ _ _ (by decide), extract_put _ _ _ (by decide), BitVec.zero_or]

/-- A field read as a number, bit by bit. -/
theorem testBit_bits (x : Word) (lo w i : Nat) : (bits x lo w).testBit i = (decide (i < w) && x.getLsbD (lo + i)) := by
  rw [bits_eq_extract, ← BitVec.getLsbD, BitVec.getLsbD_extractLsb']

/-- A field that a word carries at its own place. -/
theorem put_bits (x : Word) (lo w : Nat) : put (bits x lo w) lo w = x &&& put (2 ^ w - 1) lo w := by
  apply BitVec.eq_of_getLsbD_eq
  intro i hi
  rw [BitVec.getLsbD_and, getLsbD_put, getLsbD_put, testBit_bits, Nat.testBit_two_pow_sub_one]
  by_cases h1 : lo ≤ i <;> by_cases h2 : i < lo + w
  · have : lo + (i - lo) = i := by omega
    have h3 : i - lo < w := by omega
    simp [hi, h1, h2, h3, this]
  all_goals simp [h1, h2]

end Sys2Proof

namespace Sys2Proof.Machine

/-! ### The queue of commands, the state after power-on -/

/-- Settles O1: by the definition of a step. -/
theorem stepTakesFront : Obligations.StepTakesFront := by
  refine ⟨fun c rest s => rfl, fun s h => ?_⟩
  unfold step
  rw [h]

theorem nest_reset (n : NestId) : State.reset.nest n = .initial false := nest_blank false n

theorem slot_reset (k : SlotId) : State.reset.slot k = .initial := slot_blank false k

theorem lot_reset (k : SlotId) : State.reset.lot k = none := lot_blank false k

/-- No unit anywhere: the counting invariant holds of the state after power-on. -/
theorem reset_countsOk : CountsOk State.reset where
  lots k l h := by simp [lot_reset] at h
  summaries k l h := by simp [lot_reset] at h
  ids j k l m h := by simp [lot_reset] at h
  runs n h := by simp [nest_reset, Nest.initial, Nest.counts, Phase.active] at h
  labels r h := by simp [State.reset, State.blank] at h
  entries e h := by simp [State.reset, State.blank] at h
  entrySerials := by simp [State.reset, State.blank]
  runSerials m n _ h := by simp [nest_reset, Nest.initial, Phase.active] at h
  runEntries n _ e h := by simp [State.reset, State.blank] at h
  occupancy k := by
    have h : ∀ n, ((State.reset.nest n).phase.active && (State.reset.nest n).run.slot == k) = false := fun n => by
      rw [nest_reset]; rfl
    simp only [slot_reset, State.occupants, h]
    rfl
  verdicts n h := by simp [nest_reset, Nest.initial] at h
  capacities := by simp [State.reset, State.blank]

/-- Settles O4: nothing waits and nothing is counted after power-on. -/
theorem resetQueuesOk : Obligations.ResetQueuesOk := by
  refine ⟨⟨by decide, by decide, fun h => absurd rfl h⟩, reset_countsOk, lineOk_iff.mpr ?_⟩
  exact lineIn_of_fresh rfl rfl (fun n => by rw [nest_reset]; exact ⟨rfl, rfl⟩) (fun k => by rw [slot_reset]; rfl) lot_reset

/-! ### Replies -/

theorem resultCode_lt (c : ResultCode) : c.value < 256 := by cases c <;> decide

/-- The fields of a reply's first word (R18). -/
theorem replyWord_fields (kind : BitVec 8) (code : ResultCode) :
    (replyWord kind code 0 0).extractLsb' 24 8 = kind ∧ ((replyWord kind code 0 0).extractLsb' 16 8).toNat = code.value ∧
    (replyWord kind code 0 0).extractLsb' 0 16 = 0#16 := by
  have h0 : ∀ lo w lo' w' : Nat, (put 0 lo w).extractLsb' lo' w' = 0#w' := by
    intro lo w lo' w'
    simp [put]
  refine ⟨?_, ?_, ?_⟩
  · simp [replyWord, extract_or, extract_put, extract_put_apart, h0]
  · simp [replyWord, extract_or, extract_put, extract_put_apart, h0, Nat.mod_eq_of_lt (resultCode_lt code)]
  · simp [replyWord, extract_or, extract_put_apart, h0]

/-- Settles O8: the first word's fields; the rest is the reply's definition. -/
theorem replyForm : Obligations.ReplyForm := by
  intro s k scope tag code data
  obtain ⟨hk, hc, hd⟩ := replyWord_fields k.code code
  exact ⟨replyWord k.code code 0 0, hk, hc, hd, rfl⟩

/-! ### Commands with scope 15 -/

theorem helloData_eq (s : State) : helloData s =
    [0x0C41019C#32,
     0x01000000#32 ||| (if s.prot.key.stable then 4#32 else 0#32) ||| (if s.prot.strap then 2#32 else 0#32) |||
       (if s.ntc.softCause then 1#32 else 0#32),
     96000#32, 0x08804010#32, 0x20080000#32] := by
  cases hk : s.prot.key.stable <;> cases hs : s.prot.strap <;> cases hc : s.ntc.softCause <;>
    simp only [helloData, hk, hs, hc] <;> decide

/-- A command of allowed length and accepted scope, with a reply place free, is its owner's action, and the close of the event
where the row makes one. -/
theorem exec_taken {i : Instr} {k : Kind} {scope : BitVec 4} {tag : BitVec 8} {body : List Word} {s t : State}
    (hm : i.message = some (k, scope, tag, body)) (hr : s.ReplyRoom) (hl : k.lengthOk body.length = true)
    (hs : k.scopeOk scope = true)
    (ht : (if closesEvent k then (takeMessage k scope tag body s).endEvent else takeMessage k scope tag body s) = t) :
    exec i s = .next t := by
  rw [exec_of_message s hm, State.completes, complete_take hr hl hs, ht]

/-- Settles O10: each command is taken, and its owner's branch is the one of its operands. -/
theorem linkCommands : Obligations.LinkCommands := by
  refine ⟨fun tag s hr => ?_, fun tag w s hr => ?_, fun tag w s hr => ?_⟩
  · rw [← helloData_eq]
    exact exec_taken rfl hr rfl rfl rfl
  · have ht : exec (.noticeSet 15#4 tag w) s = .next (takeNoticeSet 15#4 tag w s) :=
      exec_taken rfl hr rfl rfl rfl
    refine ⟨fun h => ?_, fun h => ?_⟩ <;> rw [ht, takeNoticeSet, bits_eq_extract]
    · rw [h]; rfl
    · have hp : ((w.extractLsb' 0 8).toNat == 0) = false := by
        rw [beq_eq_false_iff_ne]
        exact fun e => h (BitVec.eq_of_toNat_eq e)
      simp only [hp]
      rfl
  · have ht : exec (.tapSelect 15#4 tag w) s = .next (takeTapSelect 15#4 tag w s) :=
      exec_taken rfl hr rfl rfl rfl
    refine ⟨fun h => ?_, fun h8 h0 => ?_⟩ <;> rw [ht, takeTapSelect, bits_eq_extract, bits_eq_extract]
    · rw [if_pos (by simpa only [Bool.or_eq_true, decide_eq_true_eq] using h)]
    · rw [if_neg (by simp only [Bool.or_eq_true, decide_eq_true_eq]; omega)]
      rfl

/-! ### MARK_CONFIG -/

/-- What MARK_CONFIG changes in MRK and what it keeps (R145). -/
theorem configure_fields (m : Marking) (code tMark tQueue : Nat) :
    let c := m.configure code tMark tQueue
    (c.code = code ∧ c.tMark = tMark ∧ c.tQueue = tQueue) ∧ c.records = m.records ∧ c.port = m.port ∧ c.stray = m.stray ∧
    c.req.stable = m.req.stable ∧ c.marked.stable = m.marked.stable ∧ c.jam.stable = m.jam.stable ∧
    c.nestValue = m.nestValue ∧
    (code ≠ m.code → c.req.count = 0 ∧ c.marked.count = 0 ∧ c.jam.count = 0 ∧ c.nestLo.count = 0 ∧ c.nestHi.count = 0) := by
  simp only [Marking.configure]
  split
  · rename_i h
    refine ⟨⟨rfl, rfl, rfl⟩, rfl, rfl, rfl, rfl, rfl, rfl, rfl, fun hn => absurd (eq_of_beq h) hn⟩
  · exact ⟨⟨rfl, rfl, rfl⟩, rfl, rfl, rfl, rfl, rfl, rfl, rfl, fun _ => ⟨rfl, rfl, rfl, rfl, rfl⟩⟩

/-- The ISSUED record's fields in the second word (R18). -/
def issuedField : Option Label → Word
  | some r => flag true 11 ||| put r.nest.val 9 2 ||| put r.kind.value 7 2
  | none => 0#32

/-- The second word of the MARK_CONFIG reply (R18). -/
def markWord (m : Marking) : Word :=
  put m.records.length 28 4 ||| put (m.queuedFor 0) 24 4 ||| put (m.queuedFor 1) 20 4 ||| put (m.queuedFor 2) 16 4 |||
    put (m.queuedFor 3) 12 4 ||| issuedField m.issued ||| put m.port.value 5 2 ||| flag m.req.stable 4 |||
    flag m.marked.stable 3 ||| flag m.jam.stable 2

theorem report_eq (m : Marking) : m.report =
    [put m.code 20 2 ||| put m.tMark 10 10 ||| put m.tQueue 0 10, markWord m, put m.stray 0 16] := by
  cases h : m.issued <;> simp only [Marking.report, markWord, issuedField, h]

theorem issuedField_apart (i : Option Label) (lo w : Nat) (h : 12 ≤ lo ∨ lo + w ≤ 7) :
    (issuedField i).extractLsb' lo w = 0#w := by
  cases i with
  | none => simp [issuedField]
  | some r =>
    simp only [issuedField, extract_or]
    rw [extract_flag_apart _ _ _ _ (by omega), extract_put_apart _ _ _ _ _ (by omega), extract_put_apart _ _ _ _ _ (by omega)]
    simp

/-- The ISSUED record is the first with its mark. -/
theorem issued_of_split {m : Marking} {a b : List Label} {r : Label} (hm : m.records = a ++ r :: b) (hr : r.issued = true)
    (ha : ∀ x ∈ a, x.issued = false) : m.issued = some r := by
  have : a.find? (·.issued) = none := List.find?_eq_none.mpr fun x hx => by simp [ha x hx]
  simp [Marking.issued, hm, List.find?_append, this, hr]

theorem issued_none {m : Marking} (h : ∀ r ∈ m.records, r.issued = false) : m.issued = none :=
  List.find?_eq_none.mpr fun r hr => by simp [h r hr]

/-- The fields of the second word outside those of the ISSUED record (R18). -/
theorem markWord_fields (m : Marking) :
    (markWord m).extractLsb' 28 4 = BitVec.ofNat 4 m.records.length ∧
    (markWord m).extractLsb' 24 4 = BitVec.ofNat 4 (m.queuedFor 0) ∧ (markWord m).extractLsb' 20 4 = BitVec.ofNat 4 (m.queuedFor 1) ∧
    (markWord m).extractLsb' 16 4 = BitVec.ofNat 4 (m.queuedFor 2) ∧ (markWord m).extractLsb' 12 4 = BitVec.ofNat 4 (m.queuedFor 3) ∧
    (markWord m).extractLsb' 7 5 = (issuedField m.issued).extractLsb' 7 5 ∧
    (markWord m).extractLsb' 5 2 = BitVec.ofNat 2 m.port.value ∧ (markWord m).extractLsb' 4 1 = BitVec.ofNat 1 m.req.stable.toNat ∧
    (markWord m).extractLsb' 3 1 = BitVec.ofNat 1 m.marked.stable.toNat ∧
    (markWord m).extractLsb' 2 1 = BitVec.ofNat 1 m.jam.stable.toNat ∧ (markWord m).extractLsb' 0 2 = 0#2 := by
  refine ⟨?_, ?_, ?_, ?_, ?_, ?_, ?_, ?_, ?_, ?_, ?_⟩ <;>
    simp [markWord, flag, extract_or, extract_put, extract_put_apart, issuedField_apart]

/-- One bit of a word is a field of length 1. -/
theorem getLsbD_of_field {x : Word} {i : Nat} {b : Bool} (h : x.extractLsb' i 1 = BitVec.ofNat 1 b.toNat) : x.getLsbD i = b := by
  have := congrArg (fun v : BitVec 1 => v.getLsbD 0) h
  simp only [BitVec.getLsbD_extractLsb', Nat.add_zero, BitVec.getLsbD_ofNat, Nat.lt_add_one, decide_true, Bool.true_and] at this
  rw [this]
  cases b <;> rfl

theorem markConfig_first (w : Word) :
    (put (bits w 20 2) 20 2 ||| put (bits w 10 10) 10 10 ||| put (bits w 0 10) 0 10).extractLsb' 0 22 = w.extractLsb' 0 22 := by
  apply BitVec.eq_of_getLsbD_eq
  intro i hi
  rw [put_bits, put_bits, put_bits, ← BitVec.and_or_distrib_left, ← BitVec.and_or_distrib_left, BitVec.getLsbD_extractLsb',
    BitVec.getLsbD_extractLsb', Nat.zero_add, BitVec.getLsbD_and]
  have hm : ∀ i < 22, (put (2 ^ 2 - 1) 20 2 ||| put (2 ^ 10 - 1) 10 10 ||| put (2 ^ 10 - 1) 0 10).getLsbD i = true := by decide
  rw [hm i hi, Bool.and_true]

theorem portField (p : PortAnswer) :
    BitVec.ofNat 2 p.value = match p with | .idle => 0#2 | .issue => 1#2 | .noLabel => 2#2 := by cases p <;> rfl

theorem issuedField_some (r : Label) :
    (issuedField (some r)).extractLsb' 11 1 = 1#1 ∧ (issuedField (some r)).extractLsb' 9 2 = BitVec.ofNat 2 r.nest.val ∧
    (issuedField (some r)).extractLsb' 7 2 = match r.kind with | .finalPass => 0#2 | .finalFail => 1#2 | .retest => 2#2 := by
  refine ⟨?_, ?_, ?_⟩
  · simp [issuedField, flag, extract_or, extract_put, extract_put_apart]
  · simp [issuedField, flag, extract_or, extract_put, extract_put_apart]
  · cases hk : r.kind <;> simp [issuedField, flag, extract_or, extract_put, extract_put_apart, hk, LabelKind.value]

/-- A field inside a field. -/
theorem extract_inside {x y : Word} {lo w lo' w' : Nat} (h : x.extractLsb' lo w = y.extractLsb' lo w)
    (hl : lo ≤ lo') (hw : lo' + w' ≤ lo + w) : x.extractLsb' lo' w' = y.extractLsb' lo' w' := by
  apply BitVec.eq_of_getLsbD_eq
  intro i hi
  have := congrArg (fun v : BitVec w => v.getLsbD (lo' - lo + i)) h
  have hb : lo' - lo + i < w := by omega
  have he : lo + (lo' - lo + i) = lo' + i := by omega
  simpa [hb, he, hi] using this

/-- Settles O45: MRK's new configuration, and the report of it field by field. -/
theorem markConfigEffect : Obligations.MarkConfigEffect := by
  intro tag w s hr
  have ht : exec (.markConfig 15#4 tag w) s = .next (takeMarkConfig 15#4 tag w s) := exec_taken rfl hr rfl rfl rfl
  refine ⟨fun h1 h2 h3 h4 => ?_, fun h => ?_⟩
  · let m := s.mrk.configure (bits w 20 2) (bits w 10 10) (bits w 0 10)
    obtain ⟨⟨hcode, hmark, hqueue⟩, hrec, hport, hstray, hreq, hmarked, hjam, hnest, hcount⟩ :=
      configure_fields s.mrk (bits w 20 2) (bits w 10 10) (bits w 0 10)
    have hissued : m.issued = s.mrk.issued := by simp only [Marking.issued, m, hrec]
    have hqueued : ∀ n, m.queuedFor n = s.mrk.records.countP fun r => !r.issued && r.nest == n := fun n => by
      simp only [Marking.queuedFor, m, hrec, List.countP_eq_length_filter]
    obtain ⟨f1, f2, f3, f4, f5, f6, f7, f8, f9, f10, f11⟩ := markWord_fields m
    rw [hissued] at f6
    refine ⟨m, m.report, by rw [report_eq]; rfl, ?_, hcode, hmark, hqueue, hrec, hport, hstray, hreq, hmarked, hjam, hnest,
      hcount, ?_⟩
    · rw [ht, takeMarkConfig, if_pos (by simp [h1, h2, h3, h4])]
      rfl
    · rw [report_eq, hcode, hmark, hqueue]
      refine ⟨⟨markConfig_first w, ?_⟩, ?_, ?_, ?_, ?_, ?_, ?_, ?_, ?_, ?_, ?_, ?_, f11, ?_, ?_⟩
      · simp [extract_or, extract_put_apart]
      · exact f1.trans (by rw [hrec])
      · exact f2.trans (by rw [hqueued])
      · exact f3.trans (by rw [hqueued])
      · exact f4.trans (by rw [hqueued])
      · exact f5.trans (by rw [hqueued])
      · intro hn
        refine f6.trans ?_
        rw [issued_none hn]
        rfl
      · intro a r b hsplit hri ha
        rw [issued_of_split hsplit hri ha] at f6
        obtain ⟨g1, g2, g3⟩ := issuedField_some r
        exact ⟨getLsbD_of_field (b := true) ((extract_inside f6 (by decide) (by decide)).trans g1),
          (extract_inside f6 (by decide) (by decide)).trans g2, (extract_inside f6 (by decide) (by decide)).trans g3⟩
      · exact f7.trans (by rw [hport]; exact portField s.mrk.port)
      · exact (getLsbD_of_field f8).trans hreq
      · exact (getLsbD_of_field f9).trans hmarked
      · exact (getLsbD_of_field f10).trans hjam
      · exact (extract_put _ _ _ (by decide)).trans (by rw [hstray])
      · exact extract_put_apart _ _ _ _ _ (by decide)
  · rw [ht, takeMarkConfig, if_neg]
    simp only [Bool.and_eq_true, decide_eq_true_eq]
    omega

/-! ### Line-side frames, NTC's request -/

/-- A link error changes one counter and one flag. -/
theorem linkError_still (s : State) : s.linkError.lnk.still = { s.lnk with linkErr := satInc s.lnk.linkErr }.still :=
  (setFlag_frame _ _).1

/-- A NOTICE admitted, written out (R11, R174). -/
theorem admitNotice_eq (s : State) : s.admitNotice = { s with
    lnk := { s.lnk with
      eventQ := s.lnk.eventQ ++ [⟨0x82#8, 15#4, s.lnk.seq, s.noticeEvent.body⟩], seq := s.lnk.seq + 1#8 }
    ntc := { s.ntc with outbox := .empty, owed := false } } := rfl

/-- Settles O49: the cases of R5. -/
theorem lineFrameStored : Obligations.LineFrameStored := by
  intro w c a s
  have he : exec (.lineFrame w c a) s = .next (s.receiveLine w c a) := rfl
  refine ⟨fun h => ?_, fun h hw => ⟨?_, ?_, ?_, setFlag_stands .linkFault⟩, fun h hw => ?_⟩
  · rw [he, State.receiveLine, if_pos (by simpa using h)]
  · rw [he, State.receiveLine, if_neg (by simp [h]), if_pos (by simpa [Config.syncFromLine] using hw)]
  · obtain ⟨-, -, -, hs, -⟩ := Link.still_fields (linkError_still s)
    exact hs
  · obtain ⟨-, -, -, -, -, -, -, -, -, -, -, hc, -⟩ := Link.still_fields (linkError_still s)
    exact hc
  · rw [he, State.receiveLine, if_neg (by simp [h]), if_neg (by simp [Config.syncFromLine, hw])]
    rfl

/-- The words of a NOTICE, field by field (R174, R18). -/
theorem notice_fields (s : State) : ∃ w0 w1 w2 : Word, s.noticeEvent.body = [w0, w1, w2] ∧
    w0.extractLsb' 0 8 = s.ntc.flags ∧ w0.extractLsb' 8 8 = s.ntc.bitmap ∧ w0.getLsbD 16 = s.amb.loud ∧
    w0.getLsbD 17 = s.ntc.owed ∧ w0.getLsbD 18 = (s.ntc.owed && s.ntc.softCause) ∧ w0.extractLsb' 19 13 = 0#13 ∧
    w1.extractLsb' 16 16 = BitVec.ofNat 16 s.lnk.linkErr ∧ w1.extractLsb' 0 16 = BitVec.ofNat 16 s.lnk.overrun ∧
    w2.extractLsb' 16 16 = BitVec.ofNat 16 s.lnk.slip ∧ w2.extractLsb' 0 16 = BitVec.ofNat 16 s.lnk.traceLost := by
  refine ⟨_, _, _, rfl, ?_, ?_, ?_, ?_, ?_, ?_, halves_hi _ _, halves_lo _ _, halves_hi _ _, halves_lo _ _⟩
  · simp [flag, extract_or, extract_put, extract_put_apart]
  · simp [flag, extract_or, extract_put, extract_put_apart]
  · simp
  · simp
  · simp
  · simp [flag, extract_or, extract_put_apart]

/-- Settles O52: the outbox decides, and the NOTICE is formed from the state as it stands. -/
theorem noticeRequest : Obligations.NoticeRequest := by
  intro s
  refine ⟨fun h => by rw [State.askNotice, h], fun h he hw => ?_, fun h hf => ?_⟩
  · obtain ⟨w0, w1, w2, hb, h1, h2, h3, h4, h5, h6, h7, h8, h9, h10⟩ := notice_fields s
    refine ⟨[w0, w1, w2], w0, w1, w2, rfl, rfl, h1, h2, h3, h4, h5, h6, h7, h8, h9, h10, ?_⟩
    have hp : (s.placeFree && s.lnk.waitLine.isEmpty) = true := by
      rw [hw, Bool.and_eq_true]
      exact ⟨decide_eq_true he, rfl⟩
    simp only [State.askNotice, h, hp, if_true, admitNotice_eq, hb]
  · rw [State.askNotice, h]
    have hn : (s.placeFree && s.lnk.waitLine.isEmpty) = false := by
      rcases hf with hf | hf
      · rw [State.placeFree, show decide (s.lnk.eventQ.length < Config.eventCap) = false from decide_eq_false (Nat.not_lt.mpr hf), Bool.false_and]
      · simp [List.isEmpty_eq_false_iff.mpr hf]
    simp only [hn]
    rfl

end Sys2Proof.Machine
end

section
/-! PROOFS. Header and check words (R9, R10), a message written and read back, the assembler word by word. -/

namespace Sys2Proof

/-! ### The header's fields -/

section Header
variable (scope : BitVec 4) (kind tag : BitVec 8) (len : BitVec 6)

/-- The fields of a header side by side, the parity pair empty. -/
theorem headerBare_eq : headerBare scope kind tag len =
    (((((5#4 ++ scope : BitVec 8) ++ kind : BitVec 16) ++ tag : BitVec 24) ++ len : BitVec 30) ++ 0#2 : BitVec 32) := rfl

theorem headerBare_fields :
    (headerBare scope kind tag len).extractLsb' 28 4 = 5#4 ∧ (headerBare scope kind tag len).extractLsb' 24 4 = scope ∧
    (headerBare scope kind tag len).extractLsb' 16 8 = kind ∧ (headerBare scope kind tag len).extractLsb' 8 8 = tag ∧
    (headerBare scope kind tag len).extractLsb' 2 6 = len ∧ (headerBare scope kind tag len).extractLsb' 0 2 = 0#2 := by
  rw [headerBare_eq]
  refine ⟨?_, ?_, ?_, ?_, ?_, BitVec.extractLsb'_append_eq_right⟩
  · iterate 5 rw [BitVec.extractLsb'_append_eq_of_le (by decide)]
    exact BitVec.extractLsb'_eq_self
  · iterate 4 rw [BitVec.extractLsb'_append_eq_of_le (by decide)]
    exact BitVec.extractLsb'_append_eq_right
  · iterate 3 rw [BitVec.extractLsb'_append_eq_of_le (by decide)]
    exact BitVec.extractLsb'_append_eq_right
  · iterate 2 rw [BitVec.extractLsb'_append_eq_of_le (by decide)]
    exact BitVec.extractLsb'_append_eq_right
  · rw [BitVec.extractLsb'_append_eq_of_le (by decide)]
    exact BitVec.extractLsb'_append_eq_right

/-- The parity pair stands in bits 1 and 0. -/
theorem headerWord_eq : headerWord scope kind tag len =
    headerBare scope kind tag len ||| (if parity30 (headerBare scope kind tag len) then 1#32 else 2#32) := rfl

theorem parityPair_apart (b : Bool) (lo w : Nat) (h : 2 ≤ lo) : (if b then 1#32 else 2#32).extractLsb' lo w = 0#w := by
  apply BitVec.eq_of_getLsbD_eq
  intro i hi
  have h1 : ∀ c : Word, c = 1#32 ∨ c = 2#32 → ∀ j, 2 ≤ j → c.getLsbD j = false := by
    intro c hc j hj
    by_cases hj32 : j < 32
    · have : ∀ j < 32, 2 ≤ j → (1#32).getLsbD j = false ∧ (2#32).getLsbD j = false := by decide
      rcases hc with rfl | rfl
      · exact (this j hj32 hj).1
      · exact (this j hj32 hj).2
    · exact BitVec.getLsbD_of_ge _ _ (by omega)
  rw [BitVec.getLsbD_extractLsb', h1 _ (by cases b <;> simp) _ (by omega)]
  simp

/-- The fields of a header word (R18). -/
theorem headerWord_fields :
    (headerWord scope kind tag len).extractLsb' 28 4 = 5#4 ∧ (headerWord scope kind tag len).extractLsb' 24 4 = scope ∧
    (headerWord scope kind tag len).extractLsb' 16 8 = kind ∧ (headerWord scope kind tag len).extractLsb' 8 8 = tag ∧
    (headerWord scope kind tag len).extractLsb' 2 6 = len := by
  obtain ⟨h1, h2, h3, h4, h5, -⟩ := headerBare_fields scope kind tag len
  simp only [headerWord_eq, extract_or, h1, h2, h3, h4, h5]
  refine ⟨?_, ?_, ?_, ?_, ?_⟩ <;> rw [parityPair_apart _ _ _ (by decide), BitVec.or_zero]

end Header

/-! ### Parity -/

/-- The exclusive-or over a list is the parity of the number of its true entries. -/
theorem foldl_xor_eq {α : Type} (f : α → Bool) : ∀ (l : List α) (p : Bool),
    l.foldl (fun p i => p ^^ f i) p = (p ^^ decide ((l.filter f).length % 2 = 1))
  | [], p => by simp
  | x :: l, p => by
    rw [List.foldl_cons, foldl_xor_eq f l]
    cases hx : f x
    · simp [hx]
    · rw [List.filter_cons_of_pos hx, List.length_cons]
      rcases Nat.mod_two_eq_zero_or_one (l.filter f).length with h | h <;> simp [Nat.add_mod, h]

theorem parity30_eq (x : Word) :
    parity30 x = decide (((List.range 30).filter fun i => x.getLsbD (i + 2)).length % 2 = 1) := by
  rw [parity30, foldl_xor_eq, Bool.false_xor]

/-- The exclusive-or of two readings of one list. -/
theorem foldl_xor_xor {α : Type} (f g : α → Bool) : ∀ (l : List α) (p q : Bool),
    l.foldl (fun p i => p ^^ (f i ^^ g i)) (p ^^ q) = (l.foldl (fun p i => p ^^ f i) p ^^ l.foldl (fun p i => p ^^ g i) q)
  | [], _, _ => rfl
  | x :: l, p, q => by
    have : (p ^^ q ^^ (f x ^^ g x)) = ((p ^^ f x) ^^ (q ^^ g x)) := by
      cases p <;> cases q <;> cases f x <;> cases g x <;> rfl
    rw [List.foldl_cons, this, foldl_xor_xor f g l]
    rfl

theorem parity30_xor (x y : Word) : parity30 (x ^^^ y) = (parity30 x ^^ parity30 y) := by
  simpa only [parity30, BitVec.getLsbD_xor, Bool.false_xor] using
    foldl_xor_xor (fun i => x.getLsbD (i + 2)) (fun i => y.getLsbD (i + 2)) (List.range 30) false false

/-- Equal bits 31 to 2 have equal parity. -/
theorem parity30_congr {x y : Word} (h : x.extractLsb' 2 30 = y.extractLsb' 2 30) : parity30 x = parity30 y := by
  rw [parity30_eq, parity30_eq]
  refine congrArg (fun l : List Nat => decide (l.length % 2 = 1)) (List.filter_congr fun i hi => ?_)
  have hb := congrArg (fun v : BitVec 30 => v.getLsbD i) h
  simpa only [BitVec.getLsbD_extractLsb', List.mem_range.mp hi, decide_true, Bool.true_and, Nat.add_comm 2 i] using hb

/-- The parity, EP and NEP of a header word (R9). -/
theorem headerWord_parity (scope : BitVec 4) (kind tag : BitVec 8) (len : BitVec 6) :
    let h := headerWord scope kind tag len
    h.getLsbD 0 = parity30 h ∧ h.getLsbD 1 = !h.getLsbD 0 := by
  have hp : parity30 (headerWord scope kind tag len) = parity30 (headerBare scope kind tag len) := by
    apply parity30_congr
    rw [headerWord_eq, extract_or, parityPair_apart _ _ _ (by decide), BitVec.or_zero]
  obtain ⟨-, -, -, -, -, h0⟩ := headerBare_fields scope kind tag len
  have hb : ∀ i < 2, (headerBare scope kind tag len).getLsbD i = false := by
    intro i hi
    simpa [hi] using congrArg (fun v : BitVec 2 => v.getLsbD i) h0
  simp only [hp]
  simp only [headerWord_eq, BitVec.getLsbD_or, hb 0 (by decide), hb 1 (by decide), Bool.false_or]
  cases parity30 (headerBare scope kind tag len) <;> exact ⟨rfl, rfl⟩

theorem isHeader_iff (x : Word) : isHeader x = true ↔
    x.extractLsb' 28 4 = 5#4 ∧ x.getLsbD 0 = parity30 x ∧ x.getLsbD 1 = !x.getLsbD 0 ∧ x.extractLsb' 2 6 ≠ 63#6 := by
  simp only [isHeader, headerMarker, headerLength, Bool.and_eq_true, beq_iff_eq, bne_iff_ne, and_assoc]

theorem isHeader_headerWord (scope : BitVec 4) (kind tag : BitVec 8) {len : BitVec 6} (hl : len ≠ 63#6) :
    isHeader (headerWord scope kind tag len) = true := by
  obtain ⟨hm, -, -, -, hlen⟩ := headerWord_fields scope kind tag len
  obtain ⟨h0, h1⟩ := headerWord_parity scope kind tag len
  exact (isHeader_iff _).mpr ⟨hm, h0, h1, by rwa [hlen]⟩

/-- The parity and the pair of a word with one bit. -/
theorem oneBit_parity {i : Nat} (hi : i < 32) : parity30 (1#32 <<< i) = decide (2 ≤ i) ∧
    (1#32 <<< i).getLsbD 0 = decide (i = 0) ∧ (1#32 <<< i).getLsbD 1 = decide (i = 1) := by
  interval_cases i <;> decide

/-- One bit inverted: bit 0 or bit 1 breaks the pair, any other bit the parity. -/
theorem isHeader_flip {x : Word} (h : isHeader x = true) {i : Nat} (hi : i < 32) : isHeader (x ^^^ (1#32 <<< i)) = false := by
  obtain ⟨-, h0, h1, -⟩ := (isHeader_iff x).mp h
  obtain ⟨hp, hb0, hb1⟩ := oneBit_parity hi
  rw [← Bool.not_eq_true, isHeader_iff]
  rintro ⟨-, g0, g1, -⟩
  rw [parity30_xor, BitVec.getLsbD_xor, hb0, hp, h0] at g0
  rw [BitVec.getLsbD_xor, BitVec.getLsbD_xor, hb0, hb1, h1] at g1
  by_cases hc0 : i = 0
  · subst hc0; revert g0; cases parity30 x <;> decide
  · by_cases hc1 : i = 1
    · subst hc1; revert g1; cases x.getLsbD 0 <;> decide
    · have : 2 ≤ i := by omega
      rw [decide_eq_false hc0, decide_eq_true this] at g0
      revert g0; cases parity30 x <;> decide

end Sys2Proof

namespace Sys2Proof.Machine

/-- Settles O6: the fields, the parity pair, and what one inverted bit does to them. -/
theorem headerDetectsOneBit : Obligations.HeaderDetectsOneBit :=
  ⟨fun scope kind tag len => headerWord_fields scope kind tag len,
    fun scope kind tag _ _ hl hi => ⟨isHeader_headerWord scope kind tag hl, isHeader_flip (isHeader_headerWord scope kind tag hl) hi⟩⟩

/-! ### A message written and read back -/

/-- A length that a header can carry is read back, and is not 63. -/
theorem lengthField {n : Nat} (h : n ≤ 62) : (BitVec.ofNat 6 n).toNat = n ∧ BitVec.ofNat 6 n ≠ 63#6 := by
  have : (BitVec.ofNat 6 n).toNat = n := by rw [BitVec.toNat_ofNat, Nat.mod_eq_of_lt (by omega)]
  refine ⟨this, fun e => ?_⟩
  rw [e] at this
  simp at this
  omega

/-- The message of a command names it (R10, R18). -/
theorem command_of_message {i : Instr} {k : Kind} {scope : BitVec 4} {tag : BitVec 8} {body : List Word}
    (h : i.message = some (k, scope, tag, body)) : k.command scope tag body = i := by
  cases i <;> simp only [Instr.message, Option.some.injEq, Prod.mk.injEq, reduceCtorEq] at h
  all_goals obtain ⟨rfl, rfl, rfl, rfl⟩ := h; rfl

theorem message_command {k : Kind} (scope : BitVec 4) (tag : BitVec 8) {body : List Word}
    (h : k.lengthOk body.length = true) : (k.command scope tag body).message = some (k, scope, tag, body) := by
  rcases body with _ | ⟨a, _ | ⟨b, _ | ⟨c, rest⟩⟩⟩ <;> cases k <;> simp [Kind.lengthOk] at h <;> rfl

/-- Settles O5: the header's fields, its validity and the check word let each test of the reading pass. -/
theorem messageRoundTrip : Obligations.MessageRoundTrip := by
  intro i k scope tag body _ hm hl hs
  obtain ⟨hn, h63⟩ := lengthField (lengthOk_le hl)
  obtain ⟨-, hscope, hkind, htag, hlen⟩ := headerWord_fields scope k.code tag (BitVec.ofNat 6 body.length)
  refine ⟨messageWords k.code scope tag body, by rw [Instr.wireWords, hm]; rfl, by simp [messageWords], ?_, _, rfl, rfl⟩
  have hh : headerLength (headerWord scope k.code tag (BitVec.ofNat 6 body.length)) = BitVec.ofNat 6 body.length := hlen
  simp only [messageWords, List.cons_append, parseMessage, hh, hn]
  rw [List.take_left, if_pos, show headerKind _ = _ from hkind, ofCode_code]
  · simp only [show headerScope _ = _ from hscope, show headerTag _ = _ from htag, hl, hs, Bool.and_self, if_true,
      command_of_message hm]
  · simp [isHeader_headerWord scope k.code tag h63]

/-! ### The assembler word by word (R8) -/

/-- The state with another assembler. -/
def State.assembling (s : State) (a : Assembler) : State := { s with lnk := { s.lnk with asm := a } }

theorem assemble_body {s : State} {words : List Word} {toCome : Nat} (h : s.lnk.asm = .body words toCome) (w : Word) :
    s.assemble w = s.assembling (if toCome ≤ 1 then .check (words ++ [w]) else .body (words ++ [w]) (toCome - 1)) := by
  rw [State.assemble, h]
  rfl

theorem assemble_check {s : State} {words : List Word} (h : s.lnk.asm = .check words) (w : Word) :
    s.assemble w = (s.assembling .hunt).completeMessage words w := by
  rw [State.assemble, h]
  rfl

theorem assemble_header {s : State} (h : s.lnk.asm = .hunt) {w : Word} (hw : isHeader w = true) :
    s.assemble w = s.assembling (if w.extractLsb' 2 6 = 0#6 then .check [w] else .body [w] (w.extractLsb' 2 6).toNat) := by
  have h0 : w ≠ 0#32 := fun e => absurd (e ▸ hw) (by decide)
  simp only [State.assemble, h, beq_iff_eq, if_neg h0, hw, if_true, headerLength]
  rfl

theorem assemble_noise {s : State} (h : s.lnk.asm = .hunt) {w : Word} (hw : w ≠ 0#32) (hh : isHeader w = false) :
    s.assemble w = s.linkError := by
  simp only [State.assemble, h, beq_iff_eq, if_neg hw, hh, Bool.false_eq_true, if_false]

/-- The body of a message, word by word. -/
theorem foldl_assemble_body : ∀ (rest words : List Word) (s : State), rest ≠ [] →
    rest.foldl State.assemble (s.assembling (.body words rest.length)) = s.assembling (.check (words ++ rest))
  | [], _, _, h => absurd rfl h
  | [w], words, s, _ => by
    rw [List.foldl_cons, assemble_body rfl]
    rfl
  | w :: v :: rest, words, s, _ => by
    have ih := foldl_assemble_body (v :: rest) (words ++ [w]) s (by simp)
    rw [List.append_assoc, List.singleton_append] at ih
    rw [← ih, List.foldl_cons, assemble_body rfl, if_neg (by simp)]
    rfl

/-- Header and body of a message leave the assembler at the check word. -/
theorem foldl_assemble_message {s : State} (ha : s.lnk.asm = .hunt) {k : Kind} (scope : BitVec 4) (tag : BitVec 8)
    {body : List Word} (hl : k.lengthOk body.length = true) :
    let h := headerWord scope k.code tag (BitVec.ofNat 6 body.length)
    (h :: body).foldl State.assemble s = s.assembling (.check (h :: body)) := by
  obtain ⟨hn, h63⟩ := lengthField (lengthOk_le hl)
  obtain ⟨-, -, -, -, hlen⟩ := headerWord_fields scope k.code tag (BitVec.ofNat 6 body.length)
  simp only [List.foldl_cons]
  rw [assemble_header ha (isHeader_headerWord scope k.code tag h63), hlen, hn]
  by_cases hb : body = []
  · subst hb; rfl
  · rw [if_neg]
    · exact foldl_assemble_body body _ s hb
    · intro e
      rw [e] at hn
      exact hb (List.length_eq_zero_iff.mp hn.symm)

theorem completeMessage_eq (s : State) (h : Word) (body : List Word) (c : Word) : s.completeMessage (h :: body) c =
    match Kind.ofCode (h.extractLsb' 16 8) with
    | some k => s.complete k (h.extractLsb' 24 4) (h.extractLsb' 8 8) body.length (c == checkWord (h :: body))
        (takeMessage k (h.extractLsb' 24 4) (h.extractLsb' 8 8) body)
    | none => s.completeUnknown (h.extractLsb' 16 8) (h.extractLsb' 24 4) (h.extractLsb' 8 8) := rfl

/-- Settles O7: header, body and check word bring the assembler to the tests; the row runs the same. -/
theorem assemblerTakesMessage : Obligations.AssemblerTakesMessage := by
  intro k scope tag body s ha hl t
  obtain ⟨-, hscope, hkind, htag, -⟩ := headerWord_fields scope k.code tag (BitVec.ofNat 6 body.length)
  constructor
  · have hs : s.assembling .hunt = s := by rw [State.assembling, ← ha]
    rw [messageWords, List.foldl_append, foldl_assemble_message ha scope tag hl, List.foldl_cons, List.foldl_nil,
      assemble_check rfl, completeMessage_eq, hkind, hscope, htag, ofCode_code, beq_self_eq_true]
    exact congrArg (fun u : State => u.complete k scope tag body.length true (takeMessage k scope tag body)) hs
  · rw [exec_of_message s (message_command scope tag hl)]
    split
    · exact .inr rfl
    · exact .inl rfl

/-! ### R10's tests -/

/-- An overrun: its count, LINK_FAULT, and no block changed (R10). -/
theorem overrun_frame (s : State) : let t := s.countOverrun.setFlag .linkFault
    t.lnk.replyQ = s.lnk.replyQ ∧ t.lnk.overrun = min (s.lnk.overrun + 1) 65535 ∧ t.ntc.flags.getLsbD 0 = true ∧
    t.slots = s.slots ∧ t.buffers = s.buffers ∧ t.prot = s.prot ∧ t.nests = s.nests ∧ t.amb = s.amb ∧
    t.retest = s.retest ∧ t.mrk = s.mrk ∧ t.lots = s.lots ∧ t.pending = s.pending := by
  obtain ⟨hl, h1, h2, h3, h4, h5, h6, h7, h8, h9⟩ := setFlag_frame s.countOverrun .linkFault
  obtain ⟨-, -, -, -, -, -, -, -, -, hq, -, -, ho, -⟩ := Link.still_fields hl
  exact ⟨hq, ho, setFlag_stands .linkFault, h1, h2, h3, h4, h5, h6, h7, h8, h9⟩

/-- Two words with the same three fields are one. -/
theorem eq_of_fields {x y : Word} (h1 : x.extractLsb' 24 8 = y.extractLsb' 24 8) (h2 : x.extractLsb' 16 8 = y.extractLsb' 16 8)
    (h3 : x.extractLsb' 0 16 = y.extractLsb' 0 16) : x = y := by
  have hb : ∀ {lo w : Nat}, x.extractLsb' lo w = y.extractLsb' lo w → ∀ i, lo ≤ i → i < lo + w → x.getLsbD i = y.getLsbD i := by
    intro lo w h i hl hi
    have := congrArg (fun v : BitVec w => v.getLsbD (i - lo)) h
    have hw : i - lo < w := by omega
    simpa [hw, Nat.add_sub_cancel' hl] using this
  apply BitVec.eq_of_getLsbD_eq
  intro i hi
  by_cases hi1 : 24 ≤ i
  · exact hb h1 i hi1 (by omega)
  · by_cases hi2 : 16 ≤ i
    · exact hb h2 i hi2 (by omega)
    · exact hb h3 i (by omega) (by omega)

/-- The first word of a reply without detail, its fields side by side (R18). -/
theorem replyWord_eq (kind : BitVec 8) (code : ResultCode) :
    replyWord kind code 0 0 = ((kind ++ BitVec.ofNat 8 code.value : BitVec 16) ++ 0#16 : BitVec 32) := by
  obtain ⟨hk, hc, hd⟩ := replyWord_fields kind code
  apply eq_of_fields
  · rw [hk, BitVec.extractLsb'_append_eq_of_le (by decide)]
    exact BitVec.extractLsb'_append_eq_left.symm
  · rw [BitVec.extractLsb'_append_eq_of_le (by decide)]
    refine (BitVec.eq_of_toNat_eq ?_).trans BitVec.extractLsb'_append_eq_right.symm
    rw [hc, BitVec.toNat_ofNat, Nat.mod_eq_of_lt (resultCode_lt code)]
  · rw [hd]
    exact BitVec.extractLsb'_append_eq_right.symm

/-- The table of kinds: a code is in it, or names no kind (R10, test 1). -/
theorem ofCode_none {c : BitVec 8} (h : c ∉ Kind.all.map Kind.code) : Kind.ofCode c = none := by
  refine List.find?_eq_none.mpr fun k hk he => h ?_
  exact List.mem_map.mpr ⟨k, hk, eq_of_beq he⟩

/-- The tests of R10 at the check word, in their order, with a reply place free. -/
theorem complete_check {s : State} {k : Kind} {scope : BitVec 4} {tag : BitVec 8} {len : Nat} {take : State → State}
    (hr : s.ReplyRoom) (hl : k.lengthOk len = true) : s.complete k scope tag len false take = s.reply k scope tag .check [] := by
  have h : ¬ Config.replyCap ≤ s.lnk.replyQ.length := by simpa [State.ReplyRoom] using hr
  simp [State.complete, h, hl]

theorem complete_overrun_check {s : State} {k : Kind} {scope : BitVec 4} {tag : BitVec 8} {len : Nat} {take : State → State}
    (hr : Config.replyCap ≤ s.lnk.replyQ.length) :
    s.complete k scope tag len false take = s.countOverrun.setFlag .linkFault := by
  simp [State.complete, hr]

theorem scopeOk_iff (k : Kind) (scope : BitVec 4) : k.scopeOk scope = true ↔ match k.scopes with
    | .none15 => scope = 15#4 | .slot => scope.toNat ≤ 7 | .nest => scope.toNat ≤ 3
    | .slotOrAll => scope.toNat ≤ 7 ∨ scope = 15#4 := by
  rw [Kind.scopeOk]
  have h8 : scope.toNat < 8 ↔ scope.toNat ≤ 7 := by omega
  have h4 : scope.toNat < 4 ↔ scope.toNat ≤ 3 := by omega
  cases k.scopes <;> simp [h8, h4]

/-- The sum of R10's test 3, as a number. -/
theorem checkSum_toNat (ws : List Word) :
    (checkSum ws).toNat = (ws.map fun w => (w.extractLsb' 16 16).toNat + (w.extractLsb' 0 16).toNat).sum % 65536 := by
  have h : ∀ (ws : List Word) (a : BitVec 16),
      (ws.foldl (fun a w => a + w.extractLsb' 16 16 + w.extractLsb' 0 16) a).toNat =
        (a.toNat + (ws.map fun w => (w.extractLsb' 16 16).toNat + (w.extractLsb' 0 16).toNat).sum) % 65536 := by
    intro ws
    induction ws with
    | nil => intro a; simp [Nat.mod_eq_of_lt a.isLt]
    | cons w ws ih =>
      intro a
      rw [List.foldl_cons, ih, List.map_cons, List.sum_cons, BitVec.toNat_add, BitVec.toNat_add]
      omega
  rw [checkSum, h]
  simp

/-- The message at the check word (R10): the four tests in order, and the overrun. -/
theorem checkWord_tests (h c : Word) (body : List Word) (s : State) (ha : s.lnk.asm = .check (h :: body)) :
    (s.ReplyRoom →
      (Kind.ofCode (h.extractLsb' 16 8) = none → s.assemble c = (s.assembling .hunt).queueReply
        (replyMsg (h.extractLsb' 24 4) (h.extractLsb' 8 8) (replyWord (h.extractLsb' 16 8) .unknown 0 0) [])) ∧
      (∀ k : Kind, k.code = h.extractLsb' 16 8 →
        (k.lengthOk body.length = false →
          s.assemble c = (s.assembling .hunt).reply k (h.extractLsb' 24 4) (h.extractLsb' 8 8) .length []) ∧
        (k.lengthOk body.length = true →
          (c ≠ checkWord (h :: body) →
            s.assemble c = (s.assembling .hunt).reply k (h.extractLsb' 24 4) (h.extractLsb' 8 8) .check []) ∧
          (c = checkWord (h :: body) → k.scopeOk (h.extractLsb' 24 4) = false →
            s.assemble c = (s.assembling .hunt).reply k (h.extractLsb' 24 4) (h.extractLsb' 8 8) .range [])))) ∧
    (Config.replyCap ≤ s.lnk.replyQ.length → Kind.ofCode (h.extractLsb' 16 8) = none ∨ c ≠ checkWord (h :: body) →
      s.assemble c = (s.assembling .hunt).countOverrun.setFlag .linkFault) := by
  rw [assemble_check ha, completeMessage_eq]
  constructor
  · intro hr
    have hr' : (s.assembling .hunt).ReplyRoom := hr
    refine ⟨fun hk => ?_, fun k hk => ?_⟩
    · rw [hk]
      exact if_neg (Nat.not_le.mpr hr)
    · rw [← hk, ofCode_code]
      refine ⟨fun hl => complete_length hr' hl, fun hl => ⟨fun hc => ?_, fun hc hs => ?_⟩⟩
      · rw [beq_eq_false_iff_ne.mpr hc]
        exact complete_check hr' hl
      · rw [hc, beq_self_eq_true]
        exact complete_range hr' hl hs
  · intro hf hc
    cases hk : Kind.ofCode (h.extractLsb' 16 8) with
    | none => exact if_pos hf
    | some k =>
      rw [hk] at hc
      dsimp only
      rw [beq_eq_false_iff_ne.mpr (hc.resolve_left (by simp))]
      exact complete_overrun_check hf

/-- An answer without detail and data, its fields side by side. -/
theorem answer_eq (s : State) (scope : BitVec 4) (tag kind : BitVec 8) (code : ResultCode) :
    s.queueReply (replyMsg scope tag (replyWord kind code 0 0) []) =
      { s with lnk := { s.lnk with
        replyQ := s.lnk.replyQ ++ [⟨0x81#8, scope, tag, [kind ++ BitVec.ofNat 8 code.value ++ 0#16]⟩] } } := by
  rw [replyWord_eq]
  rfl

/-- Settles O9: the outcomes of a completion, the assembler's three states, the header's test, the sum, the table of kinds. -/
theorem messageTests : Obligations.MessageTests := by
  refine ⟨?_, ?_, ?_, ?_, ?_, ?_, ?_, ?_⟩
  · intro i k scope tag body s hm hf hk
    refine ⟨s.countOverrun.setFlag .linkFault, ?_, overrun_frame s⟩
    rw [exec_of_message s hm, State.completes, complete_overrun hf hk]
    split
    · exact .inr rfl
    · exact .inl rfl
  · intro i k scope tag body s hm hr
    rw [exec_of_message s hm, State.completes]
    refine ⟨fun hl => ?_, fun hl hs => ?_⟩
    · rw [complete_length hr hl]
      split
      · exact .inr rfl
      · exact .inl rfl
    · rw [complete_range hr hl hs]
      split
      · exact .inr rfl
      · exact .inl rfl
  · intro h c body s ha hunting answer known
    have hnone : h.extractLsb' 16 8 ∉ known → Kind.ofCode (h.extractLsb' 16 8) = none := ofCode_none
    obtain ⟨hroom, hfull⟩ := checkWord_tests h c body s ha
    refine ⟨fun hr => ?_, fun hf hc => hfull hf (hc.imp_left hnone)⟩
    obtain ⟨hunknown, hkind⟩ := hroom hr
    refine ⟨fun hk => (hunknown (hnone hk)).trans (answer_eq _ _ _ _ _), fun k hk => ?_⟩
    obtain ⟨hlen, hrest⟩ := hkind k hk
    have ha : ∀ code, (s.assembling .hunt).reply k (h.extractLsb' 24 4) (h.extractLsb' 8 8) code [] =
        answer (BitVec.ofNat 8 code.value) := by
      intro code
      rw [State.reply, hk]
      exact answer_eq _ _ _ _ _
    refine ⟨fun hl => (hlen hl).trans (ha _), fun hl => ⟨fun hc => ((hrest hl).1 hc).trans (ha _), fun hc hs => ?_⟩⟩
    exact ((hrest hl).2 hc hs).trans (ha _)
  · intro w
    rw [isHeader_iff, parity30_eq]
    have hb : ∀ p : Prop, [Decidable p] → (w.getLsbD 0 = decide p ↔ (w.getLsbD 0 = true ↔ p)) := by
      intro p _
      by_cases h : p <;> simp [h]
    rw [hb]
    tauto
  · intro w s ha
    exact ⟨fun hw => by rw [hw, State.assemble, ha]; rfl, fun hw => assemble_header ha hw, fun hw hh => assemble_noise ha hw hh⟩
  · intro w words toCome s ha
    exact assemble_body ha w
  · intro ws
    refine ⟨?_, ?_⟩
    · rw [← checkSum_toNat, checkWord]
      exact congrArg BitVec.toNat BitVec.extractLsb'_append_eq_right
    · rw [checkWord]
      exact BitVec.extractLsb'_append_eq_left.trans (congrArg _ BitVec.extractLsb'_append_eq_right.symm)
  · intro k scope len
    have hs := scopeOk_iff k scope
    cases k <;> exact ⟨rfl, hs, by simp [Kind.lengthOk]⟩

end Sys2Proof.Machine
end

section
/-! PROOFS. The wait line's admissions (R14): one admission written out for each kind of producer, and their repetition. -/

namespace Sys2Proof.Machine

variable {s : State}

/-- LNK when the head of the wait line has been admitted with a message. -/
def Link.admitted (l : Link) (rest : List Producer) (e : Event) : Link :=
  { l with waitLine := rest, seq := l.seq + 1#8, eventQ := l.eventQ ++ [⟨e.kind, e.scope, l.seq, e.body⟩] }

theorem admitHead_nil (h : s.lnk.waitLine = []) : s.admitHead = s := by
  rw [State.admitHead, h]

theorem admitHead_full (h : s.placeFree = false) : s.admitHead = s := by
  simp only [State.admitHead, h]
  split <;> rfl

theorem admitHead_cons {p : Producer} {rest : List Producer} (h : s.lnk.waitLine = p :: rest) (hf : s.placeFree = true) :
    s.admitHead = (s.modLnk fun l => { l with waitLine := rest }).admitProducer p := by
  simp only [State.admitHead, h, hf, if_true]

/-- NTC at the head: the NOTICE is formed now (R174). -/
theorem admitHead_ntc {rest : List Producer} (h : s.lnk.waitLine = .ntc :: rest) (hf : s.placeFree = true) :
    s.admitHead = { s with lnk := s.lnk.admitted rest s.noticeEvent, ntc := { s.ntc with outbox := .empty, owed := false } } := by
  rw [admitHead_cons h hf]
  rfl

/-- A nest at the head: its VERDICT goes and it returns to IDLE (R141). -/
theorem admitHead_vrd {n : NestId} {rest : List Producer} {e : Event} (h : s.lnk.waitLine = .vrd n :: rest)
    (hf : s.placeFree = true) (he : (s.nest n).verdictOut = some e) :
    s.admitHead = { s with lnk := s.lnk.admitted rest e }.setNest n { s.nest n with verdictOut := none }.returnIdle := by
  have he' : ((s.modLnk fun l => { l with waitLine := rest }).nest n).verdictOut = some e := he
  rw [admitHead_cons h hf]
  simp only [State.admitProducer, he']
  rfl

/-- A slot at the head: its REF_DONE goes (R125). -/
theorem admitHead_tbs {k : SlotId} {rest : List Producer} {e : Event} (h : s.lnk.waitLine = .tbs k :: rest)
    (hf : s.placeFree = true) (he : (s.slot k).refDone = some e) :
    s.admitHead = { s with lnk := s.lnk.admitted rest e }.setSlot k { s.slot k with refDone := none } := by
  have he' : ((s.modLnk fun l => { l with waitLine := rest }).slot k).refDone = some e := he
  rw [admitHead_cons h hf]
  simp only [State.admitProducer, he']
  rfl

/-- A lot at the head: its LOT_SUMMARY goes and the record is freed (R164). -/
theorem admitHead_yld {k : SlotId} {rest : List Producer} {e : Event} (h : s.lnk.waitLine = .yld k :: rest)
    (hf : s.placeFree = true) (he : (s.lot k).bind (·.summary) = some e) :
    s.admitHead = { s with lnk := s.lnk.admitted rest e }.setLot k none := by
  have he' : ((s.modLnk fun l => { l with waitLine := rest }).lot k).bind (·.summary) = some e := he
  rw [admitHead_cons h hf]
  simp only [State.admitProducer, he']
  rfl

/-- No admission touches the line. -/
theorem admitProducer_waitLine (s : State) (p : Producer) : (s.admitProducer p).lnk.waitLine = s.lnk.waitLine := by
  by_cases hp : p = .ntc
  · subst hp; rfl
  · exact (admitProducer_line s hp).1

theorem admitHead_drop (hf : s.placeFree = true) : s.admitHead.lnk.waitLine = s.lnk.waitLine.drop 1 := by
  cases h : s.lnk.waitLine with
  | nil => rw [admitHead_nil h, h]; rfl
  | cons p rest => rw [admitHead_cons h hf, admitProducer_waitLine]; rfl

/-- The repetition stops at once where nothing can be admitted. -/
theorem fillPlaces_stop (h : s.lnk.waitLine = [] ∨ s.placeFree = false) : s.fillPlaces = s := by
  rw [State.fillPlaces]
  cases hw : s.lnk.waitLine with
  | nil => rfl
  | cons p rest =>
    have hf : s.placeFree = false := h.resolve_left (by simp [hw])
    simp [State.drainWaitLine, hf]

/-- The repetition begins with one admission where one is possible. -/
theorem fillPlaces_step (hw : s.lnk.waitLine ≠ []) (hf : s.placeFree = true) : s.fillPlaces = s.admitHead.fillPlaces := by
  rw [State.fillPlaces, State.fillPlaces, admitHead_drop hf]
  cases h : s.lnk.waitLine with
  | nil => exact absurd h hw
  | cons p rest => simp [State.drainWaitLine, hf, h]

/-- The repetition ends with no place free or nothing waiting. -/
theorem fillPlaces_done : ∀ (m : Nat) (s : State), s.lnk.waitLine.length = m →
    s.fillPlaces.lnk.waitLine = [] ∨ s.fillPlaces.placeFree = false
  | 0, s, h => by
    have hw := List.length_eq_zero_iff.mp h
    rw [fillPlaces_stop (.inl hw)]
    exact .inl hw
  | m + 1, s, h => by
    cases hf : s.placeFree with
    | false => rw [fillPlaces_stop (.inr hf)]; exact .inr hf
    | true =>
      rw [fillPlaces_step (by intro e; simp [e] at h) hf]
      exact fillPlaces_done m _ (by rw [admitHead_drop hf, List.length_drop, h]; rfl)

/-- Settles O54: an admission for each kind of producer, and the repetition. -/
theorem waitLineAdmits : Obligations.WaitLineAdmits := by
  have full : ∀ s : State, 16 ≤ s.lnk.eventQ.length → s.placeFree = false := fun s h => decide_eq_false (Nat.not_lt.mpr h)
  have free : ∀ s : State, s.lnk.eventQ.length < 16 → s.placeFree = true := fun s h => decide_eq_true h
  have row : ∀ s : State, exec .waitLineAdmit s = .next s.admitHead := fun _ => rfl
  refine ⟨fun s => ⟨fun h => ?_, fun hw hf => ?_, ?_⟩, fun s p rest hw hf => ⟨fun hp => ?_, fun n e hp he => ?_,
    fun k e hp he => ?_, fun k l e hp hl he => ?_⟩⟩
  · refine ⟨fillPlaces_stop (h.imp_right (full s)), ?_⟩
    rw [row, h.elim admitHead_nil fun h => admitHead_full (full s h)]
  · exact ⟨s.admitHead, row s, admitHead_drop (free s hf), fillPlaces_step hw (free s hf)⟩
  · exact (fillPlaces_done _ s rfl).imp_right fun h => Nat.not_lt.mp (of_decide_eq_false h)
  · subst hp
    obtain ⟨w0, w1, w2, hb, h1, h2, h3, h4, h5, h6, h7, h8, h9, h10⟩ := notice_fields s
    refine ⟨_, row s, ?_, ?_, ?_, ?_, ?_, [w0, w1, w2], w0, w1, w2, rfl, h1, h2, h3, h4, h5, h6, h7, h8, h9, h10, ?_⟩
    all_goals rw [admitHead_ntc hw (free s hf)]
    · rfl
    · exact List.length_append
    · rw [← hb]
      rfl
  · subst hp
    refine ⟨_, row s, ?_⟩
    rw [admitHead_vrd hw (free s hf) he]
    refine ⟨rfl, ?_⟩
    simp only [nest_setNest, if_true]
    exact ⟨rfl, rfl, rfl, fun m hm => by rw [if_neg (Ne.symm hm)]; rfl, rfl, rfl, rfl, rfl, rfl, rfl, rfl, rfl, rfl, rfl⟩
  · subst hp
    rw [row, admitHead_tbs hw (free s hf) he]
    rfl
  · subst hp
    rw [row, admitHead_yld hw (free s hf) (by rw [hl]; exact he)]
    rfl

end Sys2Proof.Machine
end

section
/-! PROOFS. The head frame (R1–R7, R15, R43): LNK's position through a whole frame, the transmitter, the slip, the samples sent. -/

namespace Sys2Proof.Machine

variable {s t u : State}

/-! ### Flags -/

@[simp] theorem askNotice_flags (s : State) : s.askNotice.ntc.flags = s.ntc.flags := by
  simp only [State.askNotice]
  (repeat' split) <;> rfl

@[simp] theorem notifyRising_flags (s : State) (f : Flag) : (s.notifyRising f).ntc.flags = s.ntc.flags := by
  simp only [State.notifyRising]
  (repeat' split) <;> simp

/-- Setting a flag sets its bit and no other (R170). -/
theorem setFlag_flags (s : State) (f : Flag) : (s.setFlag f).ntc.flags = s.ntc.flags ||| f.mask := by
  by_cases h : s.ntc.flags.getLsbD f.index = true
  · have hm : s.ntc.flags ||| f.mask = s.ntc.flags := by
      apply BitVec.eq_of_getLsbD_eq
      intro i hi
      have : f.mask.getLsbD i = true → i = f.index := by
        have hall : ∀ f : Flag, ∀ i < 8, f.mask.getLsbD i = true → i = f.index := by
          intro f; cases f <;> decide
        exact hall f i hi
      rw [BitVec.getLsbD_or]
      cases hb : f.mask.getLsbD i
      · simp
      · rw [this hb, h, Bool.true_or]
    rw [State.setFlag, if_pos h, hm]
  · simp only [State.setFlag, if_neg h]
    split <;> simp

/-! ### What the wait line's admissions do to the nests -/

/-- A nest's engine, analysis, run and window stay, and its phase stays or becomes IDLE. -/
def Nest.Rests (x y : Nest) : Prop :=
  y.engine = x.engine ∧ y.analysis = x.analysis ∧ y.run = x.run ∧ y.window = x.window ∧ (y.phase = x.phase ∨ y.phase = .idle)

theorem Nest.Rests.refl (x : Nest) : x.Rests x := ⟨rfl, rfl, rfl, rfl, .inl rfl⟩

theorem Nest.Rests.trans {x y z : Nest} (h : x.Rests y) (g : y.Rests z) : x.Rests z := by
  obtain ⟨h1, h2, h3, h4, h5⟩ := h
  obtain ⟨g1, g2, g3, g4, g5⟩ := g
  refine ⟨g1.trans h1, g2.trans h2, g3.trans h3, g4.trans h4, ?_⟩
  rcases g5 with g5 | g5
  · exact h5.imp g5.trans g5.trans
  · exact .inr g5

theorem admitProducer_rests (s : State) (p : Producer) (n : NestId) : (s.nest n).Rests ((s.admitProducer p).nest n) := by
  rcases nest_admitProducer s p n with ⟨h, -⟩ | ⟨-, -, h⟩
  · rw [h]; exact .refl _
  · rw [h]; exact ⟨rfl, rfl, rfl, rfl, .inr rfl⟩

theorem admitHead_rests (s : State) (n : NestId) : (s.nest n).Rests (s.admitHead.nest n) := by
  cases hf : s.placeFree with
  | false => rw [admitHead_full hf]; exact .refl _
  | true =>
    cases hw : s.lnk.waitLine with
    | nil => rw [admitHead_nil hw]; exact .refl _
    | cons p rest => rw [admitHead_cons hw hf]; exact admitProducer_rests _ p n

theorem drainWaitLine_rests (n : NestId) : ∀ (m : Nat) (s : State), (s.nest n).Rests ((s.drainWaitLine m).nest n)
  | 0, s => .refl _
  | m + 1, s => by
    simp only [State.drainWaitLine]
    split
    · exact (admitHead_rests s n).trans (drainWaitLine_rests n m _)
    · exact .refl _

/-! ### The transmitter (R15) -/

theorem nextControl_tx {w : Word} {rest : List Word} (h : s.lnk.tx = w :: rest) :
    s.nextControl = (w, { s with lnk := { s.lnk with tx := rest } }) := by
  simp only [State.nextControl, h]
  rfl

theorem nextControl_reply {m : Msg} {rest : List Msg} (h : s.lnk.tx = []) (hq : s.lnk.replyQ = m :: rest) :
    s.nextControl = (m.words.headD 0#32, { s with lnk := { s.lnk with tx := m.words.drop 1, replyQ := rest } }) := by
  simp only [State.nextControl, h, hq]
  rfl

theorem nextControl_event {m : Msg} {rest : List Msg} (h : s.lnk.tx = []) (hq : s.lnk.replyQ = []) (he : s.lnk.eventQ = m :: rest) :
    s.nextControl = (m.words.headD 0#32,
      State.fillPlaces { s with lnk := { s.lnk with tx := m.words.drop 1, eventQ := rest } }) := by
  have : s.nextControl = (m.words.headD 0#32, (s.modLnk fun l => { l with eventQ := rest }.beginMessage m).fillPlaces) := by
    simp only [State.nextControl, h, hq, he]
  exact this

theorem nextControl_idle (h : s.lnk.tx = []) (hq : s.lnk.replyQ = []) (he : s.lnk.eventQ = []) : s.nextControl = (0#32, s) := by
  simp only [State.nextControl, h, hq, he]

/-- What a head frame leaves in LNK until it is answered: all but the message being sent, the queues, the line and the
counters. -/
def Link.place (l : Link) : Link := { l.carrier with tx := [] }

theorem Link.place_fields {l m : Link} (h : l.place = m.place) :
    l.expect = m.expect ∧ l.presence = m.presence ∧ l.elapsed = m.elapsed ∧ l.store = m.store ∧
    l.auxToLine = m.auxToLine ∧ l.auxToHead = m.auxToHead := by
  simp only [Link.place, Link.carrier, Link.still, Link.mk.injEq] at h
  obtain ⟨h1, h2, h3, h4, h5, h6, -⟩ := h
  exact ⟨h1, h2, h3, h4, h5, h6⟩

/-- The transmitter changes the message being sent and the queue it takes from; a freed place brings admissions (R14). -/
theorem nextControl_frame (s : State) :
    s.nextControl.2.lnk.place = s.lnk.place ∧ s.nextControl.2.amb = s.amb ∧ s.nextControl.2.mrk = s.mrk ∧
    s.nextControl.2.retest = s.retest ∧ s.nextControl.2.prot = s.prot ∧ s.nextControl.2.buffers = s.buffers ∧
    s.nextControl.2.pending = s.pending ∧ ∀ n, (s.nest n).Rests (s.nextControl.2.nest n) := by
  cases h : s.lnk.tx with
  | cons w rest => rw [nextControl_tx h]; exact ⟨rfl, rfl, rfl, rfl, rfl, rfl, rfl, fun n => .refl _⟩
  | nil =>
    cases hq : s.lnk.replyQ with
    | cons m rest => rw [nextControl_reply h hq]; exact ⟨rfl, rfl, rfl, rfl, rfl, rfl, rfl, fun n => .refl _⟩
    | nil =>
      cases he : s.lnk.eventQ with
      | nil => rw [nextControl_idle h hq he]; exact ⟨rfl, rfl, rfl, rfl, rfl, rfl, rfl, fun n => .refl _⟩
      | cons m rest =>
        rw [nextControl_event h hq he]
        obtain ⟨hl, h1, h2, h3, h4, h5, h6⟩ :=
          fillPlaces_frame (s := { s with lnk := { s.lnk with tx := m.words.drop 1, eventQ := rest } })
        refine ⟨?_, h3, h5, h4, h2, h1, h6, fun n => drainWaitLine_rests n _ _⟩
        rw [Link.place, Link.carrier_of_still hl]
        rfl

/-! ### LNK through a head frame -/

theorem arriveHead_lnk (s : State) (f : HeadFrame) :
    (s.arriveHead f).lnk.carrier = { s.lnk with presence := .present, elapsed := 0, expect := s.lnk.nextExpect f }.carrier := by
  simp only [State.arriveHead]
  split
  · exact (Link.carrier_of_still (setFlag_frame _ _).1).trans rfl
  · rfl

theorem arriveHead_pending (s : State) (f : HeadFrame) : (s.arriveHead f).pending = s.pending := by
  simp only [State.arriveHead]
  split <;> simp

/-- The state whose frames are sent: after the control word, the monitor and the decisions at window starts (R1, R102). -/
def State.heard (s : State) (f : HeadFrame) : State :=
  allNests.foldl State.decideWindow ((s.arriveHead f).consumeLine.hearFrame (frameChannel f 8))

theorem heard_reports (s : State) (f : HeadFrame) : Reports (s.arriveHead f).consumeLine (s.heard f) :=
  foldl_reports (fun h n => decideWindow_reports h n) allNests (hearFrame_reports (.refl _) _)

theorem consumeLine_carrier (s : State) : s.consumeLine.lnk.carrier = { s.lnk with store := none }.carrier ∧
    s.consumeLine.pending = s.pending := by
  have h := assemble_acts (s.modLnk fun l => { l with store := none }) s.lnk.consumed.control
  exact ⟨h.carrier, h.pending⟩

theorem carrier_congr {l m : Link} (h : l.carrier = m.carrier) :
    { l with store := none }.carrier = { m with store := none }.carrier := by
  simp only [Link.carrier, Link.still, Link.mk.injEq] at h ⊢
  obtain ⟨h1, h2, h3, -, h5⟩ := h
  exact ⟨h1, h2, h3, trivial, h5⟩

theorem heard_frame (s : State) (f : HeadFrame) :
    (s.heard f).lnk.carrier =
      { s.lnk with presence := .present, elapsed := 0, expect := s.lnk.nextExpect f, store := none }.carrier ∧
    (s.heard f).pending = s.pending := by
  obtain ⟨h1, h2⟩ := consumeLine_carrier (s.arriveHead f)
  refine ⟨?_, (heard_reports s f).pending.trans (h2.trans (arriveHead_pending s f))⟩
  exact (Link.carrier_of_still (heard_reports s f).still).trans (h1.trans (carrier_congr (arriveHead_lnk s f)))

/-- The nests' frames and the close of the event. -/
def State.nestsMove (s : State) (f : HeadFrame) (slip : Bool) : State :=
  (allNests.foldl (fun t n => t.nestFrame n (frameInput f n slip)) s).endEvent

theorem nestsMove_reports (s : State) (f : HeadFrame) (slip : Bool) : Reports s (s.nestsMove f slip) :=
  endEvent_reports (foldl_reports (fun h n => nestFrame_reports h n _) allNests (.refl s))

theorem headFrame_eq (s : State) (f : HeadFrame) :
    s.headFrame f = ((s.heard f).sendFrames f s.lnk.consumed.aux).nestsMove f (s.lnk.slips f) := rfl

theorem consumed_aux (l : Link) : l.consumed.aux = match l.store with | some x => x.aux | none => 0#32 := by
  cases h : l.store <;> simp [Link.consumed, h]

theorem consumed_control (l : Link) : l.consumed.control = match l.store with | some x => x.control | none => 0#32 := by
  cases h : l.store <;> simp [Link.consumed, h]

/-! ### Slips and samples -/

theorem frameSyncOk_iff (f : HeadFrame) : frameSyncOk f = true ↔ f.word0.extractLsb' 8 24 = 0xC35A7E#24 := by
  rw [frameSyncOk, beq_iff_eq]
  rfl

theorem slips_iff (l : Link) (f : HeadFrame) : l.slips f = true ↔
    f.word0.extractLsb' 8 24 ≠ 0xC35A7E#24 ∨ ∃ e, l.expect = some e ∧ f.word0.extractLsb' 0 8 ≠ e := by
  rw [Link.slips, Bool.or_eq_true, Bool.not_eq_true', ← Bool.not_eq_true, frameSyncOk_iff]
  refine or_congr_right ?_
  cases l.expect <;> simp [frameCount]

theorem arriveHead_slip {f : HeadFrame} (h : s.lnk.slips f = true) : (s.arriveHead f).lnk.slip = min (s.lnk.slip + 1) 65535 ∧
    (s.arriveHead f).ntc.flags = s.ntc.flags ||| 4#8 := by
  simp only [State.arriveHead, h, if_true]
  refine ⟨?_, setFlag_flags _ .slip⟩
  obtain ⟨-, -, -, -, -, -, -, -, -, -, -, -, -, hs, -⟩ := Link.still_fields (setFlag_frame _ .slip).1
  exact hs

theorem arriveHead_noSlip {f : HeadFrame} (h : ¬ s.lnk.slips f = true) :
    (s.arriveHead f).lnk.slip = s.lnk.slip ∧ (s.arriveHead f).ntc = s.ntc := by
  simp only [State.arriveHead, if_neg h]
  exact ⟨rfl, rfl⟩

theorem channel_fields (f : HeadFrame) (i : Fin 9) : (frameChannel f i).sample = f.samples[i].extractLsb' 0 24 ∧
    ((frameChannel f i).valid = true ↔ f.word0.extractLsb' 8 24 = 0xC35A7E#24 ∧ f.samples[i].getLsbD 31 = true) := by
  refine ⟨rfl, ?_⟩
  rw [frameChannel, Bool.and_eq_true, frameSyncOk_iff]
  rfl

/-- The drive sample by mode and kind of step (R43, R48–R53). -/
theorem driveSample_eq (s : State) (n : NestId) : s.driveSample n = BitVec.ofInt 24
    (match (s.nest n).engine.mode with
    | .silent => 0
    | .step => match (s.stepRec n).kind with
      | .tone => drivenSample (s.nest n).engine.aeff (s.nest n).engine.acc ((s.nest n).engine.toneGain (s.runTables n))
      | .pulse => if (s.nest n).engine.lobe = .isOpen ∧ (s.nest n).engine.acc.toNat < 2 ^ 31 then
          drivenSample (s.nest n).engine.aeff (s.nest n).engine.acc 256 else 0
      | .gap | .reserved => 0
    | .stepFade | .endFade => drivenSample (s.nest n).engine.aeff (s.nest n).engine.acc
        (256 * ((s.nest n).engine.fadeLen - 1 - (s.nest n).engine.fade) / (s.nest n).engine.fadeLen)) := by
  rw [State.driveSample, Engine.drive, State.stepRec]
  cases (s.nest n).engine.mode <;> simp only [fadeOutGain]
  cases ((s.nest n).engine.stepRec (s.runTables n)).kind <;> simp

/-- The first TONE dwell after silence fades in (R49). -/
theorem toneGain_eq (e : Engine) (t : Tables) (ht : (e.stepRec t).kind = .tone) :
    let first : Prop := e.retry = 0 ∧ (e.step = 0 ∨ (t.step (e.step - 1)).kind ≠ .tone)
    (first → e.k < t.settingsRow.fade → e.toneGain t = 256 * e.k / t.settingsRow.fade) ∧
    (¬ first ∨ t.settingsRow.fade ≤ e.k → e.toneGain t = 256) := by
  intro first
  have ha : e.afterTone t = true ↔ ¬ first := by
    have ht' : (t.step e.step).kind = .tone := ht
    simp only [Engine.afterTone, first]
    split
    · rename_i hr
      simp [ht', Nat.ne_of_gt hr]
    · rename_i hr
      have hr0 : e.retry = 0 := by omega
      simp [hr0]
  rw [Engine.toneGain]
  refine ⟨fun hf hk => ?_, fun h => ?_⟩
  · rw [if_neg fun h => ha.mp h hf, fadeInGain, if_pos hk]
  · split
    · rfl
    · rename_i hn
      rw [fadeInGain, if_neg]
      have := h.resolve_left fun hf => hn (ha.mpr hf)
      omega

/-- The frames sent, the aux words held, and what the transmitter leaves (R1 step 5, R6). -/
theorem sendFrames_frame (s : State) (f : HeadFrame) (aux : Word) :
    let v := s.sendFrames f aux
    v = { s.nextControl.2 with lnk := { s.nextControl.2.lnk with
      headBound := v.lnk.headBound, lineBound := v.lnk.lineBound, auxToLine := v.lnk.auxToLine, auxToHead := v.lnk.auxToHead } } ∧
    v.amb = s.amb ∧ v.mrk = s.mrk ∧ v.retest = s.retest ∧ v.prot = s.prot ∧ v.buffers = s.buffers ∧
    ∀ n, (s.nest n).Rests (v.nest n) := by
  obtain ⟨-, h1, h2, h3, h4, h5, -, h6⟩ := nextControl_frame s
  exact ⟨rfl, h1, h2, h3, h4, h5, h6⟩

theorem sent_fields (l : Link) (f : HeadFrame) (aux : Word) (hb : HeadBound) (lb : LineBound) :
    let m := l.sent f aux hb lb
    m.expect = l.expect ∧ m.presence = l.presence ∧ m.elapsed = l.elapsed ∧ m.store = l.store ∧ m.auxToLine = frameAux f ∧
    m.auxToHead = aux ∧ m.replyQ = l.replyQ ∧ m.tx = l.tx ∧ m.headBound = some hb ∧ m.lineBound = some lb :=
  ⟨rfl, rfl, rfl, rfl, rfl, rfl, rfl, rfl, rfl, rfl⟩

/-- What a whole head frame leaves in LNK (R1–R6). -/
theorem headFrame_lnk (s : State) (f : HeadFrame) :
    let l := (s.headFrame f).lnk
    l.presence = .present ∧ l.elapsed = 0 ∧ l.store = none ∧ l.expect = s.lnk.nextExpect f ∧ l.auxToLine = frameAux f ∧
    l.auxToHead = s.lnk.consumed.aux ∧ l.headBound = some ((s.heard f).headBound f) ∧
    l.lineBound = some ((s.heard f).lineBound f (s.heard f).nextControl.1) ∧
    l.tx = (s.heard f).nextControl.2.lnk.tx ∧ l.replyQ = (s.heard f).nextControl.2.lnk.replyQ ∧
    (s.heard f).lnk.auxToHead = s.lnk.auxToHead ∧ (s.heard f).lnk.auxToLine = s.lnk.auxToLine ∧
    (s.headFrame f).pending = s.pending := by
  intro l
  obtain ⟨hc, hp⟩ := heard_frame s f
  obtain ⟨he, hpres, hel, hst, hal, hah, -⟩ := Link.carrier_fields hc
  have hr := nestsMove_reports ((s.heard f).sendFrames f s.lnk.consumed.aux) f (s.lnk.slips f)
  rw [← headFrame_eq, sendFrames_eq] at hr
  generalize s.heard f = u at *
  obtain ⟨hpl, -, -, -, -, -, hnp, -⟩ := nextControl_frame u
  obtain ⟨ne, npres, nel, nst, -, -⟩ := Link.place_fields hpl
  obtain ⟨me, mpres, mel, mst, mal, mah, mq, mtx, mhb, mlb⟩ :=
    sent_fields u.nextControl.2.lnk f s.lnk.consumed.aux (u.headBound f) (u.lineBound f u.nextControl.1)
  obtain ⟨te, tpres, tel, tst, tal, tah, -, -, -, tq, ttx, -, -, -, thb, tlb⟩ := Link.still_fields hr.still
  exact ⟨tpres.trans (mpres.trans (npres.trans hpres)), tel.trans (mel.trans (nel.trans hel)),
    tst.trans (mst.trans (nst.trans hst)), te.trans (me.trans (ne.trans he)), tal.trans mal, tah.trans mah, thb.trans mhb,
    tlb.trans mlb, ttx.trans mtx, tq.trans mq, hah, hal, hr.pending.trans (hnp.trans hp)⟩

/-- The drive sample by mode (R43), as the statement of the frames sent reads it. -/
theorem driveSample_cases (s : State) (n : NestId) :
    let e := (s.nest n).engine
    let x := s.runTables n
    let is (v : Int) : Prop := s.driveSample n = BitVec.ofInt 24 v
    (e.mode = .silent → is 0) ∧
    (e.mode = .stepFade ∨ e.mode = .endFade → is (drivenSample e.aeff e.acc (256 * (e.fadeLen - 1 - e.fade) / e.fadeLen))) ∧
    (e.mode = .step →
      ((s.stepRec n).kind = .gap → is 0) ∧
      ((s.stepRec n).kind = .pulse → e.lobe = .isOpen → e.acc.toNat < 2 ^ 31 → is (drivenSample e.aeff e.acc 256)) ∧
      ((s.stepRec n).kind = .pulse → (e.lobe = .ended ∨ 2 ^ 31 ≤ e.acc.toNat) → is 0) ∧
      ((s.stepRec n).kind = .tone → is (drivenSample e.aeff e.acc (e.toneGain x)))) := by
  intro e x is
  have hd := driveSample_eq s n
  refine ⟨fun hm => ?_, fun hm => ?_, fun hm => ⟨fun hk => ?_, fun hk hl ha => ?_, fun hk hl => ?_, fun hk => ?_⟩⟩
  · simpa only [is, show (s.nest n).engine.mode = _ from hm] using hd
  · rcases hm with hm | hm <;> simpa only [is, show (s.nest n).engine.mode = _ from hm] using hd
  · simpa only [is, show (s.nest n).engine.mode = _ from hm, hk] using hd
  · have hy : (s.nest n).engine.lobe = .isOpen ∧ (s.nest n).engine.acc.toNat < 2 ^ 31 := ⟨hl, ha⟩
    simpa only [is, show (s.nest n).engine.mode = _ from hm, hk, if_pos hy] using hd
  · have hn : ¬ ((s.nest n).engine.lobe = .isOpen ∧ (s.nest n).engine.acc.toNat < 2 ^ 31) := by
      rintro ⟨g1, g2⟩
      rcases hl with hl | hl
      · exact absurd (hl.symm.trans g1) (by decide)
      · exact absurd g2 (Nat.not_lt.mpr hl)
    simpa only [is, show (s.nest n).engine.mode = _ from hm, hk, if_neg hn] using hd
  · simpa only [is, show (s.nest n).engine.mode = _ from hm, hk] using hd

/-- The tap samples by source (R7). -/
theorem tapSample_cases (f : HeadFrame) (s : State) (source : BitVec 8) :
    (source = 0#8 → s.tapSample f source = 0#24) ∧
    (∀ i : Fin 9, source.toNat = i.val + 1 → s.tapSample f source = f.samples[i].extractLsb' 0 24) ∧
    (∀ n : NestId, source.toNat = n.val + 10 → s.tapSample f source = s.driveSample n) := by
  refine ⟨fun h => by rw [h]; rfl, fun i h => ?_, fun n h => ?_⟩
  · have h0 : ¬ (source.toNat == 0) = true := by simp [h]
    have h1 : source.toNat < 10 := by omega
    have hi : (⟨source.toNat - 1, by omega⟩ : Fin 9) = i := Fin.ext (by simp [h])
    simp only [State.tapSample, if_neg h0, dif_pos h1, hi]
    rfl
  · have h0 : ¬ (source.toNat == 0) = true := by simp [h]
    have h1 : ¬ source.toNat < 10 := by omega
    have h2 : source.toNat < 14 := by omega
    have hi : (⟨source.toNat - 10, by omega⟩ : NestId) = n := Fin.ext (by simp [h])
    simp only [State.tapSample, if_neg h0, dif_neg h1, dif_pos h2, hi]

/-- What a head frame hands to a nest (R1, R2). -/
theorem frameInput_channels (f : HeadFrame) (n : NestId) (slip : Bool) :
    let x := frameInput f n slip
    let channel (c : Channel) (i : Fin 9) : Prop := c.sample = f.samples[i].extractLsb' 0 24 ∧
      (c.valid = true ↔ f.word0.extractLsb' 8 24 = 0xC35A7E#24 ∧ f.samples[i].getLsbD 31 = true)
    (∀ i : Fin 9, i.val = n.val → channel x.mic i) ∧ (∀ i : Fin 9, i.val = n.val + 4 → channel x.cur i) ∧
    channel x.ref 8 ∧ channel (frameChannel f 8) 8 ∧ x.slip = slip := by
  intro x channel
  refine ⟨fun i hi => ?_, fun i hi => ?_, channel_fields f 8, channel_fields f 8, rfl⟩
  · have h : i = ⟨n.val, by omega⟩ := Fin.ext hi
    rw [h]
    exact channel_fields f _
  · have h : i = ⟨n.val + 4, by omega⟩ := Fin.ext hi
    rw [h]
    exact channel_fields f _

theorem headBound_fields (u : State) (f : HeadFrame) :
    (u.headBound f).word0 = 0xC35A81#24 ++ f.word0.extractLsb' 0 8 ∧ (u.headBound f).aux = u.lnk.auxToHead ∧
    (u.headBound f).drive = #v[(u.driveSample 0).signExtend 32, (u.driveSample 1).signExtend 32,
      (u.driveSample 2).signExtend 32, (u.driveSample 3).signExtend 32] := ⟨rfl, rfl, rfl⟩

theorem lineBound_fields (u : State) (f : HeadFrame) (w : Word) :
    (u.lineBound f w).word0 = 0x3CA5E1#24 ++ f.word0.extractLsb' 0 8 ∧ (u.lineBound f w).aux = u.lnk.auxToLine ∧
    (u.lineBound f w).tap0 = (u.tapSample f u.lnk.tap0).signExtend 32 ∧
    (u.lineBound f w).tap1 = (u.tapSample f u.lnk.tap1).signExtend 32 ∧ (u.lineBound f w).control = w :=
  ⟨rfl, rfl, rfl, rfl, rfl⟩

theorem nextExpect_cases (l : Link) (f : HeadFrame) :
    (f.word0.extractLsb' 8 24 = 0xC35A7E#24 → l.nextExpect f = some (f.word0.extractLsb' 0 8 + 1#8) ∧ frameAux f = f.aux) ∧
    (f.word0.extractLsb' 8 24 ≠ 0xC35A7E#24 → l.nextExpect f = l.expect.map (· + 1#8) ∧ frameAux f = 0#32) := by
  have hiff := frameSyncOk_iff f
  exact ⟨fun h => ⟨if_pos (hiff.mpr h), if_pos (hiff.mpr h)⟩, fun h => ⟨if_neg (h ∘ hiff.mp), if_neg (h ∘ hiff.mp)⟩⟩

/-- The frames sent, the transmitter and the nests' moves, from the state after the control word, the monitor and the window
decisions (R1). -/
theorem headFrame_sent (s : State) (f : HeadFrame) {t u : State} {lineAux : Word} (ht : s.headFrame f = t)
    (hu : s.heard f = u) (ha : s.lnk.consumed.aux = lineAux) :
    (∃ h, t.lnk.headBound = some h ∧
      h.drive = #v[(u.driveSample 0).signExtend 32, (u.driveSample 1).signExtend 32, (u.driveSample 2).signExtend 32,
        (u.driveSample 3).signExtend 32]) ∧
    (∃ p, t.lnk.lineBound = some p ∧ p.tap0 = (u.tapSample f u.lnk.tap0).signExtend 32 ∧
      p.tap1 = (u.tapSample f u.lnk.tap1).signExtend 32 ∧ p.control = u.nextControl.1) ∧
    t.lnk.tx = u.nextControl.2.lnk.tx ∧ t.lnk.replyQ = u.nextControl.2.lnk.replyQ ∧
    (let v := u.sendFrames f lineAux
     t = (allNests.foldl (fun w n => w.nestFrame n (frameInput f n (s.lnk.slips f))) v).endEvent ∧
     v = { u.nextControl.2 with lnk := { u.nextControl.2.lnk with
       headBound := v.lnk.headBound, lineBound := v.lnk.lineBound, auxToLine := v.lnk.auxToLine
       auxToHead := v.lnk.auxToHead } } ∧
     v.amb = u.amb ∧ v.mrk = u.mrk ∧ v.retest = u.retest ∧ v.prot = u.prot ∧ v.buffers = u.buffers ∧
     ∀ n, (u.nest n).Rests (v.nest n)) := by
  obtain ⟨-, -, -, -, -, -, hhb, hlb, htx, hq, -⟩ := headFrame_lnk s f
  have hwhole := headFrame_eq s f
  rw [ht, hu] at hhb hlb htx hq hwhole
  rw [ha] at hwhole
  obtain ⟨-, -, b3⟩ := headBound_fields u f
  obtain ⟨-, -, c3, c4, c5⟩ := lineBound_fields u f u.nextControl.1
  exact ⟨⟨_, hhb, b3⟩, ⟨_, hlb, c3, c4, c5⟩, htx, hq, hwhole, sendFrames_frame u f lineAux⟩

/-- Settles O50: LNK's position is carried through the frame, the frames are built from the state after the control word, and
the rest are the equations of the parts. -/
theorem headFrameAnswered : Obligations.HeadFrameAnswered := by
  refine ⟨fun f s => ⟨s.headFrame f, rfl, ?_⟩, frameInput_channels, fun f s => ?_, tapSample_cases, fun s n => ?_, fun s => ?_,
    fun s => ?_⟩
  · obtain ⟨hpres, hel, hst, he, hal, hah, hhb, hlb, -, -, uh, ul, hp⟩ := headFrame_lnk s f
    obtain ⟨hok, hbad⟩ := nextExpect_cases s.lnk f
    obtain ⟨b1, b2, -⟩ := headBound_fields (s.heard f) f
    obtain ⟨c1, c2, -⟩ := lineBound_fields (s.heard f) f (s.heard f).nextControl.1
    refine ⟨⟨hpres, hel, hst⟩, fun h => (hok h).imp he.trans hal.trans, fun h => (hbad h).imp he.trans hal.trans,
      hah.trans (consumed_aux s.lnk), ⟨_, hhb, b1, b2.trans uh⟩, ⟨_, hlb, c1, c2.trans ul⟩, hp, ?_⟩
    intro u
    have h := fun lineAux => headFrame_sent s f rfl (u := u) (lineAux := lineAux) rfl
    obtain ⟨h1, h2, h3, h4, -⟩ := h _ rfl
    refine ⟨h1, h2, h3, h4, ?_⟩
    intro lineAux
    obtain ⟨-, -, -, -, h5⟩ := h lineAux (consumed_aux s.lnk)
    exact h5
  · intro slips
    exact ⟨slips_iff s.lnk f, fun h => arriveHead_slip ((slips_iff s.lnk f).mpr h),
      fun h => arriveHead_noSlip fun hs => h ((slips_iff s.lnk f).mp hs)⟩
  · intro e x is
    obtain ⟨h1, h2, h3⟩ := driveSample_cases s n
    refine ⟨h1, h2, fun hm => ?_⟩
    obtain ⟨g1, g2, g3, g4⟩ := h3 hm
    refine ⟨g1, g2, g3, fun hk => ?_⟩
    intro first
    obtain ⟨k1, k2⟩ := toneGain_eq e x hk
    exact ⟨fun hf hlt => k1 hf hlt ▸ g4 hk, fun h => k2 h ▸ g4 hk⟩
  · exact ⟨fun w rest h => nextControl_tx h, fun m rest h hq => ⟨_, _, rfl, nextControl_reply h hq⟩,
      fun m rest h hq he => ⟨_, _, rfl, nextControl_event h hq he⟩, nextControl_idle⟩
  · rw [State.consumeLine, consumed_control]
    rfl

end Sys2Proof.Machine
end

section
/-! PROOFS. The close of an event (R13, R14, R164): no lot is due after it, what it leaves of a nest and a slot, which
STEP_RESULTs are dropped, who joins the wait line, and the messages a free queue gains. -/

namespace Sys2Proof.Machine

variable {s t u : State}

/-! ### Lots that are due (R164) -/

/-- What makes a lot due. -/
def Lot.dueKey (l : Lot) : Bool × Option Event × Nat × Nat := (l.closing, l.summary, l.inFlight, l.awaiting)

theorem due_of_key {l m : Lot} (h : l.dueKey = m.dueKey) : l.due = m.due := by
  simp only [Lot.dueKey, Prod.mk.injEq] at h
  obtain ⟨h1, h2, h3, h4⟩ := h
  simp only [Lot.due, h1, h2, h3, h4]

/-- No lot gains or loses what makes it due. -/
def SameDue (s t : State) : Prop := ∀ j, (t.lot j).map Lot.dueKey = (s.lot j).map Lot.dueKey

theorem SameDue.trans (h : SameDue s t) (g : SameDue t u) : SameDue s u := fun j => (g j).trans (h j)

theorem sameDue_of_lots (h : t.lots = s.lots) : SameDue s t := fun j => by rw [lot_congr h]

theorem modLot_sameDue (s : State) (k : SlotId) (f : Lot → Lot) (hf : ∀ l, (f l).dueKey = l.dueKey) :
    SameDue s (s.modLot k f) := by
  intro j
  rw [lot_modLot]
  split
  · rename_i hk; subst hk; cases s.lot k <;> simp [hf]
  · rfl

theorem evaluateAlarm_sameDue (s : State) (k : SlotId) : SameDue s (s.evaluateAlarm k) := by
  simp only [State.evaluateAlarm]
  (repeat' split)
  · exact fun _ => rfl
  · exact modLot_sameDue s k _ fun _ => by rfl
  · exact fun _ => rfl
  · exact (modLot_sameDue s k (fun l => { l with tripped := true }) fun _ => rfl).trans (sameDue_of_lots (by simp))
  · exact fun _ => rfl

theorem finalCount_sameDue (s : State) (k : SlotId) (pass : Bool) (classes : ClassSet) :
    SameDue s (s.finalCount k pass classes) :=
  (modLot_sameDue s k _ fun _ => by rfl).trans (evaluateAlarm_sameDue _ k)

theorem reportGivenUp_sameDue (s : State) (e : RetestEntry) : SameDue s (s.reportGivenUp e) := by
  simp only [State.reportGivenUp]
  split
  · exact (modLot_sameDue s _ _ fun _ => by rfl).trans (finalCount_sameDue _ _ _ _)
  · exact fun _ => rfl

theorem foldGivenUp_sameDue : ∀ (es : List RetestEntry) (s : State), SameDue s (es.foldl State.reportGivenUp s)
  | [], _ => fun _ => rfl
  | e :: es, s => (reportGivenUp_sameDue s e).trans (foldGivenUp_sameDue es _)

theorem giveUpLot_sameDue (s : State) (id : Word) : SameDue s (s.giveUpLot id) := foldGivenUp_sameDue _ _

theorem lotDue_eq (s : State) (k : SlotId) : s.lotDue k = ((s.lot k).map Lot.due).getD false := by
  rw [State.lotDue]
  cases s.lot k <;> rfl

theorem SameDue.lotDue (h : SameDue s t) (k : SlotId) : t.lotDue k = s.lotDue k := by
  have hk := h k
  rw [lotDue_eq, lotDue_eq]
  cases hs : s.lot k <;> cases ht : t.lot k <;> simp_all
  exact due_of_key hk

theorem completeLot_of_notDue {k : SlotId} (h : s.lotDue k = false) : s.completeLot k = s := by
  simp only [State.lotDue] at h
  simp only [State.completeLot]
  split
  · rfl
  · rename_i l hl
    simp only [hl] at h
    rw [if_neg (by simp [h])]

/-- The summary of a completed lot (R164). -/
def Lot.summarise (k : SlotId) (gen : BitVec 16) (l : Lot) : Lot :=
  { l with summary := some ⟨0x85#8, BitVec.ofNat 4 k.val, lotReport k l gen⟩ }

theorem completeLot_of_due {k : SlotId} {l : Lot} (hl : s.lot k = some l) (h : l.due = true) :
    s.completeLot k = (s.giveUpLot l.id).modLot k (Lot.summarise k (s.slot k).generation) := by
  simp only [State.completeLot, hl, if_pos h]
  rw [show ((s.giveUpLot l.id).slot k) = s.slot k from slot_congr (by simp) k]
  rfl

/-- After its completion a lot is not due, and no other becomes so. -/
theorem completeLot_lotDue (s : State) (k j : SlotId) : (s.completeLot k).lotDue j = (decide (k ≠ j) && s.lotDue j) := by
  cases hd : s.lotDue k with
  | false =>
    rw [completeLot_of_notDue hd]
    by_cases hk : k = j
    · subst hk; simp [hd]
    · simp [hk]
  | true =>
    cases hl : s.lot k with
    | none => simp [State.lotDue, hl] at hd
    | some l =>
      have hl' : l.due = true := by simpa [State.lotDue, hl] using hd
      have hg := giveUpLot_sameDue s l.id
      rw [completeLot_of_due hl hl']
      by_cases hk : k = j
      · subst hk
        rw [lotDue_eq, lot_modLot, if_pos rfl]
        cases (s.giveUpLot l.id).lot k <;> simp [Lot.summarise, Lot.due]
      · rw [← hg.lotDue j, lotDue_eq, lotDue_eq, lot_modLot, if_neg hk]
        simp [hk]

theorem foldl_completeLot_lotDue : ∀ (ks : List SlotId) (s : State) (j : SlotId),
    (ks.foldl State.completeLot s).lotDue j = (decide (j ∉ ks) && s.lotDue j)
  | [], s, j => by simp
  | k :: ks, s, j => by
    rw [List.foldl_cons, foldl_completeLot_lotDue ks, completeLot_lotDue]
    by_cases hk : j = k
    · subst hk; simp
    · simp [hk, Ne.symm hk]

theorem completeLots_lotDue (s : State) (k : SlotId) : s.completeLots.lotDue k = false := by
  rw [State.completeLots, foldl_completeLot_lotDue]
  simp [mem_allSlots]

theorem foldl_completeLot_of_notDue (h : ∀ k, s.lotDue k = false) : ∀ ks : List SlotId, ks.foldl State.completeLot s = s
  | [] => rfl
  | k :: ks => by rw [List.foldl_cons, completeLot_of_notDue (h k), foldl_completeLot_of_notDue h ks]

theorem completeLots_of_notDue (h : ∀ k, s.lotDue k = false) : s.completeLots = s := foldl_completeLot_of_notDue h _

/-- A lot's place is as it was, or freed. -/
def LotsStay (s t : State) : Prop := ∀ k, t.lot k = s.lot k ∨ t.lot k = none

theorem LotsStay.trans (h : LotsStay s t) (g : LotsStay t u) : LotsStay s u := by
  intro k
  rcases g k with e | e
  · rw [e]; exact h k
  · exact .inr e

theorem LotsStay.lotDue (h : LotsStay s t) {k : SlotId} (hk : s.lotDue k = false) : t.lotDue k = false := by
  rw [lotDue_eq] at hk ⊢
  rcases h k with e | e
  · rw [e, hk]
  · rw [e]; rfl

/-! ### What a service of LNK leaves of a nest and a slot -/

/-- A nest at the close of an event: its STEP_RESULT may be gone, and it may have returned from REPORTING to IDLE with its VERDICT
gone (R13, R75, R141). -/
def Nest.Served (x y : Nest) : Prop :=
  (y.stepOut = x.stepOut ∨ y.stepOut = none) ∧
  ({ y with stepOut := none } = { x with stepOut := none } ∨
    (x.phase = .reporting ∧ x.verdictOut ≠ none ∧
      { y with stepOut := none } = { x with stepOut := none, verdictOut := none }.returnIdle))

theorem Nest.Served.refl (x : Nest) : x.Served x := ⟨.inl rfl, .inl rfl⟩

theorem Nest.Served.trans {x y z : Nest} (h : x.Served y) (g : y.Served z) : x.Served z := by
  obtain ⟨h1, h2⟩ := h
  obtain ⟨g1, g2⟩ := g
  refine ⟨?_, ?_⟩
  · rcases g1 with e | e
    · rw [e]; exact h1
    · exact .inr e
  · rcases h2 with h2 | ⟨p, v, h2⟩
    · have hy : y = { x with stepOut := y.stepOut } := by
        have := congrArg (fun n : Nest => { n with stepOut := y.stepOut }) h2
        exact this
      rcases g2 with g2 | ⟨p, v, g2⟩
      · exact .inl (g2.trans h2)
      · rw [hy] at p v g2
        exact .inr ⟨p, v, g2⟩
    · have hphase : y.phase = .idle := congrArg Nest.phase h2
      rcases g2 with g2 | ⟨p', -, -⟩
      · exact .inr ⟨p, v, g2.trans h2⟩
      · rw [hphase] at p'; exact absurd p' (by decide)

/-- A slot at the close of an event: its REF_DONE may be gone (R125). -/
def Slot.Served (x y : Slot) : Prop := y = { x with refDone := y.refDone }

theorem Slot.Served.trans {x y z : Slot} (h : x.Served y) (g : y.Served z) : x.Served z := by
  unfold Slot.Served at *
  rw [h] at g
  exact g

/-- From s to t LNK serves producers: the nests, slots and lots lose what was offered and no more. -/
structure Serves (s t : State) : Prop where
  nests : ∀ n, (s.nest n).Served (t.nest n)
  slots : ∀ k, (s.slot k).Served (t.slot k)
  lots : LotsStay s t
  flags : ∀ i, s.ntc.flags.getLsbD i = true → t.ntc.flags.getLsbD i = true

theorem Serves.refl (s : State) : Serves s s := ⟨fun _ => .refl _, fun _ => rfl, fun _ => .inl rfl, fun _ h => h⟩

theorem Serves.trans (h : Serves s t) (g : Serves t u) : Serves s u :=
  ⟨fun n => (h.nests n).trans (g.nests n), fun k => (h.slots k).trans (g.slots k), h.lots.trans g.lots,
    fun i hi => g.flags i (h.flags i hi)⟩

theorem foldl_serves {α : Type} {f : State → α → State} (hf : ∀ s x, Serves s (f s x)) :
    ∀ (l : List α) (s : State), Serves s (l.foldl f s)
  | [], s => .refl s
  | x :: l, s => (hf s x).trans (foldl_serves hf l _)

theorem setFlag_serves (s : State) (f : Flag) : Serves s (s.setFlag f) where
  nests n := by simpa using Nest.Served.refl (s.nest n)
  slots k := by simp [Slot.Served]
  lots k := .inl (by simp)
  flags := (setFlag_reports (.refl s) f).flags

/-- A STEP_RESULT leaves its outbox (R13). -/
theorem clearResult_serves (s : State) (n : NestId) : Serves s (s.modNest n fun x => { x with stepOut := none }) where
  nests m := by
    rw [nest_modNest]
    split
    · rename_i h; subst h; exact ⟨.inr rfl, .inl rfl⟩
    · exact .refl _
  slots k := by simp [Slot.Served]
  lots k := .inl (by simp)
  flags _ h := h

theorem discardResult_serves (s : State) (n : NestId) : Serves s (s.discardResult n) :=
  have h := clearResult_serves s n
  ⟨h.nests, h.slots, h.lots, h.flags⟩

theorem dropResults_serves (s : State) : Serves s s.dropResults := by
  simp only [State.dropResults]
  split
  · exact .refl s
  · exact (foldl_serves discardResult_serves _ s).trans (setFlag_serves _ _)

theorem offerStepResult_serves (s : State) (n : NestId) : Serves s (s.offerStepResult n) := by
  simp only [State.offerStepResult]
  split
  · exact .refl s
  · split
    · have h := clearResult_serves s n
      exact ⟨h.nests, h.slots, h.lots, h.flags⟩
    · exact (discardResult_serves s n).trans (setFlag_serves _ _)

theorem lot_admitProducer (s : State) (p : Producer) : LotsStay s (s.admitProducer p) := by
  intro k
  cases p with
  | ntc => exact .inl (by simp [State.admitProducer])
  | vrd n => simp only [State.admitProducer]; split <;> exact .inl (by simp)
  | tbs j => simp only [State.admitProducer]; split <;> exact .inl (by simp)
  | yld j =>
    simp only [State.admitProducer]
    split
    · by_cases h : j = k
      · exact .inr (by simp [h])
      · exact .inl (by simp [h])
    · exact .inl rfl

/-- An offer of a message held: admitted, or its producer joins the line. -/
theorem offerReady_serves (s : State) (p : Producer) : Serves s (s.offerReady p) := by
  unfold State.offerReady
  split
  · rename_i hr
    have hp := ready_ne_ntc hr
    unfold State.offer
    split
    · refine ⟨fun n => ?_, fun k => ?_, lot_admitProducer s p, fun i h => by rwa [(admitProducer_line s hp).2]⟩
      · rcases nest_admitProducer s p n with ⟨h, -⟩ | ⟨rfl, hv, h⟩
        · rw [h]; exact .refl _
        · have hrep : (s.nest n).phase = .reporting := by
            have := (ready_iff.mp hr).1
            exact (held_vrd_ne_none.mp this).1
          rw [h]
          exact ⟨.inl rfl, .inr ⟨hrep, hv, rfl⟩⟩
      · rw [slot_admitProducer]
        split
        · exact rfl
        · exact rfl
    · exact ⟨fun n => .refl _, fun k => rfl, fun k => .inl rfl, fun i h => h⟩
  · exact .refl s

theorem offerNest_serves (s : State) (n : NestId) : Serves s (s.offerNest n) := by
  rw [offerNest_eq]
  exact (offerStepResult_serves s n).trans (offerReady_serves _ _)

theorem makeOffers_eq (s : State) : s.makeOffers =
    allSlots.foldl (fun t k => t.offerReady (.yld k)) (allSlots.foldl (fun t k => t.offerReady (.tbs k))
      (allNests.foldl State.offerNest s.dropResults)) := rfl

theorem makeOffers_serves (s : State) : Serves s s.makeOffers := by
  rw [makeOffers_eq]
  exact (dropResults_serves s).trans ((foldl_serves offerNest_serves _ _).trans
    ((foldl_serves (fun s k => offerReady_serves s (.tbs k)) _ _).trans
      (foldl_serves (fun s k => offerReady_serves s (.yld k)) _ _)))

theorem Serves.stepOut (h : Serves s t) {n : NestId} (hn : (s.nest n).stepOut = none) : (t.nest n).stepOut = none :=
  (h.nests n).1.elim (fun e => e.trans hn) id

theorem foldl_offerNest_stepOut : ∀ (l : List NestId) (s : State), ∀ n ∈ l, ((l.foldl State.offerNest s).nest n).stepOut = none
  | [], _, _, hn => absurd hn (List.not_mem_nil)
  | m :: l, s, n, hn => by
    rcases List.mem_cons.mp hn with rfl | hn
    · have h : ((s.offerNest n).nest n).stepOut = none := by
        rw [offerNest_eq]
        exact (offerReady_serves _ _).stepOut (offerStepResult_offered s n).2
      exact (foldl_serves offerNest_serves l _).stepOut h
    · exact foldl_offerNest_stepOut l _ n hn

theorem makeOffers_stepOut (s : State) (n : NestId) : (s.makeOffers.nest n).stepOut = none := by
  rw [makeOffers_eq]
  exact (foldl_serves (fun s k => offerReady_serves s (.yld k)) _ _).stepOut
    ((foldl_serves (fun s k => offerReady_serves s (.tbs k)) _ _).stepOut (foldl_offerNest_stepOut _ _ n (mem_allNests n)))

theorem endEvent_eq (s : State) : s.endEvent = s.completeLots.makeOffers := rfl

theorem eq_without_stepOut {x : Nest} (h : x.stepOut = none) : x = { x with stepOut := none } := by rw [← h]

/-- What the close of an event leaves of a nest. -/
theorem endEvent_nest (s : State) (n : NestId) : s.endEvent.nest n = { s.nest n with stepOut := none } ∨
    ((s.nest n).phase = .reporting ∧ (s.nest n).verdictOut ≠ none ∧
      s.endEvent.nest n = { s.nest n with stepOut := none, verdictOut := none }.returnIdle) := by
  have hn : s.completeLots.nest n = s.nest n := nest_congr (by simp) n
  have h := (makeOffers_serves s.completeLots).nests n
  have hs := eq_without_stepOut (makeOffers_stepOut s.completeLots n)
  rw [← endEvent_eq, hn] at h
  rw [← endEvent_eq] at hs
  generalize s.endEvent.nest n = y at *
  obtain ⟨-, h⟩ := h
  exact h.imp hs.trans fun ⟨hp, hv, h⟩ => ⟨hp, hv, hs.trans h⟩

/-- A nest rests through the close of an event, but for its outboxes and its return to IDLE. -/
theorem endEvent_rests (s : State) (n : NestId) : (s.nest n).Rests (s.endEvent.nest n) := by
  rcases endEvent_nest s n with h | ⟨-, -, h⟩
  · rw [h]; exact ⟨rfl, rfl, rfl, rfl, .inl rfl⟩
  · rw [h]; exact ⟨rfl, rfl, rfl, rfl, .inr rfl⟩

theorem completeLots_slot (s : State) (k : SlotId) : s.completeLots.slot k = s.slot k := slot_congr (by simp) k

theorem endEvent_slot (s : State) (k : SlotId) : (s.slot k).Served (s.endEvent.slot k) := by
  rw [endEvent_eq, ← completeLots_slot]
  exact (makeOffers_serves s.completeLots).slots k

theorem endEvent_lotDue (s : State) (k : SlotId) : s.endEvent.lotDue k = false :=
  (makeOffers_serves s.completeLots).lots.lotDue (completeLots_lotDue s k)

end Sys2Proof.Machine
end

section
/-! PROOFS. The close of an event, continued: NTC's requests in it, the STEP_RESULTs dropped, the order of joining (R13, R14), and
O55. -/

namespace Sys2Proof.Machine

variable {s t u : State}

/-! ### NTC's requests -/

/-- From s to t nothing joins the wait line but NTC, once, and with `lossy` false no STEP_RESULT is counted as lost. -/
structure Asks (lossy : Bool) (s t : State) : Prop where
  waiting : s.ntc.outbox = .waiting → t.lnk.waitLine = s.lnk.waitLine ∧ t.ntc.outbox = .waiting
  line : t.lnk.waitLine = s.lnk.waitLine ∨ (t.lnk.waitLine = s.lnk.waitLine ++ [.ntc] ∧ t.ntc.outbox = .waiting)
  lost : lossy = false → t.lnk.traceLost = s.lnk.traceLost

variable {lossy : Bool}

theorem Asks.refl (s : State) : Asks lossy s s := ⟨fun h => ⟨rfl, h⟩, .inl rfl, fun _ => rfl⟩

theorem Asks.trans (h : Asks lossy s t) (g : Asks lossy t u) : Asks lossy s u where
  waiting hw := by
    obtain ⟨h1, h2⟩ := h.waiting hw
    obtain ⟨g1, g2⟩ := g.waiting h2
    exact ⟨g1.trans h1, g2⟩
  line := by
    rcases h.line with h1 | ⟨h1, h2⟩
    · rw [← h1]; exact g.line
    · obtain ⟨g1, g2⟩ := g.waiting h2
      exact .inr ⟨g1.trans h1, g2⟩
  lost hl := (g.lost hl).trans (h.lost hl)

theorem asks_of_same (hl : t.lnk.waitLine = s.lnk.waitLine) (ht : t.lnk.traceLost = s.lnk.traceLost)
    (hn : t.ntc.outbox = s.ntc.outbox) : Asks lossy s t := ⟨fun h => ⟨hl, hn.trans h⟩, .inl hl, fun _ => ht⟩

theorem askNotice_asks (s : State) : Asks lossy s s.askNotice := by
  simp only [State.askNotice]
  split
  · exact .refl s
  · rename_i h
    exact ⟨fun hw => absurd (hw.symm.trans h) (by simp), .inl rfl, fun _ => rfl⟩
  · rename_i h
    split
    · exact ⟨fun hw => absurd (hw.symm.trans h) (by simp), .inl rfl, fun _ => rfl⟩
    · exact ⟨fun hw => absurd (hw.symm.trans h) (by simp), .inr ⟨rfl, rfl⟩, fun _ => rfl⟩

theorem notifyRising_asks (s : State) (f : Flag) : Asks lossy s (s.notifyRising f) := by
  simp only [State.notifyRising]
  (repeat' split)
  · exact (asks_of_same rfl rfl rfl : Asks lossy s (s.modNtc fun c => { c with nonUrgent := false })).trans (askNotice_asks _)
  · exact (asks_of_same rfl rfl rfl : Asks lossy s (s.modNtc fun c => { c with timer := some 0 })).trans (askNotice_asks _)
  · exact asks_of_same rfl rfl rfl

theorem setFlag_asks (s : State) (f : Flag) : Asks lossy s (s.setFlag f) := by
  simp only [State.setFlag]
  (repeat' split)
  · exact .refl s
  · exact (asks_of_same rfl rfl rfl : Asks lossy s (s.modNtc fun c => { c with flags := c.flags ||| f.mask })).trans (notifyRising_asks _ f)
  · exact asks_of_same rfl rfl rfl

theorem evaluateAlarm_asks (s : State) (k : SlotId) : Asks lossy s (s.evaluateAlarm k) := by
  simp only [State.evaluateAlarm]
  (repeat' split)
  · exact .refl s
  · exact asks_of_same rfl rfl rfl
  · exact .refl s
  · refine Asks.trans ?_ (setFlag_asks _ .lowYield)
    exact asks_of_same rfl rfl rfl
  · exact .refl s

theorem reportGivenUp_asks (s : State) (e : RetestEntry) : Asks lossy s (s.reportGivenUp e) := by
  simp only [State.reportGivenUp, State.finalCount]
  split
  · refine Asks.trans ?_ (evaluateAlarm_asks _ _)
    exact asks_of_same rfl rfl rfl
  · exact .refl s

theorem foldl_asks {α : Type} {f : State → α → State} (hf : ∀ s x, Asks lossy s (f s x)) :
    ∀ (l : List α) (s : State), Asks lossy s (l.foldl f s)
  | [], s => .refl s
  | x :: l, s => (hf s x).trans (foldl_asks hf l _)

theorem giveUpLot_asks (s : State) (id : Word) : Asks lossy s (s.giveUpLot id) := by
  simp only [State.giveUpLot]
  refine Asks.trans ?_ (foldl_asks reportGivenUp_asks _ _)
  exact asks_of_same rfl rfl rfl

theorem completeLot_asks (s : State) (k : SlotId) : Asks lossy s (s.completeLot k) := by
  cases hd : s.lotDue k with
  | false => rw [completeLot_of_notDue hd]; exact .refl s
  | true =>
    cases hl : s.lot k with
    | none => simp [State.lotDue, hl] at hd
    | some l =>
      rw [completeLot_of_due hl (by simpa [State.lotDue, hl] using hd)]
      refine (giveUpLot_asks s l.id).trans ?_
      exact asks_of_same rfl rfl rfl

theorem completeLots_asks (s : State) : Asks lossy s s.completeLots := foldl_asks completeLot_asks allSlots s

/-! ### The STEP_RESULTs dropped (R13) -/

/-- With 11 messages or more every STEP_RESULT is dropped. -/
theorem walk_full : ∀ (ns : List NestId) (L : Nat) (d : List NestId), Config.traceRoom < L →
    (ns.foldl s.walkNest (L, d)).2 = d ++ ns.filter fun n => (s.nest n).stepOut.isSome
  | [], L, d, _ => by simp
  | n :: ns, L, d, hL => by
    have hw : s.walkNest (L, d) n = ((s.walkNest (L, d) n).1, if (s.nest n).stepOut.isSome then d ++ [n] else d) := by
      simp [State.walkNest, hL]
    have hlen : Config.traceRoom < (s.walkNest (L, d) n).1 := by
      simp only [State.walkNest, hL, decide_true, Bool.and_true]
      (repeat' split) <;> omega
    rw [List.foldl_cons, hw, walk_full ns _ _ hlen]
    cases h : (s.nest n).stepOut.isSome <;> simp [h]

theorem lostResults_full (h : Config.traceRoom < s.lnk.eventQ.length) :
    s.lostResults = allNests.filter fun n => (s.nest n).stepOut.isSome := by
  rw [State.lostResults, walk_full _ _ _ h, List.nil_append]

/-- The counter of dropped STEP_RESULTs saturates. -/
theorem foldl_discard_traceLost : ∀ (ns : List NestId) (s : State), ns ≠ [] →
    (ns.foldl State.discardResult s).lnk.traceLost = min (s.lnk.traceLost + ns.length) 65535
  | [], _, h => absurd rfl h
  | [_], _, _ => rfl
  | n :: m :: ns, s, _ => by
    rw [List.foldl_cons, foldl_discard_traceLost (m :: ns) _ (by simp)]
    have : (s.discardResult n).lnk.traceLost = min (s.lnk.traceLost + 1) 65535 := rfl
    rw [this]
    simp only [List.length_cons]
    omega

theorem foldl_discard_stepOut : ∀ (ns : List NestId) (s : State) (n : NestId), n ∈ ns →
    ((ns.foldl State.discardResult s).nest n).stepOut = none
  | [], _, _, h => absurd h List.not_mem_nil
  | m :: ns, s, n, h => by
    rcases List.mem_cons.mp h with rfl | h
    · exact (foldl_serves discardResult_serves ns _).stepOut (by simp [State.discardResult])
    · exact foldl_discard_stepOut ns _ n h

theorem admitProducer_traceLost (s : State) (p : Producer) : (s.admitProducer p).lnk.traceLost = s.lnk.traceLost := by
  cases p with
  | ntc => rfl
  | _ => simp only [State.admitProducer]; split <;> rfl

theorem offerReady_traceLost (s : State) (p : Producer) : (s.offerReady p).lnk.traceLost = s.lnk.traceLost := by
  unfold State.offerReady State.offer
  (repeat' split)
  · exact admitProducer_traceLost s p
  · rfl
  · rfl

theorem foldl_offerReady_traceLost {α : Type} (f : α → Producer) : ∀ (l : List α) (s : State),
    (l.foldl (fun t x => t.offerReady (f x)) s).lnk.traceLost = s.lnk.traceLost
  | [], _ => rfl
  | _ :: l, s => (foldl_offerReady_traceLost f l _).trans (offerReady_traceLost s _)

theorem offerStepResult_of_none {n : NestId} (h : (s.nest n).stepOut = none) : s.offerStepResult n = s := by
  simp only [State.offerStepResult, h]

/-- With no STEP_RESULT left the nests' offers are their VERDICTs alone. -/
theorem foldl_offerNest_of_none : ∀ (ns : List NestId) (s : State), (∀ n, (s.nest n).stepOut = none) →
    ns.foldl State.offerNest s = ns.foldl (fun t n => t.offerReady (.vrd n)) s
  | [], _, _ => rfl
  | n :: ns, s, h => by
    rw [List.foldl_cons, List.foldl_cons, offerNest_eq, offerStepResult_of_none (h n)]
    exact foldl_offerNest_of_none ns _ fun m => (offerReady_serves s _).stepOut (h m)

/-- With 11 messages or more in the queue every STEP_RESULT of the event is dropped and counted. -/
theorem makeOffers_full (h : Config.traceRoom < s.lnk.eventQ.length)
    (hl : (allNests.filter fun n => (s.nest n).stepOut.isSome).length ≠ 0) :
    s.makeOffers.lnk.traceLost =
      min (s.lnk.traceLost + (allNests.filter fun n => (s.nest n).stepOut.isSome).length) 65535 ∧
    s.makeOffers.ntc.flags.getLsbD 7 = true := by
  have hne : (allNests.filter fun n => (s.nest n).stepOut.isSome) ≠ [] := fun e => hl (by rw [e]; rfl)
  obtain ⟨more, hmore⟩ := (setFlag_reports (.refl s) .traceLost).events
  have hflag : (s.setFlag .traceLost).lostResults = allNests.filter fun n => (s.nest n).stepOut.isSome := by
    rw [lostResults_full (by rw [hmore, List.length_append]; omega)]
    exact List.filter_congr fun n _ => by simp
  have hdrop : s.dropResults =
      ((allNests.filter fun n => (s.nest n).stepOut.isSome).foldl State.discardResult s).setFlag .traceLost := by
    rw [State.dropResults, lostResults_full h, hflag, if_neg (by simpa [List.isEmpty_iff] using hne)]
  have hnone : ∀ n, (s.dropResults.nest n).stepOut = none := by
    intro n
    rw [hdrop]
    refine (setFlag_serves _ _).stepOut ?_
    by_cases hn : (s.nest n).stepOut = none
    · exact (foldl_serves discardResult_serves _ s).stepOut hn
    · exact foldl_discard_stepOut _ _ n (List.mem_filter.mpr ⟨mem_allNests n, Option.isSome_iff_ne_none.mpr hn⟩)
  constructor
  · rw [makeOffers_eq, foldl_offerReady_traceLost, foldl_offerReady_traceLost, foldl_offerNest_of_none _ _ hnone,
      foldl_offerReady_traceLost, hdrop, (setFlag_asks _ _).lost rfl, foldl_discard_traceLost _ _ hne]
  · rw [makeOffers_eq]
    have h7 : s.dropResults.ntc.flags.getLsbD 7 = true := by rw [hdrop]; exact setFlag_stands .traceLost
    exact (foldl_serves (fun s k => offerReady_serves s (.yld k)) _ _).flags 7
      ((foldl_serves (fun s k => offerReady_serves s (.tbs k)) _ _).flags 7 ((foldl_serves offerNest_serves _ _).flags 7 h7))

/-- The nests' offers where no STEP_RESULT is dropped in them: admitted, then the VERDICTs. -/
def State.offerQuietly (s : State) (n : NestId) : State :=
  (match (s.nest n).stepOut with
    | none => s
    | some e =>
      if s.lnk.eventQ.length ≤ Config.traceRoom then (s.modNest n fun x => { x with stepOut := none }).admitEvent e
      else s.discardResult n).offerReady (.vrd n)

theorem setFlag_of_set {f : Flag} (h : s.ntc.flags.getLsbD f.index = true) : s.setFlag f = s := by
  rw [State.setFlag, if_pos h]

/-- Once TRACE_LOST stands, or where the STEP_RESULT finds room, no flag rises at the offer. -/
theorem offerNest_quietly {n : NestId}
    (h : s.ntc.flags.getLsbD 7 = true ∨ ((s.nest n).stepOut ≠ none → s.lnk.eventQ.length ≤ Config.traceRoom)) :
    s.offerNest n = s.offerQuietly n := by
  rw [offerNest_eq, State.offerQuietly, State.offerStepResult]
  cases hs : (s.nest n).stepOut with
  | none => rfl
  | some e =>
    dsimp only
    split
    · rfl
    · rename_i hl
      have hf := h.resolve_right fun h => hl (h (by simp [hs]))
      have : (s.discardResult n).setFlag .traceLost = s.discardResult n := setFlag_of_set hf
      rw [this]

theorem foldl_offerNest_of_flag : ∀ (ns : List NestId) (s : State), s.ntc.flags.getLsbD 7 = true →
    ns.foldl State.offerNest s = ns.foldl State.offerQuietly s
  | [], _, _ => rfl
  | n :: ns, s, h => by
    rw [List.foldl_cons, List.foldl_cons, ← offerNest_quietly (.inl h)]
    exact foldl_offerNest_of_flag ns _ ((offerNest_serves s n).flags 7 h)

/-- The walk only adds names. -/
theorem walk_grows : ∀ (ns : List NestId) (s : State) (p : Nat × List NestId), p.2.length ≤ (ns.foldl s.walkNest p).2.length
  | [], _, _ => Nat.le_refl _
  | n :: ns, s, p => by
    refine Nat.le_trans ?_ (walk_grows ns s _)
    rcases walkNest_cases s n p with h | ⟨-, -, h⟩
    · rw [h]
    · rw [h, List.length_append]; omega

theorem admitProducer_events (s : State) (p : Producer) : (s.admitProducer p).lnk.eventQ.length ≤ s.lnk.eventQ.length + 1 := by
  cases p with
  | ntc => simp [State.admitProducer, admitNotice_eq]
  | _ => simp only [State.admitProducer]; split <;> simp [State.admitEvent]

/-- What an offer adds to the event queue. -/
theorem offerReady_events (s : State) (p : Producer) :
    (s.offerReady p).lnk.eventQ.length ≤
      if s.ready p = true ∧ s.lnk.waitLine = [] ∧ s.lnk.eventQ.length < Config.eventCap then s.lnk.eventQ.length + 1
      else s.lnk.eventQ.length := by
  unfold State.offerReady
  split
  · rename_i hr
    unfold State.offer
    split
    · rename_i hc
      obtain ⟨hf, hw⟩ := (Bool.and_eq_true _ _).mp hc
      rw [if_pos ⟨hr, List.isEmpty_iff.mp hw, of_decide_eq_true hf⟩]
      exact admitProducer_events s p
    · split <;> simp
  · split <;> simp

theorem offerStepResult_events {n : NestId} (h : (s.nest n).stepOut ≠ none → s.lnk.eventQ.length ≤ Config.traceRoom) :
    (s.offerStepResult n).lnk.eventQ.length =
      (if (s.nest n).stepOut.isSome then s.lnk.eventQ.length + 1 else s.lnk.eventQ.length) ∧
    (s.offerStepResult n).lnk.waitLine = s.lnk.waitLine := by
  simp only [State.offerStepResult]
  cases hs : (s.nest n).stepOut with
  | none => simp
  | some e => simp [h (by simp [hs]), State.admitEvent]

/-- The line after an offer. -/
theorem offerReady_waitLine (s : State) {p : Producer} (hp : p ≠ .ntc) :
    (s.offerReady p).lnk.waitLine = s.lnk.waitLine ∨ (s.offerReady p).lnk.waitLine = s.lnk.waitLine ++ [p] := by
  unfold State.offerReady State.offer
  (repeat' split)
  · exact .inl (admitProducer_line s hp).1
  · exact .inr rfl
  · exact .inl rfl

/-- The walk's count after a nest, where its STEP_RESULT is not lost. -/
theorem walkNest_count {o : State} {n : NestId} {L : Nat} (d : List NestId)
    (h : ¬ ((o.nest n).stepOut.isSome = true ∧ Config.traceRoom < L)) :
    o.walkNest (L, d) n = (let len := if (o.nest n).stepOut.isSome then L + 1 else L
      if o.ready (.vrd n) = true ∧ o.lnk.waitLine = [] ∧ len < Config.eventCap then len + 1 else len, d) := by
  have hlost : ((o.nest n).stepOut.isSome && decide (Config.traceRoom < L)) = false := by
    rw [← Bool.not_eq_true, Bool.and_eq_true, decide_eq_true_eq]; exact h
  simp [State.walkNest, hlost, verdictReady_eq, and_assoc]

/-- Where the walk finds no loss the offers make none: the queue never grows past the walk's count. -/
theorem foldl_offerNest_of_noLoss (o : State) : ∀ (ns : List NestId) (s : State) (L : Nat) (d : List NestId),
    (ns.foldl o.walkNest (L, d)).2 = d → s.lnk.eventQ.length ≤ L → (s.lnk.waitLine = [] → o.lnk.waitLine = []) →
    Offered o s → ns.foldl State.offerNest s = ns.foldl State.offerQuietly s
  | [], _, _, _, _, _, _, _ => rfl
  | n :: ns, s, L, d, hd, hL, hw, ho => by
    rw [List.foldl_cons] at hd
    have hno : ¬ ((o.nest n).stepOut.isSome = true ∧ Config.traceRoom < L) := by
      intro hl
      have := walk_grows ns o (o.walkNest (L, d) n)
      rw [hd, State.walkNest] at this
      simp [hl] at this
    have hsome : (s.nest n).stepOut.isSome = true → (o.nest n).stepOut.isSome = true := by
      simpa only [Option.isSome_iff_ne_none] using ho.results n
    have hroom : (s.nest n).stepOut ≠ none → s.lnk.eventQ.length ≤ Config.traceRoom := by
      intro hs
      have : ¬ Config.traceRoom < L := fun h => hno ⟨hsome (Option.isSome_iff_ne_none.mpr hs), h⟩
      omega
    obtain ⟨he, hline⟩ := offerStepResult_events hroom
    have ho1 := ho.trans (offerStepResult_offered s n).1
    have ho2 := ho1.trans (offerReady_offered (s.offerStepResult n) (.vrd n)).1
    have hev := offerReady_events (s.offerStepResult n) (.vrd n)
    have hjoin := offerReady_waitLine (s.offerStepResult n) (p := .vrd n) (by simp)
    rw [hline, he] at hev
    rw [hline] at hjoin
    rw [List.foldl_cons, List.foldl_cons, ← offerNest_quietly (.inr hroom)]
    rw [walkNest_count d hno] at hd
    rw [offerNest_eq]
    refine foldl_offerNest_of_noLoss o ns _ _ d hd ?_ (fun h => ?_) ho2
    · refine Nat.le_trans hev ?_
      have hlen : (if (s.nest n).stepOut.isSome = true then s.lnk.eventQ.length + 1 else s.lnk.eventQ.length) ≤
          if (o.nest n).stepOut.isSome = true then L + 1 else L := by
        split
        · rename_i h; rw [if_pos (hsome h)]; omega
        · split <;> omega
      have himp : (s.offerStepResult n).ready (.vrd n) = true ∧ s.lnk.waitLine = [] →
          o.ready (.vrd n) = true ∧ o.lnk.waitLine = [] := fun h => ⟨ho1.ready _ h.1, hw h.2⟩
      dsimp only
      generalize (if (s.nest n).stepOut.isSome = true then s.lnk.eventQ.length + 1 else s.lnk.eventQ.length) = a at *
      generalize (if (o.nest n).stepOut.isSome = true then L + 1 else L) = b at *
      split
      · rename_i h
        obtain ⟨h1, h2, h3⟩ := h
        obtain ⟨g1, g2⟩ := himp ⟨h1, h2⟩
        split
        · omega
        · rename_i hn
          have : ¬ b < Config.eventCap := fun hb => hn ⟨g1, g2, hb⟩
          omega
      · split <;> omega
    · rcases hjoin with e | e
      · exact hw (e ▸ h)
      · rw [e] at h; simp at h

/-- The offers of the nests: a STEP_RESULT without room among them has been dropped before (R13; log 8). -/
theorem foldl_offerNest_quietly (s : State) :
    allNests.foldl State.offerNest s.dropResults = allNests.foldl State.offerQuietly s.dropResults := by
  by_cases h : s.lostResults = []
  · have hd : s.dropResults = s := by rw [State.dropResults, h]; rfl
    rw [hd]
    exact foldl_offerNest_of_noLoss s allNests s _ [] h (Nat.le_refl _) id (.refl s)
  · apply foldl_offerNest_of_flag
    rw [State.dropResults, if_neg (by simpa [List.isEmpty_iff] using h)]
    exact setFlag_stands .traceLost

/-! ### The order of joining (R14) -/

/-- The place of a producer in R14's order. -/
def Producer.rank : Producer → Nat
  | .ntc => 0
  | .vrd n => 1 + n.val
  | .tbs k => 5 + k.val
  | .yld k => 13 + k.val

/-- The producers that join from s to t join in order, with ranks from a to below b. -/
def Joins (a b : Nat) (s t : State) : Prop :=
  ∃ joined, t.lnk.waitLine = s.lnk.waitLine ++ joined ∧ (joined.map Producer.rank).Pairwise (· < ·) ∧
    ∀ p ∈ joined, a ≤ p.rank ∧ p.rank < b

theorem joins_of_same {a b : Nat} (h : t.lnk.waitLine = s.lnk.waitLine) : Joins a b s t :=
  ⟨[], by rw [h, List.append_nil], by simp, by simp⟩

theorem joins_one {a b : Nat} {p : Producer} (h : t.lnk.waitLine = s.lnk.waitLine ++ [p]) (ha : a ≤ p.rank) (hb : p.rank < b) :
    Joins a b s t := ⟨[p], h, by simp, by simpa using ⟨ha, hb⟩⟩

theorem Joins.trans {a b c : Nat} (h : Joins a b s t) (g : Joins b c t u) (hab : a ≤ b) (hbc : b ≤ c) : Joins a c s u := by
  obtain ⟨j, h1, h2, h3⟩ := h
  obtain ⟨l, g1, g2, g3⟩ := g
  refine ⟨j ++ l, by rw [g1, h1, List.append_assoc], ?_, fun p hp => ?_⟩
  · rw [List.map_append, List.pairwise_append]
    refine ⟨h2, g2, fun x hx y hy => ?_⟩
    obtain ⟨p, hp, rfl⟩ := List.mem_map.mp hx
    obtain ⟨q, hq, rfl⟩ := List.mem_map.mp hy
    exact Nat.lt_of_lt_of_le (h3 p hp).2 (g3 q hq).1
  · rcases List.mem_append.mp hp with hp | hp
    · exact ⟨(h3 p hp).1, Nat.lt_of_lt_of_le (h3 p hp).2 hbc⟩
    · exact ⟨Nat.le_trans hab (g3 p hp).1, (g3 p hp).2⟩

theorem Asks.joins (h : Asks lossy s t) : Joins 0 1 s t := by
  rcases h.line with h | ⟨h, -⟩
  · exact joins_of_same h
  · exact joins_one h (Nat.le_refl 0) (by decide)

/-- A fold of joins in increasing rank. -/
theorem foldl_joins {α : Type} {f : State → α → State} {r : α → Nat} (hf : ∀ s x, Joins (r x) (r x + 1) s (f s x)) {b : Nat} :
    ∀ (l : List α) (a : Nat) (s : State), (l.map r).Pairwise (· < ·) → (∀ x ∈ l, a ≤ r x ∧ r x < b) → a ≤ b →
      Joins a b s (l.foldl f s)
  | [], _, _, _, _, _ => joins_of_same rfl
  | x :: l, a, s, hp, hr, _ => by
    obtain ⟨hx, hp⟩ := List.pairwise_cons.mp hp
    obtain ⟨ha, hb⟩ := hr x (.head _)
    have hrest := foldl_joins hf (b := b) l (r x + 1) (f s x) hp
      (fun y hy => ⟨hx (r y) (List.mem_map.mpr ⟨y, hy, rfl⟩), (hr y (.tail _ hy)).2⟩) hb
    obtain ⟨j, h1, h2, h3⟩ := hf s x
    have hfirst : Joins a (r x + 1) s (f s x) := ⟨j, h1, h2, fun p hp => ⟨Nat.le_trans ha (h3 p hp).1, (h3 p hp).2⟩⟩
    exact hfirst.trans hrest (by omega) hb

theorem offerReady_joins (s : State) {p : Producer} (hp : p ≠ .ntc) : Joins p.rank (p.rank + 1) s (s.offerReady p) := by
  rcases offerReady_waitLine s hp with h | h
  · exact joins_of_same h
  · exact joins_one h (Nat.le_refl _) (Nat.lt_succ_self _)

theorem offerQuietly_joins (s : State) (n : NestId) : Joins (1 + n.val) (1 + n.val + 1) s (s.offerQuietly n) := by
  rw [State.offerQuietly]
  generalize ht : (match (s.nest n).stepOut with
    | none => s
    | some e =>
      if s.lnk.eventQ.length ≤ Config.traceRoom then (s.modNest n fun x => { x with stepOut := none }).admitEvent e
      else s.discardResult n) = t
  have hl : t.lnk.waitLine = s.lnk.waitLine := by
    rw [← ht]
    (repeat' split) <;> rfl
  obtain ⟨j, h1, h2, h3⟩ := offerReady_joins t (p := .vrd n) (by simp)
  exact ⟨j, by rw [h1, hl], h2, h3⟩

theorem dropResults_asks (s : State) : Asks true s s.dropResults := by
  have hfold : ∀ (ns : List NestId) (s : State), Asks true s (ns.foldl State.discardResult s) :=
    foldl_asks fun s n => ⟨fun h => ⟨rfl, h⟩, .inl rfl, fun h => absurd h (by simp)⟩
  simp only [State.dropResults]
  split
  · exact .refl s
  · exact (hfold _ s).trans (setFlag_asks _ _)

/-- The producers that join at the close of an event join in R14's order. -/
theorem endEvent_joins (s : State) : Joins 0 21 s s.endEvent := by
  have h0 : Joins 0 1 s s.completeLots.dropResults :=
    ((completeLots_asks s : Asks true s s.completeLots).trans (dropResults_asks _)).joins
  rw [endEvent_eq, makeOffers_eq, foldl_offerNest_quietly]
  have h1 := foldl_joins offerQuietly_joins (b := 5) allNests 1 s.completeLots.dropResults (by decide) (by decide) (by decide)
  have h2 := foldl_joins (f := fun t k => t.offerReady (.tbs k)) (fun s k => offerReady_joins s (by simp)) (b := 13) allSlots 5
    (allNests.foldl State.offerQuietly s.completeLots.dropResults) (by decide) (by decide) (by decide)
  have h3 := foldl_joins (f := fun t k => t.offerReady (.yld k)) (fun s k => offerReady_joins s (by simp)) (b := 21) allSlots 13
    (allSlots.foldl (fun t k => t.offerReady (.tbs k)) (allNests.foldl State.offerQuietly s.completeLots.dropResults))
    (by decide) (by decide) (by decide)
  exact ((h0.trans h1 (by decide) (by decide)).trans h2 (by decide) (by decide)).trans h3 (by decide) (by decide)

end Sys2Proof.Machine
end

section
/-! PROOFS. The messages that a free event queue gains at the close of an event, in R14's order with their tags (R11, R13). -/

namespace Sys2Proof.Machine

variable {s t u : State}

/-- Messages as they are tagged from a sequence number on (R11). -/
def tagged (seq : BitVec 8) (es : List Event) : List Msg :=
  es.zipIdx.map fun p => ⟨p.1.kind, p.1.scope, seq + BitVec.ofNat 8 p.2, p.1.body⟩

/-- From s to t LNK admits these messages, in this order, and nobody joins the line. -/
structure Gains (s t : State) (es : List Event) : Prop where
  line : t.lnk.waitLine = s.lnk.waitLine
  seq : t.lnk.seq = s.lnk.seq + BitVec.ofNat 8 es.length
  events : t.lnk.eventQ = s.lnk.eventQ ++ tagged s.lnk.seq es

theorem tagged_nil (seq : BitVec 8) : tagged seq [] = [] := rfl

theorem tagged_append (seq : BitVec 8) (es fs : List Event) :
    tagged seq (es ++ fs) = tagged seq es ++ tagged (seq + BitVec.ofNat 8 es.length) fs := by
  simp only [tagged, List.zipIdx_append, List.map_append, List.append_cancel_left_eq]
  rw [Nat.zero_add, List.zipIdx_eq_map_add, List.map_map]
  refine List.map_congr_left fun p _ => ?_
  simp only [Function.comp_apply, BitVec.ofNat_add, BitVec.add_assoc]

theorem Gains.refl (s : State) : Gains s s [] := ⟨rfl, by simp, by simp [tagged_nil]⟩

theorem Gains.trans {es fs : List Event} (h : Gains s t es) (g : Gains t u fs) : Gains s u (es ++ fs) where
  line := g.line.trans h.line
  seq := by rw [g.seq, h.seq, List.length_append, BitVec.ofNat_add, BitVec.add_assoc]
  events := by rw [g.events, h.events, h.seq, tagged_append, List.append_assoc]

theorem gains_of_lnk (h : t.lnk = s.lnk) : Gains s t [] := ⟨by rw [h], by simp [h], by simp [h, tagged_nil]⟩

theorem Gains.length {es : List Event} (h : Gains s t es) : t.lnk.eventQ.length = s.lnk.eventQ.length + es.length := by
  rw [h.events, List.length_append, tagged, List.length_map, List.length_zipIdx]

theorem admitEvent_gains (s : State) (e : Event) : Gains s (s.admitEvent e) [e] := ⟨rfl, rfl, by simp [State.admitEvent, tagged]⟩

/-- A producer's admission sends the message it holds. -/
theorem admitProducer_gains {p : Producer} {e : Event} (h : s.held p = some e) : Gains s (s.admitProducer p) [e] := by
  have g := admitEvent_gains s e
  cases p with
  | ntc => exact absurd h (by simp [State.held])
  | vrd n =>
    simp only [State.held, Option.ite_none_right_eq_some] at h
    simp only [State.admitProducer, h.2]
    exact ⟨g.line, g.seq, g.events⟩
  | tbs k =>
    have h' : (s.slot k).refDone = some e := h
    simp only [State.admitProducer, h']
    exact ⟨g.line, g.seq, g.events⟩
  | yld k =>
    have h' : (s.lot k).bind (·.summary) = some e := h
    simp only [State.admitProducer, h']
    exact ⟨g.line, g.seq, g.events⟩

/-- With nobody waiting and a place free, an offer sends the message held, or there is none. -/
theorem offerReady_gains (p : Producer) (hw : s.lnk.waitLine = []) (hl : s.lnk.eventQ.length + (s.held p).toList.length ≤ 16) :
    Gains s (s.offerReady p) (s.held p).toList := by
  cases h : s.held p with
  | none =>
    have hr : s.ready p = false := by simp [State.ready, h]
    simp only [State.offerReady, hr]
    exact .refl s
  | some e =>
    have hr : s.ready p = true := by simp [State.ready, h, hw]
    rw [h] at hl
    have hc : (s.placeFree && s.lnk.waitLine.isEmpty) = true := by
      rw [hw, Bool.and_eq_true]
      exact ⟨decide_eq_true (by simp only [Option.toList_some, List.length_singleton] at hl; simp only [Config.eventCap]; omega), rfl⟩
    simp only [State.offerReady, hr, if_true, State.offer, hc]
    exact admitProducer_gains h

/-- An offer changes what its own producer holds and no other. -/
theorem held_offerReady {p q : Producer} (h : p ≠ q) : (s.offerReady p).held q = s.held q := by
  unfold State.offerReady State.offer
  split
  · rename_i hr
    split
    · rw [held_admitProducer s (ready_ne_ntc hr), if_neg h]
    · cases q <;> rfl
  · rfl

/-- A fold of offers by distinct producers, each with room. -/
theorem foldl_offerReady_gains {α : Type} (f : α → Producer) : ∀ (l : List α) (s : State), (l.map f).Nodup →
    s.lnk.waitLine = [] → s.lnk.eventQ.length + (l.flatMap fun x => (s.held (f x)).toList).length ≤ 16 →
    Gains s (l.foldl (fun t x => t.offerReady (f x)) s) (l.flatMap fun x => (s.held (f x)).toList) ∧
    ∀ q, q ∉ l.map f → (l.foldl (fun t x => t.offerReady (f x)) s).held q = s.held q
  | [], s, _, _, _ => ⟨.refl s, fun _ _ => rfl⟩
  | x :: l, s, hn, hw, hlen => by
    obtain ⟨hx, hn⟩ := List.nodup_cons.mp hn
    rw [List.flatMap_cons, List.length_append] at hlen
    have h1 := offerReady_gains (f x) hw (by omega)
    have hsame : (l.flatMap fun y => ((s.offerReady (f x)).held (f y)).toList) = l.flatMap fun y => (s.held (f y)).toList :=
      List.flatMap_congr fun y hy => by
        have hne : f x ≠ f y := fun e => hx (by rw [e]; exact List.mem_map_of_mem hy)
        rw [held_offerReady hne]
    obtain ⟨h2, h3⟩ := foldl_offerReady_gains f l (s.offerReady (f x)) hn (h1.line.trans hw) (by rw [hsame, h1.length]; omega)
    rw [hsame] at h2
    refine ⟨h1.trans h2, fun q hq => ?_⟩
    rw [List.map_cons, List.mem_cons, not_or] at hq
    rw [List.foldl_cons, h3 q hq.2, held_offerReady (Ne.symm hq.1)]

/-- The messages of a nest: its STEP_RESULT before its VERDICT. -/
def State.nestMessages (s : State) (n : NestId) : List Event := (s.nest n).stepOut.toList ++ (s.held (.vrd n)).toList

theorem offerStepResult_gains (n : NestId) (h : s.lnk.eventQ.length + (s.nest n).stepOut.toList.length ≤ 11) :
    Gains s (s.offerStepResult n) (s.nest n).stepOut.toList := by
  simp only [State.offerStepResult]
  cases hs : (s.nest n).stepOut with
  | none => exact .refl s
  | some e =>
    rw [hs] at h
    have hr : s.lnk.eventQ.length ≤ Config.traceRoom := by
      simp only [Option.toList_some, List.length_singleton] at h; simp only [Config.traceRoom]; omega
    simp only [hr, if_true]
    have g := admitEvent_gains s e
    exact ⟨g.line, g.seq, g.events⟩

/-- A STEP_RESULT's offer leaves what every producer holds, and the other nests' STEP_RESULTs. -/
theorem offerStepResult_held (s : State) (n : NestId) : (∀ q, (s.offerStepResult n).held q = s.held q) ∧
    ∀ m, n ≠ m → ((s.offerStepResult n).nest m).stepOut = (s.nest m).stepOut := by
  have hclear : ∀ q, (s.modNest n fun x => { x with stepOut := none }).held q = s.held q := by
    intro q
    cases q with
    | vrd m => by_cases h : n = m <;> simp [State.held, h]
    | ntc => rfl
    | _ => simp [State.held]
  simp only [State.offerStepResult]
  split
  · exact ⟨fun _ => rfl, fun _ _ => rfl⟩
  · split
    · refine ⟨fun q => (held_congr rfl rfl rfl q).trans (hclear q), fun m h => ?_⟩
      simp [h]
    · have hdiscard : ∀ q, (s.discardResult n).held q = s.held q := fun q => (held_congr rfl rfl rfl q).trans (hclear q)
      refine ⟨fun q => (held_congr (s := s.discardResult n) (by simp) (by simp) (by simp) q).trans (hdiscard q), fun m h => ?_⟩
      simp [State.discardResult, h]

theorem offerReady_stepOut (s : State) (p : Producer) (m : NestId) : ((s.offerReady p).nest m).stepOut = (s.nest m).stepOut := by
  unfold State.offerReady State.offer
  (repeat' split)
  · rcases nest_admitProducer s p m with ⟨h, -⟩ | ⟨-, -, h⟩ <;> rw [h]
    rfl
  · rfl
  · rfl

theorem offerNest_gains (n : NestId) (hw : s.lnk.waitLine = []) (h : s.lnk.eventQ.length + (s.nestMessages n).length ≤ 11) :
    Gains s (s.offerNest n) (s.nestMessages n) ∧ (∀ q, q ≠ .vrd n → (s.offerNest n).held q = s.held q) ∧
    ∀ m, n ≠ m → ((s.offerNest n).nest m).stepOut = (s.nest m).stepOut := by
  rw [State.nestMessages, List.length_append] at h
  obtain ⟨hh, hs⟩ := offerStepResult_held s n
  have h1 := offerStepResult_gains (s := s) n (by omega)
  have h2 := offerReady_gains (s := s.offerStepResult n) (.vrd n) (h1.line.trans hw) (by rw [h1.length, hh]; omega)
  rw [hh] at h2
  rw [offerNest_eq]
  refine ⟨h1.trans h2, fun q hq => by rw [held_offerReady (Ne.symm hq), hh], fun m hm => by rw [offerReady_stepOut, hs m hm]⟩

theorem foldl_offerNest_gains : ∀ (l : List NestId) (s : State), l.Nodup → s.lnk.waitLine = [] →
    s.lnk.eventQ.length + (l.flatMap s.nestMessages).length ≤ 11 →
    Gains s (l.foldl State.offerNest s) (l.flatMap s.nestMessages) ∧
    ∀ q, (∀ n ∈ l, q ≠ .vrd n) → (l.foldl State.offerNest s).held q = s.held q
  | [], s, _, _, _ => ⟨.refl s, fun _ _ => rfl⟩
  | n :: l, s, hn, hw, hlen => by
    obtain ⟨hx, hn⟩ := List.nodup_cons.mp hn
    rw [List.flatMap_cons, List.length_append] at hlen
    obtain ⟨h1, hh, hs⟩ := offerNest_gains (s := s) n hw (by omega)
    have hsame : l.flatMap (s.offerNest n).nestMessages = l.flatMap s.nestMessages := List.flatMap_congr fun m hm => by
      have hne : n ≠ m := fun e => hx (e ▸ hm)
      rw [State.nestMessages, State.nestMessages, hs m hne, hh (.vrd m) (by simpa using hne.symm)]
    obtain ⟨h2, h3⟩ := foldl_offerNest_gains l (s.offerNest n) hn (h1.line.trans hw) (by rw [hsame, h1.length]; omega)
    rw [hsame] at h2
    exact ⟨h1.trans h2, fun q hq => (h3 q fun m hm => hq m (.tail _ hm)).trans (hh q (hq n (.head _)))⟩

/-- The walk finds no loss where all the nests' messages fit in 11. -/
theorem walk_room (s : State) : ∀ (l : List NestId) (L : Nat) (d : List NestId), L + (l.flatMap s.nestMessages).length ≤ 11 →
    (l.foldl s.walkNest (L, d)).2 = d
  | [], _, _, _ => rfl
  | n :: l, L, d, h => by
    rw [List.flatMap_cons, List.length_append, State.nestMessages, List.length_append] at h
    have hno : ¬ ((s.nest n).stepOut.isSome = true ∧ Config.traceRoom < L) := by
      rintro ⟨h1, h2⟩
      obtain ⟨e, he⟩ := Option.isSome_iff_exists.mp h1
      simp only [he, Option.toList_some, List.length_singleton, Config.traceRoom] at h h2
      omega
    rw [List.foldl_cons, walkNest_count d hno]
    refine walk_room s l _ d ?_
    have hstep : (if (s.nest n).stepOut.isSome = true then L + 1 else L) = L + (s.nest n).stepOut.toList.length := by
      cases (s.nest n).stepOut <;> simp
    dsimp only
    rw [hstep]
    split
    · rename_i hr
      have := (ready_iff.mp hr.1).1
      obtain ⟨e, he⟩ := Option.ne_none_iff_exists'.mp this
      rw [he, Option.toList_some, List.length_singleton] at h
      omega
    · omega

/-- The messages that an event offers, in R14's order. -/
def State.messages (s : State) : List Event :=
  allNests.flatMap s.nestMessages ++ (allSlots.flatMap fun k => (s.held (.tbs k)).toList) ++
    allSlots.flatMap fun k => (s.held (.yld k)).toList

/-- With nobody waiting, no lot due and room for all, the event queue gains the messages offered. -/
theorem endEvent_gains (hw : s.lnk.waitLine = []) (hd : ∀ k, s.lotDue k = false)
    (hl : s.lnk.eventQ.length + s.messages.length ≤ 11) : Gains s s.endEvent s.messages := by
  rw [State.messages, List.length_append, List.length_append] at hl
  have hdrop : s.dropResults = s := by
    have : s.lostResults = [] := walk_room s allNests _ [] (by omega)
    rw [State.dropResults, this]
    rfl
  rw [endEvent_eq, completeLots_of_notDue hd, makeOffers_eq, hdrop]
  obtain ⟨h1, g1⟩ := foldl_offerNest_gains allNests s (by decide) hw (by omega)
  generalize allNests.foldl State.offerNest s = a at *
  have ha : ∀ k, a.held (.tbs k) = s.held (.tbs k) := fun k => g1 _ (by simp)
  have hb : ∀ k, a.held (.yld k) = s.held (.yld k) := fun k => g1 _ (by simp)
  obtain ⟨h2, g2⟩ := foldl_offerReady_gains Producer.tbs allSlots a (by decide) (h1.line.trans hw) (by
    simp only [ha, h1.length]; omega)
  generalize allSlots.foldl (fun t k => t.offerReady (.tbs k)) a = b at *
  have hc : ∀ k, b.held (.yld k) = s.held (.yld k) := fun k => (g2 _ (by simp)).trans (hb k)
  obtain ⟨h3, -⟩ := foldl_offerReady_gains Producer.yld allSlots b (by decide) ((h2.line.trans h1.line).trans hw) (by
    simp only [hc, h2.length, h1.length, ha]; omega)
  simp only [ha] at h2
  simp only [hc] at h3
  exact (h1.trans h2).trans h3

/-- Where nothing is left to do the offers change nothing. -/
theorem foldl_offerReady_of_notReady {α : Type} (f : α → Producer) (h : ∀ x, s.ready (f x) = false) :
    ∀ l : List α, l.foldl (fun t x => t.offerReady (f x)) s = s
  | [] => rfl
  | x :: l => by
    have hx : s.offerReady (f x) = s := by simp [State.offerReady, h x]
    rw [List.foldl_cons, hx, foldl_offerReady_of_notReady f h l]

theorem endEvent_of_settled (h : s.Settled) : s.endEvent = s := by
  obtain ⟨hd, hs, hv, hr, hy⟩ := h
  rw [endEvent_eq, completeLots_of_notDue hd, makeOffers_eq, dropResults_none s hs, foldl_offerNest_of_none _ s hs,
    foldl_offerReady_of_notReady Producer.vrd (fun n => (verdictReady_eq s n).symm.trans (hv n)),
    foldl_offerReady_of_notReady Producer.tbs hr, foldl_offerReady_of_notReady Producer.yld hy]

/-- The close after the lots that are due have completed is the same close. -/
theorem completeLots_endEvent (s : State) : s.completeLots.endEvent = s.endEvent := by
  rw [endEvent_eq, endEvent_eq, completeLots_of_notDue (completeLots_lotDue s)]

theorem endEvent_full {lost : Nat} (h : 10 < s.lnk.eventQ.length)
    (hl : lost = (allNests.filter fun n => (s.nest n).stepOut.isSome).length) (h0 : lost ≠ 0) :
    s.endEvent.lnk.traceLost = min (s.lnk.traceLost + lost) 65535 ∧ s.endEvent.ntc.flags.getLsbD 7 = true := by
  obtain ⟨more, hmore⟩ := (completeLots_reports (.refl s)).events
  have hsame : (allNests.filter fun n => (s.completeLots.nest n).stepOut.isSome) = allNests.filter fun n => (s.nest n).stepOut.isSome :=
    List.filter_congr fun n _ => by rw [nest_congr (completeLots_frame s).2.2.2.2.1]
  have hfull := makeOffers_full (s := s.completeLots) (by rw [hmore, List.length_append]; exact Nat.lt_add_right _ h)
    (by rw [hsame, ← hl]; exact h0)
  rw [← endEvent_eq, hsame, ← hl, (completeLots_asks (lossy := false) s).lost rfl] at hfull
  exact hfull

/-- The messages offered, as the nests, slots and lots hold them. -/
theorem messages_eq (s : State) : s.messages =
    (allNests.flatMap fun n => (s.nest n).stepOut.toList ++
      (if (s.nest n).phase = .reporting then (s.nest n).verdictOut.toList else [])) ++
    (allSlots.flatMap fun k => (s.slot k).refDone.toList) ++
    (allSlots.flatMap fun k => ((s.lot k).bind (·.summary)).toList) := by
  have h : ∀ n, s.nestMessages n = (s.nest n).stepOut.toList ++
      (if (s.nest n).phase = .reporting then (s.nest n).verdictOut.toList else []) := fun n => by
    simp only [State.nestMessages, State.held]
    split <;> simp
  rw [State.messages, show s.nestMessages = _ from funext h]
  rfl

/-- Settles O55: the lots that complete, what the close leaves, the STEP_RESULTs, the order of joining, the messages gained. -/
theorem endOfEvent : Obligations.EndOfEvent := by
  refine ⟨fun s hs => endEvent_of_settled hs, fun s => ⟨(completeLots_endEvent s).symm, completeLots_lotDue s, endEvent_lotDue s⟩,
    fun s => ?_, fun s n e he => ⟨fun hl => ?_, fun hl => ?_⟩, fun s => ⟨fun n => ?_, fun h lost hl h0 => endEvent_full h hl h0, ?_, ?_⟩⟩
  · obtain ⟨hl, hb, hp, ha, hm, hq⟩ := endEvent_frame s
    obtain ⟨-, -, -, -, -, -, -, -, -, hr, -⟩ := Link.still_fields hl
    refine ⟨hp, hb, ha, hm, hr, hq, fun n => ?_, fun k => endEvent_slot s k, fun n => ?_⟩
    · have hseat : (s.endEvent.nest n).seat = (s.nest n).seat := by
        rcases endEvent_nest s n with h | ⟨-, -, h⟩ <;> rw [h]
        rfl
      obtain ⟨h1, h2, h3, h4, h5⟩ := endEvent_rests s n
      exact ⟨h3, h1, h2, h4, hseat, h5⟩
    · exact (endEvent_nest s n).imp_right fun ⟨h1, h2, h3⟩ => ⟨h1, Option.isSome_iff_ne_none.mpr h2, h3⟩
  · have hr : s.lnk.eventQ.length ≤ Config.traceRoom := hl
    simp only [State.offerStepResult, he, if_pos hr]
    rfl
  · have hr : ¬ s.lnk.eventQ.length ≤ Config.traceRoom := Nat.not_le.mpr hl
    simp only [State.offerStepResult, he, if_neg hr]
    rfl
  · exact makeOffers_stepOut s.completeLots n
  · intro rank
    obtain ⟨j, h1, h2, -⟩ := endEvent_joins s
    have hrank : rank = Producer.rank := funext fun p => by cases p <;> rfl
    exact ⟨j, h1, by rw [hrank]; exact h2⟩
  · intro offered hw hd hl
    have he : s.messages = offered := messages_eq s
    rw [← he] at hl ⊢
    have hg := endEvent_gains hw hd hl
    exact ⟨hg.line.trans hw, hg.seq, hg.events⟩

end Sys2Proof.Machine
end

section
/-! PROOFS. A run end's effect on the nests (R73, R118), and entering LOST (R4, R59, R77). -/

namespace Sys2Proof.Machine

variable {s t u : State}

/-! ### Capture bound -/

/-- The nest stands as it stood but for capture bound, and that falls only in ARMED or RUNNING (R118). -/
structure Nest.Unbound (x y : Nest) : Prop where
  same : y.SameButBound x
  inactive : x.phase.active = false → y = x

theorem Nest.Unbound.refl (x : Nest) : x.Unbound x := ⟨.refl x, fun _ => rfl⟩

theorem Nest.Unbound.phase {x y : Nest} (h : x.Unbound y) : y.phase = x.phase := h.same.fields.2.2.1

theorem Nest.Unbound.trans {x y z : Nest} (h : x.Unbound y) (g : y.Unbound z) : x.Unbound z :=
  ⟨g.same.trans h.same, fun hx => (g.inactive (by rw [h.phase, hx])).trans (h.inactive hx)⟩

theorem clearBound_unbound (x : Nest) (k : SlotId) : x.Unbound (x.clearBound k) := by
  refine ⟨clearBound_same x k, fun h => ?_⟩
  simp [Nest.clearBound, h]

/-- From s to t every nest stands but for capture bound. -/
def Unbinds (s t : State) : Prop := ∀ n, (s.nest n).Unbound (t.nest n)

theorem Unbinds.trans (h : Unbinds s t) (g : Unbinds t u) : Unbinds s u := fun n => (h n).trans (g n)

theorem unbinds_of_nests (h : ∀ n, t.nest n = s.nest n) : Unbinds s t := fun n => by rw [h]; exact .refl _

theorem clearBounds_unbinds (s : State) (k : SlotId) : Unbinds s (s.clearBounds k) := fun n => by
  rw [nest_clearBounds]; exact clearBound_unbound _ k

theorem cancelCapture_unbinds (s : State) (k : SlotId) (o : RefOutcome) : Unbinds s (s.cancelCapture k o) := by
  simp only [State.cancelCapture]
  split
  · exact fun n => .refl _
  all_goals
    intro n
    simpa [State.produceRefDone] using clearBound_unbound (s.nest n) k

theorem swap_unbinds (s : State) (k : SlotId) : Unbinds s (s.swap k) := by
  simp only [State.swap]
  (repeat' split)
  · exact fun n => .refl _
  · exact fun n => .refl _
  · intro n
    simpa using cancelCapture_unbinds ((s.modSlot k _).setBuffer _ none) k .planSwap n
  · intro n
    simpa using Nest.Unbound.refl (s.nest n)

theorem releaseSlot_unbinds (s : State) (k : SlotId) : Unbinds s (s.releaseSlot k) := by
  intro n
  simp only [State.releaseSlot, State.deferredSwap, promote_nest]
  split
  · exact swap_unbinds s k n
  · exact .refl _

theorem depart_unbinds (s : State) (k : SlotId) : Unbinds s (s.depart k) := by
  intro n
  have := releaseSlot_unbinds (s.modSlot k fun x => { x with occupancy := x.occupancy - 1 }) k n
  rwa [nest_congr (t := s.modSlot k _) (s := s) rfl] at this

theorem addToCapture_unbinds (s : State) (k : SlotId) (values : List Level) : Unbinds s (s.addToCapture k values) := by
  intro n
  simp only [State.addToCapture]
  (repeat' split)
  · simpa using Nest.Unbound.refl (s.nest n)
  · simpa using clearBound_unbound (s.nest n) k
  · exact .refl _

theorem offerCapture_unbinds (s : State) (r : Run) : Unbinds s (s.offerCapture r) := by
  intro n
  simp only [State.offerCapture]
  (repeat' split)
  · exact addToCapture_unbinds s _ _ n
  · exact .refl _
  · exact .refl _

/-! ### A run end (R73) -/

theorem endRecords_nest (s : State) (n : NestId) (cause : EndCause) (m : NestId) :
    (s.endRecords n cause).nest m = if n = m then { s.nest n with run := s.endedRun n cause } else s.nest m := by
  have h : (s.endRecords n cause).nest m = (s.markEnd n cause).nest m := by
    simp only [State.endRecords]
    split <;> simp
  rw [h]
  split
  · rename_i hm; rw [← hm, nest_markEnd]
  · rename_i hm; simp [State.markEnd, hm]

/-- The other nests at a run end. -/
theorem endRun_nest_other (s : State) {n m : NestId} (h : n ≠ m) (cause : EndCause) :
    (s.nest m).Unbound ((s.endRun n cause).nest m) := by
  have h1 := offerCapture_unbinds (s.endRecords n cause) (s.endedRun n cause) m
  rw [endRecords_nest, if_neg h] at h1
  rw [endRun_eq]
  have h2 := depart_unbinds (((s.endRecords n cause).offerCapture (s.endedRun n cause)).modNest n
    (Nest.leave (s.endEngine n cause) (s.endMessage n cause))) (s.nest n).run.slot m
  rw [nest_modNest, if_neg h] at h2
  exact h1.trans h2

theorem leave_inactive (e : Engine) (m : Event) (x : Nest) : (Nest.leave e m x).phase.active = false := by
  rw [Nest.leave]
  by_cases h : e.mode = .silent <;> simp [h, Phase.active]

/-- The nest whose run ends: it leaves, its run with end cause and end step, as it stood but for capture bound. -/
theorem endRun_nest_self (s : State) (n : NestId) (cause : EndCause) : ∃ x : Nest,
    x.SameButBound { s.nest n with run := s.endedRun n cause } ∧
    (s.endRun n cause).nest n = Nest.leave (s.endEngine n cause) (s.endMessage n cause) x := by
  have h1 := offerCapture_unbinds (s.endRecords n cause) (s.endedRun n cause) n
  rw [endRecords_nest, if_pos rfl] at h1
  refine ⟨_, h1.same, ?_⟩
  rw [endRun_eq]
  have h2 := depart_unbinds (((s.endRecords n cause).offerCapture (s.endedRun n cause)).modNest n
    (Nest.leave (s.endEngine n cause) (s.endMessage n cause))) (s.nest n).run.slot n
  rw [nest_modNest, if_pos rfl] at h2
  exact h2.inactive (leave_inactive _ _ _)

/-! ### Entering LOST (R4, R77) -/

theorem loseNest_eq (s : State) (n : NestId) : s.loseNest n =
    if (s.nest n).phase = .armed ∨ (s.nest n).phase = .running then s.endRun n (.aborted .headLoss)
    else if (s.nest n).phase = .closing then s.setNest n { s.nest n with
      phase := .reporting, engine := { (s.nest n).engine with mode := .silent, lobe := .ended } }
    else s := by
  rw [State.loseNest]
  cases (s.nest n).phase with
  | idle | reporting => simp
  | armed | running => simp
  | closing => exact (if_neg (by simp)).symm

/-- A nest before and after the head loss. -/
structure Nest.Lost (x y : Nest) : Prop where
  phase : y.phase = if x.phase = .idle then .idle else .reporting
  engine : x.phase ≠ .idle → x.phase ≠ .reporting → y.engine.mode = .silent
  ended : x.phase = .armed ∨ x.phase = .running → y.verdictOut.isSome = true ∧
    { y.run with bound := false } = { x.run with
      bound := false, endCause := .aborted .headLoss, endStep := if x.phase = .armed then 255 else x.engine.step }
  kept : ¬ (x.phase = .armed ∨ x.phase = .running) → y.run = x.run

theorem SameButBound.unboundRun {x y : Nest} (h : x.SameButBound y) : { x.run with bound := false } = { y.run with bound := false } := by
  have := h.fields.2.2.2.1
  exact congrArg (fun r : Run => { r with bound := false }) this

theorem active_iff (p : Phase) : p.active = true ↔ p = .armed ∨ p = .running := by
  simp [Phase.active]

theorem loseNest_self (s : State) (n : NestId) : (s.nest n).Lost ((s.loseNest n).nest n) := by
  rw [loseNest_eq]
  by_cases ha : (s.nest n).phase = .armed ∨ (s.nest n).phase = .running
  · obtain ⟨x, hx, he⟩ := endRun_nest_self s n (.aborted .headLoss)
    rw [if_pos ha, he]
    have hi : (s.nest n).phase ≠ .idle := by rcases ha with h | h <;> simp [h]
    refine ⟨by rw [if_neg hi]; rfl, fun _ _ => rfl, fun _ => ⟨rfl, SameButBound.unboundRun hx⟩, fun h => absurd ha h⟩
  · rw [if_neg ha]
    by_cases hc : (s.nest n).phase = .closing
    · rw [if_pos hc, nest_setNest, if_pos rfl]
      exact ⟨by simp [hc], fun _ _ => rfl, fun h => absurd h ha, fun _ => rfl⟩
    · rw [if_neg hc]
      refine ⟨?_, fun h1 h2 => ?_, fun h => absurd h ha, fun _ => rfl⟩
      · cases h : (s.nest n).phase <;> simp_all
      · cases h : (s.nest n).phase <;> simp_all

theorem loseNest_other (s : State) {n m : NestId} (h : n ≠ m) : (s.nest m).Unbound ((s.loseNest n).nest m) := by
  rw [loseNest_eq]
  (repeat' split)
  · exact endRun_nest_other s h _
  · rw [nest_setNest, if_neg h]; exact .refl _
  · exact .refl _

theorem Nest.Lost.of_unbound {x x' y : Nest} (h : x.Unbound x') (g : x'.Lost y) : x.Lost y := by
  obtain ⟨-, -, hp, -, -, -, he, -⟩ := h.same.fields
  obtain ⟨g1, g2, g3, g4⟩ := g
  rw [hp] at g1 g2 g3 g4
  refine ⟨g1, g2, fun ha => ⟨(g3 ha).1, ?_⟩, fun hn => ?_⟩
  · have hr := congrArg (fun r : Run => { r with
      endCause := .aborted .headLoss, endStep := if x.phase = Phase.armed then 255 else x.engine.step }) (SameButBound.unboundRun h.same)
    rw [(g3 ha).2, he]
    exact hr
  · have : x.phase.active = false := by rw [← Bool.not_eq_true, active_iff]; exact hn
    rw [g4 hn, h.inactive this]

theorem Nest.Lost.unbound {x y z : Nest} (h : x.Lost y) (g : y.Unbound z) : x.Lost z := by
  have hy : y.phase.active = false := by
    rw [h.phase]
    split <;> rfl
  rw [g.inactive hy]
  exact h

theorem foldl_loseNest : ∀ (ns : List NestId) (s : State) (n : NestId), ns.Nodup →
    (n ∈ ns → (s.nest n).Lost ((ns.foldl State.loseNest s).nest n)) ∧
    (n ∉ ns → (s.nest n).Unbound ((ns.foldl State.loseNest s).nest n))
  | [], s, n, _ => ⟨fun h => absurd h List.not_mem_nil, fun _ => .refl _⟩
  | m :: ns, s, n, hd => by
    obtain ⟨hm, hd⟩ := List.nodup_cons.mp hd
    obtain ⟨ih1, ih2⟩ := foldl_loseNest ns (s.loseNest m) n hd
    refine ⟨fun h => ?_, fun h => ?_⟩
    · by_cases hn : m = n
      · subst hn
        exact (loseNest_self s m).unbound (ih2 hm)
      · exact (ih1 ((List.mem_cons.mp h).resolve_left (Ne.symm hn))).of_unbound (loseNest_other s hn)
    · rw [List.mem_cons, not_or] at h
      exact (loseNest_other s (Ne.symm h.1)).trans (ih2 h.2)

/-- The nests after the head loss. -/
theorem loseHead_nest (s : State) (n : NestId) : (s.nest n).Lost (s.loseHead.nest n) := by
  have h := (foldl_loseNest allNests ((s.modLnk Link.lose).setFlag .headLoss) n (by decide)).1 (mem_allNests n)
  have hn : ((s.modLnk Link.lose).setFlag .headLoss).nest n = s.nest n := by simp
  rw [hn] at h
  exact h

theorem loseHead_reports (s : State) : Reports (s.modLnk Link.lose) s.loseHead :=
  foldl_reports (fun h n => loseNest_reports h n) allNests (setFlag_reports (.refl _) _)

theorem loseHead_endEvent_reports (s : State) : Reports (s.modLnk Link.lose) s.loseHead.endEvent :=
  endEvent_reports (loseHead_reports s)

theorem loseNest_frame (s : State) (n : NestId) : (s.loseNest n).prot = s.prot ∧ (s.loseNest n).amb = s.amb := by
  rw [loseNest_eq]
  (repeat' split) <;> simp

/-- Protection and the monitor stay at a head loss. -/
theorem loseHead_frame (s : State) : s.loseHead.prot = s.prot ∧ s.loseHead.amb = s.amb :=
  foldl_keeps (P := fun t => t.prot = s.prot ∧ t.amb = s.amb)
    (fun u n hu => by rw [(loseNest_frame u n).1, (loseNest_frame u n).2]; exact hu) allNests _ (by simp)

theorem loseHead_eq (s : State) : s.loseHead = allNests.foldl (fun w n =>
    if (w.nest n).phase = .armed ∨ (w.nest n).phase = .running then w.endRun n (.aborted .headLoss)
    else if (w.nest n).phase = .closing then w.setNest n { w.nest n with
      phase := .reporting, engine := { (w.nest n).engine with mode := .silent, lobe := .ended } }
    else w) (State.setFlag { s with lnk := s.lnk.lose } .headLoss) :=
  congrArg (fun f => allNests.foldl f ((s.modLnk Link.lose).setFlag .headLoss))
    (funext fun w => funext fun n => loseNest_eq w n)

/-- The flag HEAD_LOSS stands after the head loss. -/
theorem loseHead_flag (s : State) : s.loseHead.endEvent.ntc.flags.getLsbD 1 = true := by
  have hf : ((s.modLnk Link.lose).setFlag .headLoss).ntc.flags.getLsbD 1 = true := setFlag_stands .headLoss
  have hr : Reports ((s.modLnk Link.lose).setFlag .headLoss) s.loseHead :=
    foldl_reports (fun h n => loseNest_reports h n) allNests (.refl _)
  exact (endEvent_reports hr).flags 1 hf

theorem exec_headLoss {s : State} (h : s.lnk.presence = .present) : exec .headLoss s = .next s.loseHead.endEvent := by
  change (if s.lnk.presence == .present then Host.Outcome.next s.loseHead.endEvent else .next s) = _
  rw [h]
  rfl

/-- A nest that lost its head, after the close. -/
theorem Nest.Lost.rests {x y z : Nest} (h : x.Lost y) (g : y.Rests z) : z.phase = .idle ∨ z.phase = .reporting := by
  obtain ⟨-, -, -, -, g⟩ := g
  rcases g with hp | hp
  · rw [hp, h.phase]
    split
    · exact .inl rfl
    · exact .inr rfl
  · exact .inl hp

/-- Settles O51: the nests' own facts hold as each is reached (`foldl_loseNest`), and the close keeps them. -/
theorem headLossEntered : Obligations.HeadLossEntered := by
  unfold Obligations.HeadLossEntered
  intro s hp
  obtain ⟨hx, hpr, -, hst, hal, hah, -, -, ha, hr, htx, -⟩ := Link.still_fields (loseHead_endEvent_reports s).still
  obtain ⟨hprot, hamb⟩ := loseHead_frame s
  refine ⟨s.loseHead.endEvent, exec_headLoss hp, hpr, hx, hst, ha, hr, htx, hal, hah, loseHead_flag s,
    by simp [hprot], by simp [hamb], fun n => (loseHead_nest s n).rests (endEvent_rests _ n), fun n h1 h2 => ?_,
    congrArg State.endEvent (loseHead_eq s), fun n => ?_⟩
  · obtain ⟨heng, -⟩ := endEvent_rests s.loseHead n
    rw [heng]
    exact (loseHead_nest s n).engine h1 h2
  · obtain ⟨-, -, hrun, -⟩ := endEvent_rests s.loseHead n
    rw [hrun]
    have hl := loseHead_nest s n
    have he : s.loseHead.nest n = _ := congrArg (fun t => State.nest t n) (loseHead_eq s)
    refine ⟨fun h => ?_, hl.kept⟩
    have hi : (s.nest n).phase ≠ .idle := by rcases h with h | h <;> simp [h]
    obtain ⟨hv, hrun⟩ := hl.ended h
    have hph := hl.phase
    rw [if_neg hi] at hph
    rw [he] at hv hph
    exact ⟨hph, hv, hrun⟩

end Sys2Proof.Machine
end

section
/-! PROOFS. What a run end leaves (R58, R73, R134): the records do not read the nests, the capture's part reads slots and
buffers alone, and the VERDICT's fields. -/

namespace Sys2Proof.Machine

variable {s t u : State}

/-! ### The records of a verdict do not read the nests -/

/-- The state with other nests. -/
def State.withNests (s : State) (ns : Vector Nest 4) : State := { s with nests := ns }

theorem withNests_self (s : State) : s.withNests s.nests = s := rfl

section withNests

variable (s : State) (ns : Vector Nest 4)

@[simp] theorem withNests_frame :
    (s.withNests ns).lnk = s.lnk ∧ (s.withNests ns).slots = s.slots ∧ (s.withNests ns).amb = s.amb ∧
      (s.withNests ns).retest = s.retest ∧ (s.withNests ns).mrk = s.mrk ∧ (s.withNests ns).lots = s.lots ∧
      (s.withNests ns).ntc = s.ntc ∧ (s.withNests ns).placeFree = s.placeFree ∧
      (∀ k, (s.withNests ns).slot k = s.slot k) ∧ (∀ k, (s.withNests ns).lot k = s.lot k) ∧
      ∀ id, (s.withNests ns).lotSlot id = s.lotSlot id :=
  ⟨rfl, rfl, rfl, rfl, rfl, rfl, rfl, rfl, fun _ => rfl, fun _ => rfl, fun _ => rfl⟩

theorem mods_withNests :
    (∀ f, (s.withNests ns).modNtc f = (s.modNtc f).withNests ns) ∧
      (∀ f, (s.withNests ns).modMrk f = (s.modMrk f).withNests ns) ∧
      ∀ k f, (s.withNests ns).modLot k f = (s.modLot k f).withNests ns :=
  ⟨fun _ => rfl, fun _ => rfl, fun _ _ => rfl⟩

theorem askNotice_withNests : (s.withNests ns).askNotice = s.askNotice.withNests ns := by
  simp only [State.askNotice, withNests_frame]
  (repeat' split) <;> rfl

theorem setFlag_withNests (f : Flag) : (s.withNests ns).setFlag f = (s.setFlag f).withNests ns := by
  simp only [State.setFlag, State.notifyRising, mods_withNests, withNests_frame, askNotice_withNests]
  (repeat' split) <;> rfl

theorem evaluateAlarm_withNests (k : SlotId) : (s.withNests ns).evaluateAlarm k = (s.evaluateAlarm k).withNests ns := by
  simp only [State.evaluateAlarm, mods_withNests, withNests_frame, setFlag_withNests]
  (repeat' split) <;> rfl

theorem finalCount_withNests (k : SlotId) (pass : Bool) (c : ClassSet) :
    (s.withNests ns).finalCount k pass c = (s.finalCount k pass c).withNests ns := by
  simp only [State.finalCount, mods_withNests, evaluateAlarm_withNests]

theorem reportGivenUp_withNests (e : RetestEntry) :
    (s.withNests ns).reportGivenUp e = (s.reportGivenUp e).withNests ns := by
  simp only [State.reportGivenUp, mods_withNests, withNests_frame, finalCount_withNests]
  split <;> rfl

theorem reportVerdict_withNests (v : VerdictKind) (id : Word) :
    (s.withNests ns).reportVerdict v id = (s.reportVerdict v id).withNests ns := by
  simp only [State.reportVerdict, withNests_frame]
  split <;> rfl

theorem reportResolution_withNests (r : Label) (marked : Bool) :
    (s.withNests ns).reportResolution r marked = (s.reportResolution r marked).withNests ns := by
  simp only [State.reportResolution, mods_withNests, withNests_frame, finalCount_withNests]
  (repeat' split) <;> rfl

theorem resolveLabel_withNests (i : Nat) (marked fault : Bool) :
    (s.withNests ns).resolveLabel i marked fault = (s.resolveLabel i marked fault).withNests ns := by
  simp only [State.resolveLabel, mods_withNests, withNests_frame, reportResolution_withNests, setFlag_withNests]
  (repeat' split) <;> rfl

theorem createLabel_withNests (r : Label) : (s.withNests ns).createLabel r = (s.createLabel r).withNests ns := by
  have room : (s.withNests ns).makeRoom = s.makeRoom.withNests ns := by
    simp only [State.makeRoom, withNests_frame, resolveLabel_withNests]
    (repeat' split) <;> rfl
  rw [State.createLabel, room]
  rfl

theorem addRetest_withNests (r : Run) (c : ClassSet) : (s.withNests ns).addRetest r c = (s.addRetest r c).withNests ns := by
  have evict : (s.withNests ns).evictRetest = s.evictRetest.withNests ns := by
    have give (rest : List RetestEntry) (e : RetestEntry) :
        (State.reportGivenUp { s.withNests ns with retest := rest } e).setFlag .retestEvict =
          ((State.reportGivenUp { s with retest := rest } e).setFlag .retestEvict).withNests ns := by
      rw [← setFlag_withNests, ← reportGivenUp_withNests { s with retest := rest } ns e]
      rfl
    have list : (s.withNests ns).retest = s.retest := rfl
    simp only [State.evictRetest]
    rw [list]
    (repeat' split)
    · exact give _ _
    · rfl
    · rfl
  rw [State.addRetest, evict]
  rfl

theorem recordVerdict_withNests (n : NestId) (r : Run) (v : VerdictKind) (c : ClassSet) (g : LabelField) :
    (s.withNests ns).recordVerdict n r v c g = (s.recordVerdict n r v c g).withNests ns := by
  have entry : (if v == .retest then (s.withNests ns).addRetest r c else s.withNests ns) =
      (if v == .retest then s.addRetest r c else s).withNests ns := by
    rw [addRetest_withNests]
    split <;> rfl
  simp only [State.recordVerdict, entry, reportVerdict_withNests, createLabel_withNests]
  split <;> rfl

end withNests

/-! ### Slots and buffers -/

/-- The two states have the same slots and session buffers. -/
def SameTbs (s t : State) : Prop := s.slots = t.slots ∧ s.buffers = t.buffers

namespace SameTbs

theorem slot (h : SameTbs s t) (k : SlotId) : s.slot k = t.slot k := slot_congr h.1 k

theorem modSlot (h : SameTbs s t) (k : SlotId) (f : Slot → Slot) : SameTbs (s.modSlot k f) (t.modSlot k f) := by
  refine ⟨?_, h.2⟩
  simp only [State.modSlot, State.setSlot]
  rw [h.1, h.slot]

theorem produceRefDone (h : SameTbs s t) (k : SlotId) (o : RefOutcome) (n c : Nat) :
    SameTbs (s.produceRefDone k o n c) (t.produceRefDone k o n c) := h.modSlot k _

theorem clearBounds (h : SameTbs s t) (k : SlotId) : SameTbs (s.clearBounds k) (t.clearBounds k) :=
  ⟨by simpa using h.1, by simpa using h.2⟩

theorem cancelCapture (h : SameTbs s t) (k : SlotId) (o : RefOutcome) :
    SameTbs (s.cancelCapture k o) (t.cancelCapture k o) := by
  simp only [State.cancelCapture, h.slot]
  split
  · exact h
  · exact ((h.modSlot k _).clearBounds k).produceRefDone k _ _ _
  · exact ((h.modSlot k _).clearBounds k).produceRefDone k _ _ _

theorem addToCapture (h : SameTbs s t) (k : SlotId) (vs : List Level) :
    SameTbs (s.addToCapture k vs) (t.addToCapture k vs) := by
  simp only [State.addToCapture, h.slot]
  split
  · split
    · exact h.modSlot k _
    · exact (h.modSlot k _).clearBounds k
  · exact h

theorem offerCapture (h : SameTbs s t) (r : Run) : SameTbs (s.offerCapture r) (t.offerCapture r) := by
  simp only [State.offerCapture]
  (repeat' split)
  · exact h.addToCapture _ _
  · exact h
  · exact h

theorem sessionBuffer (h : SameTbs s t) (k : SlotId) : s.sessionBuffer k = t.sessionBuffer k :=
  sessionBuffer_congr h.2 k

theorem swap (h : SameTbs s t) (k : SlotId) : SameTbs (s.swap k) (t.swap k) := by
  have hb (b : Fin 2) : s.buffer b = t.buffer b := buffer_congr h.2 b
  simp only [State.swap, h.sessionBuffer, hb]
  split
  · exact h
  next b _ =>
    split
    · exact h
    next e _ =>
      have hm := h.modSlot k fun x => x.install e
      have hi : SameTbs ((s.modSlot k fun x => x.install e).setBuffer b none)
          ((t.modSlot k fun x => x.install e).setBuffer b none) := by
        refine ⟨hm.1, ?_⟩
        simp only [State.setBuffer]
        rw [hm.2]
      split
      · exact hi.cancelCapture k _
      · exact hi

theorem promote (h : SameTbs s t) (k : SlotId) : SameTbs (s.promote k) (t.promote k) := by
  simp only [State.promote, h.slot]
  split
  · split
    · exact (h.modSlot k _).produceRefDone k _ _ _
    · exact h
  · exact h

end SameTbs

theorem swap_lot_ne (s : State) {k j : SlotId} (h : k ≠ j) : (s.swap k).lot j = s.lot j := by
  have hc (x : State) : (x.cancelCapture k .planSwap).lot j = x.lot j := lot_congr (by simp) j
  simp only [State.swap]
  (repeat' split) <;> simp [h, hc]

/-- A departure leaves a lot but that of its slot, and that too where no swap is made (R32). -/
theorem depart_lot (s : State) (k j : SlotId)
    (h : j ≠ k ∨ s.commitPending k = false ∨ 1 < (s.slot k).occupancy) : (s.depart k).lot j = s.lot j := by
  have hpromote (x : State) : (x.promote k).lot j = x.lot j := lot_congr (by simp) j
  rw [State.depart, State.releaseSlot, hpromote, State.deferredSwap]
  split
  · next hd =>
    simp only [modSlot_reads, slot_modSlot, if_true, Bool.and_eq_true, beq_iff_eq] at hd
    obtain ⟨hp, ho⟩ := hd
    rcases h with h | h | h
    · rw [swap_lot_ne _ (Ne.symm h)]
      rfl
    · rw [h] at hp
      exact absurd hp (by simp)
    · omega
  · rfl

/-- The slot a nest leaves: one fewer occupies it, and at 0 the pending commit is swapped in and the capture promoted. -/
theorem depart_slot (s : State) (k : SlotId) :
    let left := s.setSlot k { s.slot k with occupancy := (s.slot k).occupancy - 1 }
    (s.depart k).slot k = (if 1 < (s.slot k).occupancy then left.slot k
      else if s.commitPending k = true then ((left.swap k).promote k).slot k else (left.promote k).slot k) := by
  intro left
  change ((left.deferredSwap k).promote k).slot k = _
  have hp : left.commitPending k = s.commitPending k := by simp [left]
  have ho : (left.slot k).occupancy = (s.slot k).occupancy - 1 := by simp [left]
  simp only [State.deferredSwap, hp, ho, Bool.and_eq_true, beq_iff_eq]
  by_cases h1 : 1 < (s.slot k).occupancy
  · rw [if_neg (by omega), if_pos h1]
    have hn : (left.slot k).occupancy ≠ 0 := by omega
    simp only [State.promote]
    split <;> simp [hn]
  · rw [if_neg h1]
    have hz : (s.slot k).occupancy - 1 = 0 := by omega
    simp only [hz, and_true]
    split <;> rfl

/-! ### What a run end leaves (R73, R134) -/

/-- The state in which a run end's nest leaves: records made, the run offered, the nest in REPORTING or CLOSING. -/
def State.endLeft (s : State) (n : NestId) (cause : EndCause) : State :=
  ((s.endRecords n cause).offerCapture (s.endedRun n cause)).modNest n
    (Nest.leave (s.endEngine n cause) (s.endMessage n cause))

section endRun

variable (s : State) (n : NestId) (cause : EndCause)

theorem endRun_endLeft : s.endRun n cause = (s.endLeft n cause).depart (s.nest n).run.slot := endRun_eq s n cause

/-- The records a run end makes: those of a counted verdict, else none (R134). -/
def State.verdictRecords (s : State) (n : NestId) (cause : EndCause) : State :=
  if (s.nest n).run.kind = .counted then
    s.recordVerdict n (s.endedRun n cause) (s.endVerdict n cause).1 (s.endVerdict n cause).2 (s.endGrade n cause)
  else s

theorem endRecords_eq : ∃ ns, s.endRecords n cause = (s.verdictRecords n cause).withNests ns := by
  refine ⟨(s.markEnd n cause).nests, ?_⟩
  rw [State.endRecords, State.verdictRecords]
  split
  · exact recordVerdict_withNests s _ n _ _ _ _
  · rfl

theorem verdictRecords_frame : (s.verdictRecords n cause).slots = s.slots ∧ (s.verdictRecords n cause).buffers = s.buffers := by
  rw [State.verdictRecords]
  split <;> simp

theorem endLeft_sameTbs : SameTbs (s.endLeft n cause) (s.offerCapture (s.endedRun n cause)) := by
  obtain ⟨ns, h⟩ := endRecords_eq s n cause
  have hr : SameTbs (s.endRecords n cause) s := by
    rw [h]
    exact verdictRecords_frame s n cause
  exact hr.offerCapture _

theorem endLeft_occupancy (k : SlotId) : ((s.endLeft n cause).slot k).occupancy = (s.slot k).occupancy := by
  rw [(endLeft_sameTbs s n cause).slot, offerCapture_occupancy]

theorem endLeft_commitPending (k : SlotId) : (s.endLeft n cause).commitPending k = s.commitPending k := by
  refine commitPending_congr ?_ k
  rw [(endLeft_sameTbs s n cause).2]
  simp

theorem endLeft_records : (s.endLeft n cause).retest = (s.verdictRecords n cause).retest ∧
    (s.endLeft n cause).mrk = (s.verdictRecords n cause).mrk ∧
    (s.endLeft n cause).lots = (s.verdictRecords n cause).lots := by
  obtain ⟨ns, h⟩ := endRecords_eq s n cause
  simp [State.endLeft, h]

/-- The records after a run end; where a swap is made with it, its slot's lot has one commit more besides. -/
theorem endRun_records : (s.endRun n cause).retest = (s.verdictRecords n cause).retest ∧
    (s.endRun n cause).mrk = (s.verdictRecords n cause).mrk ∧
    ∀ j, j ≠ (s.nest n).run.slot ∨ s.commitPending (s.nest n).run.slot = false ∨
        1 < (s.slot (s.nest n).run.slot).occupancy →
      (s.endRun n cause).lot j = (s.verdictRecords n cause).lot j := by
  obtain ⟨hr, hm, hl⟩ := endLeft_records s n cause
  rw [endRun_endLeft]
  refine ⟨by simpa using hr, by simpa using hm, fun j hj => ?_⟩
  rw [depart_lot _ _ _ (by rwa [endLeft_commitPending, endLeft_occupancy]), lot_congr hl]

/-- The other slots at a run end. -/
theorem endRun_slot_other {k : SlotId} (h : k ≠ (s.nest n).run.slot) : (s.endRun n cause).slot k = s.slot k := by
  rw [endRun_endLeft, State.depart, releaseSlot_slot _ _ (Ne.symm h), slot_modSlot, if_neg (Ne.symm h),
    (endLeft_sameTbs s n cause).slot]
  exact offerCapture_slot _ (s.endedRun n cause) (Ne.symm h)

theorem endRun_occupancy :
    ((s.endRun n cause).slot (s.nest n).run.slot).occupancy = (s.slot (s.nest n).run.slot).occupancy - 1 := by
  rw [endRun_endLeft, State.depart, releaseSlot_occupancy, slot_modSlot, if_pos rfl, endLeft_occupancy]

/-- The run's slot: the run is offered to its capture, the occupancy falls, and at 0 swap and promotion are made. -/
theorem endRun_slot : ∀ k offered left, k = (s.nest n).run.slot → offered = s.offerCapture (s.endedRun n cause) →
    left = offered.setSlot k { offered.slot k with occupancy := (s.slot k).occupancy - 1 } →
    (s.endRun n cause).slot k = (if 1 < (s.slot k).occupancy then left.slot k
      else if s.commitPending k = true then ((left.swap k).promote k).slot k else (left.promote k).slot k) := by
  rintro k offered left rfl rfl rfl
  have hs := endLeft_sameTbs s n cause
  have hl := hs.modSlot (s.nest n).run.slot fun x => { x with occupancy := (s.slot (s.nest n).run.slot).occupancy - 1 }
  rw [endRun_endLeft, depart_slot, endLeft_occupancy, endLeft_commitPending]
  split
  · exact hl.slot _
  · split
    · exact ((hl.swap _).promote _).slot _
    · exact (hl.promote _).slot _

end endRun

/-! ### The engine's rows (R58) and the VERDICT's fields (R140) -/

theorem endRun_step_rows (e : Engine) (x : Tables) (h : e.mode = .step) :
    (e.last = .here → (x.step e.step).kind = .tone → e.endRun x = e.fadeTone x.settingsRow.fade) ∧
    (e.last = .here → (x.step e.step).kind ≠ .tone → e.endRun x = e.silence) ∧
    (e.last = .quiet → e.endRun x = e.silence) ∧
    (∀ inc aeff, e.last = .tone inc aeff →
      e.endRun x = { e with inc := inc, aeff := aeff }.fadeTone x.settingsRow.fade) := by
  refine ⟨fun hl hk => ?_, fun hl hk => ?_, fun hl => ?_, fun inc aeff hl => ?_⟩
  · simp [Engine.endRun, h, hl, Engine.stepRec, hk]
  · simp [Engine.endRun, h, hl, Engine.stepRec, hk]
  · simp [Engine.endRun, h, hl]
  · simp [Engine.endRun, h, hl]

theorem fadeTone_pos (e : Engine) {rf : Nat} (h : 0 < rf) :
    e.fadeTone rf = { e with mode := .endFade, fade := 0, fadeLen := rf } := if_pos h

theorem fadeTone_zero (e : Engine) {rf : Nat} (h : rf = 0) : e.fadeTone rf = e.silence := if_neg (by omega)

theorem serial_halves (x : BitVec 48) : BitVec.ofNat 16 (serialHi x) ++ serialLo x = x := by
  apply BitVec.eq_of_toNat_eq
  have h := x.isLt
  simp only [BitVec.toNat_append, BitVec.toNat_ofNat, serialHi, serialLo, BitVec.toNat_setWidth]
  rw [Nat.mod_eq_of_lt (by omega), ← Nat.shiftLeft_add_eq_or_of_lt (Nat.mod_lt _ (by norm_num)), Nat.shiftLeft_eq]
  omega

/-- The four words every VERDICT has, and the lot id of a counted run's. -/
theorem verdictEvent_body (n : NestId) (r : Run) (v : VerdictKind) (c : ClassSet) (g : LabelField) :
    ∃ w0 w1 w2 : Word, ∃ more : List Word,
      (verdictEvent n r v c g).body = w0 :: w1 :: w2 :: serialLo r.serial :: more ∧
      more = (if r.kind = .counted then [r.lotId] else []) ∧
      w0 = put n.val 30 2 ||| put r.slot.val 27 3 ||| put r.attempt 24 3 ||| put v.value 22 2 |||
         put r.endCause.abortValue 20 2 ||| flag (r.kind == .bench) 19 ||| flag (r.kind == .golden) 18 |||
         flag r.clipSeen 17 ||| flag r.trace 16 ||| put r.generation.toNat 0 16 ∧
      w1 = put c.toNat 16 16 ||| put g.code 8 8 ||| put g.bin 4 4 ∧
      w2 = put r.firstFail 24 8 ||| put (serialHi r.serial) 0 16 := by
  exact ⟨_, _, _, if r.kind == .counted then [r.lotId] else [], rfl, by simp, rfl, rfl, rfl⟩

theorem verdict_word0 (n : NestId) (r : Run) (v : VerdictKind) :
    let w : Word := put n.val 30 2 ||| put r.slot.val 27 3 ||| put r.attempt 24 3 ||| put v.value 22 2 |||
         put r.endCause.abortValue 20 2 ||| flag (r.kind == .bench) 19 ||| flag (r.kind == .golden) 18 |||
         flag r.clipSeen 17 ||| flag r.trace 16 ||| put r.generation.toNat 0 16
    w.extractLsb' 30 2 = BitVec.ofNat 2 n.val ∧ w.extractLsb' 27 3 = BitVec.ofNat 3 r.slot.val ∧
    w.extractLsb' 24 3 = BitVec.ofNat 3 r.attempt ∧ w.extractLsb' 22 2 = BitVec.ofNat 2 v.value ∧
    w.extractLsb' 20 2 = BitVec.ofNat 2 r.endCause.abortValue ∧ w.getLsbD 19 = (r.kind == .bench) ∧
    w.getLsbD 18 = (r.kind == .golden) ∧ w.getLsbD 17 = r.clipSeen ∧ w.getLsbD 16 = r.trace ∧
    w.extractLsb' 0 16 = r.generation := by
  refine ⟨?_, ?_, ?_, ?_, ?_, by simp, by simp, by simp, by simp, ?_⟩
  all_goals simp [flag, extract_or, extract_put, extract_put_apart]

theorem verdict_word1 (c : ClassSet) (g : LabelField) :
    let w : Word := put c.toNat 16 16 ||| put g.code 8 8 ||| put g.bin 4 4
    w.extractLsb' 16 16 = c ∧ w.extractLsb' 8 8 = BitVec.ofNat 8 g.code ∧ w.extractLsb' 4 4 = BitVec.ofNat 4 g.bin ∧
    w.extractLsb' 0 4 = 0#4 := by
  refine ⟨?_, ?_, ?_, ?_⟩
  all_goals simp [extract_or, extract_put, extract_put_apart]

theorem endRun_nest_leaves (s : State) (n : NestId) (cause : EndCause) :
    { ((s.endRun n cause).nest n).run with bound := false } = { (s.nest n).run with
      bound := false, endCause := cause, endStep := if (s.nest n).phase = .armed then 255 else (s.nest n).engine.step } ∧
    ((s.endRun n cause).nest n).engine = s.endEngine n cause ∧
    ((s.endRun n cause).nest n).phase = (if (s.endEngine n cause).mode = .silent then .reporting else .closing) ∧
    ((s.endRun n cause).nest n).verdictOut = some (s.endMessage n cause) ∧
    ((s.endRun n cause).nest n).config = (s.nest n).config ∧ ((s.endRun n cause).nest n).seat = (s.nest n).seat ∧
    ((s.endRun n cause).nest n).window = (s.nest n).window ∧
    ((s.endRun n cause).nest n).analysis = (s.nest n).analysis := by
  obtain ⟨x, hx, he⟩ := endRun_nest_self s n cause
  obtain ⟨hc, hs, -, -, hw, -, -, ha, -⟩ := hx.fields
  rw [he]
  exact ⟨SameButBound.unboundRun hx, rfl, rfl, rfl, hc, hs, hw, ha⟩

/-- Settles O32: the run end by its steps (`endRun_eq`), the engine's rows, and the VERDICT's words. -/
theorem runEndLeaves : Obligations.RunEndLeaves := by
  unfold Obligations.RunEndLeaves
  refine ⟨fun s n cause hp => ?_, fun e x => ?_, fun n r v c g => ?_⟩
  · have hnest := endRun_nest_leaves s n cause
    have hframe := endRun_frame (s := s) n cause
    have hrec := endRun_records s n cause
    have hocc := endRun_occupancy s n cause
    have hother := fun k' h => endRun_slot_other (k := k') s n cause h
    have hnests := fun m h => (endRun_nest_other (n := n) (m := m) s h cause).same
    have hslot := endRun_slot s n cause
    generalize s.endRun n cause = t at *
    obtain ⟨hrun, heng, hph, hv, hc, hs, hw, ha⟩ := hnest
    obtain ⟨hst, hpr, ham, hpe⟩ := hframe
    obtain ⟨-, -, -, -, -, -, -, -, -, hrq, -⟩ := Link.still_fields hst
    obtain ⟨hre, hmr, hlo⟩ := hrec
    intro t' k
    refine ⟨hrun, heng, by rw [hph, heng], by rw [hv]; rfl, hc, hs, hw, ha, hocc, hother,
      fun m h => hnests m (Ne.symm h), hrq, hpr, ham, hpe, ?_⟩
    intro r v' g' records offered left
    refine ⟨hv, fun h => ?_, fun h => ?_, hslot k offered left rfl rfl rfl⟩
    · have hrec : s.verdictRecords n cause = records := if_pos h
      rw [← hrec]
      exact ⟨hre, hmr, hlo⟩
    · have hrec : s.verdictRecords n cause = s := if_neg h
      rw [hrec] at hre hmr hlo
      exact ⟨hre, hmr, hlo⟩
  · intro silent
    refine ⟨fun h => ?_, fun h => by simp [Engine.endRun, h], fun h => ?_⟩
    · obtain ⟨htone, hother, hquiet, hkept⟩ := endRun_step_rows e x h
      exact ⟨fun hl hk hf => (htone hl hk).trans (fadeTone_pos e hf), fun hl hk hf => (htone hl hk).trans (fadeTone_zero e hf),
        hother, hquiet, fun inc aeff hl hf => (hkept inc aeff hl).trans (fadeTone_pos _ hf),
        fun inc aeff hl hf => by rw [hkept inc aeff hl, fadeTone_zero _ hf]; exact ⟨rfl, rfl⟩⟩
    · rcases h with h | h <;> simp [Engine.endRun, h]
  · obtain ⟨w0', w1', w2', more, hb, hm, h0, h1, h2⟩ := verdictEvent_body n r v c g
    intro e w0 w1 w2
    have e0 : w0 = w0' := by simp only [w0, e, hb, List.getD_cons_zero]
    have e1 : w1 = w1' := by simp only [w1, e, hb, List.getD_cons_succ, List.getD_cons_zero]
    have e2 : w2 = w2' := by simp only [w2, e, hb, List.getD_cons_succ, List.getD_cons_zero]
    have e3 : e.body.getD 3 0#32 = serialLo r.serial := by
      simp only [e, hb, List.getD_cons_succ, List.getD_cons_zero]
    have e4 : e.body.getD 4 0#32 = more.getD 0 0#32 := by simp only [e, hb, List.getD_cons_succ]
    have hlen : e.body.length = 4 + more.length := by simp only [e, hb, List.length_cons]; omega
    obtain ⟨f1, f2, f3, f4, f5, f6, f7, f8, f9, f10⟩ := verdict_word0 n r v
    obtain ⟨g1, g2, g3, g4⟩ := verdict_word1 c g
    rw [hlen, e0, e1, e2, e3, e4, h0, h1, h2, hm]
    refine ⟨rfl, rfl, by split <;> rfl, f1, f2, f3, f4.trans (by cases v <;> rfl), fun h => f5.trans (by rw [h]; rfl),
      fun h => f5.trans (by rw [h]; rfl), fun h => f5.trans ?_, f6, f7, f8, f9, f10, g1, g2, g3, g4, ?_, ?_, ?_,
      fun h => by rw [if_pos h]; rfl⟩
    · cases hc : r.endCause with
      | aborted a => exact absurd hc (h a)
      | isOpen | completed | contactCheck | seatLoss | seatTimeout | disturbed => rfl
    · simp [extract_or, extract_put, extract_put_apart]
    · simp [extract_or, extract_put_apart]
    · have hw : (put r.firstFail 24 8 ||| put (serialHi r.serial) 0 16).extractLsb' 0 16 =
          BitVec.ofNat 16 (serialHi r.serial) := by
        simp [extract_or, extract_put, extract_put_apart]
      rw [hw]
      exact serial_halves r.serial

end Sys2Proof.Machine
end

section
/-! PROOFS. A lot's completion (R138, R163, R164): its entries given up one after the other, and its LOT_SUMMARY. -/

namespace Sys2Proof.Machine

variable {s t u : State}

/-! ### Which lot a given-up entry counts in -/

/-- The lot that alone has its id is the one its id names. -/
theorem lotSlot_of_unique {k : SlotId} {l : Lot} (hl : s.lot k = some l)
    (hu : ∀ j m, s.lot j = some m → m.id = l.id → j = k) : s.lotSlot l.id = some k := by
  cases hf : s.lotSlot l.id with
  | none =>
    have h := List.find?_eq_none.mp hf k (mem_allSlots k)
    simp [hl] at h
  | some j =>
    have h := List.find?_some hf
    cases hj : s.lot j with
    | none => simp [hj] at h
    | some m =>
      simp only [hj, beq_iff_eq] at h
      rw [hu j m hj h]

/-- A lot with entries given up keeps its id and stays OPEN or CLOSING as it was, whichever lot counts them. -/
theorem reportGivenUp_keeps (e : RetestEntry) {k : SlotId} {l : Lot} (hl : s.lot k = some l) :
    ∃ x, (s.reportGivenUp e).lot k = some x ∧ x.id = l.id ∧ x.closing = l.closing := by
  cases hj : s.lotSlot e.lotId with
  | none => exact ⟨l, by simp only [State.reportGivenUp, hj]; exact hl, rfl, rfl⟩
  | some j =>
    by_cases hk : j = k
    · subst hk
      obtain ⟨b, hb⟩ := reportGivenUp_lot s e j l hj hl
      exact ⟨_, hb, rfl, rfl⟩
    · exact ⟨l, by rw [reportGivenUp_lot_ne s e j k hj hk, hl], rfl, rfl⟩

theorem foldGivenUp_keeps (k : SlotId) : ∀ (es : List RetestEntry) (s : State) (l : Lot), s.lot k = some l →
    ∃ x, (es.foldl State.reportGivenUp s).lot k = some x ∧ x.id = l.id ∧ x.closing = l.closing
  | [], _, l, hl => ⟨l, hl, rfl, rfl⟩
  | e :: es, s, l, hl => by
    obtain ⟨y, hy, hyi, hyc⟩ := reportGivenUp_keeps e hl
    obtain ⟨x, hx, hxi, hxc⟩ := foldGivenUp_keeps k es _ y hy
    exact ⟨x, hx, hxi.trans hyi, hxc.trans hyc⟩

/-! ### A lot whose entries are given up (R163) -/

/-- Outcomes that join a rolling window of 64 one after the other: the oldest beyond 64 are gone. -/
theorem pushOutcome_window (w : List Bool) (m : Nat) :
    (pushOutcome w false ++ List.replicate m false).drop (m - (64 - (pushOutcome w false).length)) =
      (w ++ List.replicate (m + 1) false).drop (m + 1 - (64 - w.length)) := by
  have hjoin (v : List Bool) : v ++ [false] ++ List.replicate m false = v ++ List.replicate (m + 1) false := by
    rw [List.append_assoc, List.replicate_succ]
    rfl
  by_cases h : 64 ≤ w.length
  · obtain ⟨x, v, rfl⟩ := List.exists_cons_of_length_pos (show 0 < w.length by omega)
    have hp : pushOutcome (x :: v) false = v ++ [false] := by simp only [pushOutcome, Config.windowCap, if_pos h, List.drop_one, List.tail_cons]
    simp only [List.length_cons] at h
    have h0 : 64 - (v.length + 1) = 0 := by omega
    simp only [hp, hjoin, List.length_append, List.length_cons, List.length_nil, Nat.zero_add, h0, Nat.sub_zero, List.cons_append, List.drop_succ_cons]
  · have hp : pushOutcome w false = w ++ [false] := by
      have hc : ¬ Config.windowCap ≤ w.length := h
      rw [pushOutcome, if_neg hc]
    have hd : m - (64 - (w.length + 1)) = m + 1 - (64 - w.length) := by omega
    simp only [hp, hjoin, List.length_append, List.length_cons, List.length_nil, Nat.zero_add, hd]

/-- What giving up the entries makes of their own lot. -/
structure Lot.GivenUp (l : Lot) (es : List RetestEntry) (x : Lot) : Prop where
  same : x = { l with
    outstanding := l.outstanding - es.length, failed := l.failed + es.length, classes := x.classes, tripped := x.tripped
    window := (l.window ++ List.replicate es.length false).drop (es.length - (64 - l.window.length)) }
  classes : ∀ i : Fin 13, x.classes[i] = l.classes[i] + es.countP fun e => (e.classes ||| 0x1000#16).getLsbD i.val

theorem Lot.GivenUp.nil (l : Lot) : l.GivenUp [] l where
  same := by simp
  classes := fun i => by simp

/-- One entry more. -/
theorem Lot.GivenUp.cons {l y x : Lot} {e : RetestEntry} {es : List RetestEntry} {b : Bool}
    (hy : y = { l with
      outstanding := l.outstanding - 1, failed := l.failed + 1, tripped := b
      classes := countClasses l.classes (e.classes ||| clsNoReturn), window := pushOutcome l.window false })
    (h : y.GivenUp es x) : l.GivenUp (e :: es) x where
  same := by
    rw [h.same]
    subst hy
    simp only [List.length_cons, pushOutcome_window, Lot.mk.injEq, true_and, and_true]
    omega
  classes := fun i => by
    rw [h.classes i]
    subst hy
    simp only [List.countP_cons]
    rw [getElem_countClasses]
    have hn : clsNoReturn = 0x1000#16 := rfl
    rw [hn]
    omega

/-- The entries of the only lot with its id, given up one after the other, count in that lot and in no other. -/
theorem foldGivenUp_own {k : SlotId} : ∀ (es : List RetestEntry) (s : State) (l : Lot), s.lot k = some l →
    (∀ j m, s.lot j = some m → m.id = l.id → j = k) → (∀ e ∈ es, e.lotId = l.id) →
    (∃ x, (es.foldl State.reportGivenUp s).lot k = some x ∧ l.GivenUp es x) ∧
    ∀ j, j ≠ k → (es.foldl State.reportGivenUp s).lot j = s.lot j
  | [], s, l, hl, _, _ => ⟨⟨l, hl, .nil l⟩, fun _ _ => rfl⟩
  | e :: es, s, l, hl, hu, he => by
    have hk : s.lotSlot e.lotId = some k := by
      rw [he e (List.mem_cons_self ..)]
      exact lotSlot_of_unique hl hu
    have hne (j : SlotId) (hj : j ≠ k) : (s.reportGivenUp e).lot j = s.lot j :=
      reportGivenUp_lot_ne s e k j hk (Ne.symm hj)
    obtain ⟨b, hb⟩ := reportGivenUp_lot s e k l hk hl
    have hu' : ∀ j m, (s.reportGivenUp e).lot j = some m → m.id = l.id → j = k := fun j m hm hi => by
      by_contra hj
      exact hj (hu j m (by rw [← hne j hj, hm]) hi)
    obtain ⟨⟨x, hx, hg⟩, hother⟩ := foldGivenUp_own es _ _ hb hu' fun e' h' => he e' (List.mem_cons_of_mem _ h')
    exact ⟨⟨x, hx, .cons rfl hg⟩, fun j hj => (hother j hj).trans (hne j hj)⟩

/-! ### LOT_COMPLETE -/

theorem due_iff (l : Lot) : l.due = true ↔ l.closing = true ∧ l.summary = none ∧ l.inFlight = 0 ∧ l.awaiting = 0 := by
  simp [Lot.due, and_assoc]

theorem lotDue_iff (s : State) (k : SlotId) : s.lotDue k = true ↔ ∃ l, s.lot k = some l ∧ l.due = true := by
  rw [lotDue_eq]
  cases s.lot k <;> simp

theorem exec_lotComplete (s : State) (k : SlotId) :
    exec (.lotComplete k) s = if s.lotDue k = true then .next (s.completeLot k).endEvent else .next s := by
  rfl

theorem lotReport_length (k : SlotId) (l : Lot) (g : BitVec 16) : (lotReport k l g).length = 27 := by
  simp [lotReport, allClasses]

theorem completeLot_leaves {k : SlotId} {l : Lot} (hl : s.lot k = some l) (h : l.due = true) :
    (s.completeLot k).retest = s.retest.filter (fun e => e.lotId != l.id) ∧
    ∃ x e, (s.completeLot k).lot k = some x ∧ x.summary = some e ∧ x.closing = true ∧ x.id = l.id ∧
      e.kind = 0x85#8 ∧ e.scope = slotScope k ∧ e.body.length = 27 := by
  obtain ⟨x, hx, hi, hc⟩ := foldGivenUp_keeps k (s.retest.filter fun e => e.lotId == l.id)
    { s with retest := s.retest.filter fun e => e.lotId != l.id } l hl
  have hx : (s.giveUpLot l.id).lot k = some x := hx
  rw [completeLot_of_due hl h]
  refine ⟨by simp [State.giveUpLot], x.summarise k (s.slot k).generation,
    ⟨0x85#8, BitVec.ofNat 4 k.val, lotReport k x (s.slot k).generation⟩, by rw [lot_modLot, if_pos rfl, hx]; rfl, rfl, ?_, hi, rfl, rfl,
    lotReport_length _ _ _⟩
  exact hc.trans ((due_iff l).mp h).1

theorem put_zero (lo w : Nat) : put 0 lo w = 0#32 := by simp [put]

/-- The words of the lot report of a lot that has completed: CLOSING, no summary waiting, nothing in flight or awaiting its mark. -/
theorem lotReport_completed (k : SlotId) (g : BitVec 16) {x : Lot} (h : x.due = true) :
    let d := lotReport k x g
    (d.getD 1 0#32).getLsbD 4 = true ∧ (d.getD 1 0#32).getLsbD 5 = false ∧ d.getD 3 0#32 = 0#32 ∧
      d.getD 4 0#32 = 0#32 ∧ (x.outstanding = 0 → d.getD 5 0#32 = 0#32) := by
  obtain ⟨hc, hs, hi, ha⟩ := (due_iff x).mp h
  refine ⟨?_, ?_, ?_, ?_, fun ho => ?_⟩
  · simp [lotReport, hc]
  · simp [lotReport, hs]
  · simp [lotReport, hi, put_zero]
  · simp [lotReport, ha, put_zero]
  · simp [lotReport, ho, put_zero]

/-- Settles O43: a due lot's entries count in it one after the other (`foldGivenUp_own`), then its report is built. -/
theorem lotCompletes : Obligations.LotCompletes := by
  unfold Obligations.LotCompletes
  have due_of {l : Lot} (h1 : l.closing = true) (h2 : l.summary = none) (h3 : l.inFlight = 0) (h4 : l.awaiting = 0) :
      l.due = true := (due_iff l).mpr ⟨h1, h2, h3, h4⟩
  refine ⟨fun k l s hl h1 h2 h3 h4 => ?_, fun k s => ?_, fun k l s hl h1 h2 h3 h4 hu => ?_⟩
  · have hd := due_of h1 h2 h3 h4
    obtain ⟨hr, hx⟩ := completeLot_leaves hl hd
    obtain ⟨hst, hsl, hb, hp, hn, ha, hm, -⟩ := completeLot_frame (s := s) k
    obtain ⟨-, -, -, -, -, -, -, -, -, hq, -⟩ := Link.still_fields hst
    refine ⟨s.completeLot k, ?_, hr, hx, hn, hsl, hb, hm, hp, ha, hq⟩
    rw [exec_lotComplete, if_pos ((lotDue_iff s k).mpr ⟨l, hl, hd⟩)]
  · refine ⟨?_, fun h => by rw [exec_lotComplete, if_pos h],
      fun h => ⟨completeLot_of_notDue h, by rw [exec_lotComplete, h]; rfl⟩⟩
    rw [lotDue_iff]
    exact exists_congr fun l => and_congr_right fun _ => due_iff l
  · have hd := due_of h1 h2 h3 h4
    intro mine given
    obtain ⟨⟨x, hx, hg⟩, hother⟩ := foldGivenUp_own mine { s with retest := s.retest.filter fun e => e.lotId != l.id } l hl hu
      fun e he => by simpa using (List.mem_filter.mp he).2
    have hc : s.completeLot k = given.setLot k (some (x.summarise k (s.slot k).generation)) := by
      rw [completeLot_of_due hl hd]
      change given.setLot k ((given.lot k).map _) = _
      rw [show given.lot k = some x from hx]
      rfl
    have hxd : x.due = true := by
      rw [hg.same]
      exact due_of h1 h2 h3 h4
    have ho : x.outstanding = l.outstanding - mine.length := by rw [hg.same]
    obtain ⟨d1, d2, d3, d4, d5⟩ := lotReport_completed k (s.slot k).generation hxd
    refine ⟨x, hx, hc, hg.same, hg.classes, fun j hj => ?_, fun hm => ?_, d1, d2, d3, d4, fun h => d5 (by omega)⟩
    · rw [hc, lot_setLot, if_neg (Ne.symm hj)]
      exact hother j hj
    · have hall : (s.retest.filter fun e => e.lotId != l.id) = s.retest := by
        refine List.filter_eq_self.mpr fun e he => ?_
        have := List.filter_eq_nil_iff.mp hm e he
        simpa using this
      have hgs : given = s := by
        change mine.foldl State.reportGivenUp { s with retest := s.retest.filter fun e => e.lotId != l.id } = s
        rw [hm, hall]
        rfl
      refine ⟨?_, hgs⟩
      have : some x = some l := by
        rw [← hl, ← hgs]
        exact hx.symm
      exact Option.some.inj this

end Sys2Proof.Machine
end

section
/-! PROOFS. The four queries (R40, R80, R139, R168): their reply words, field by field. -/

namespace Sys2Proof.Machine

variable {s t u : State}

/-! ### Fields of packed words -/

theorem extract_flag (b : Bool) (lo : Nat) (h : lo + 1 ≤ 32) : (flag b lo).extractLsb' lo 1 = BitVec.ofNat 1 b.toNat :=
  extract_put _ _ _ h

theorem levels_hi (a b : Level) : (levels a b).extractLsb' 16 16 = BitVec.ofInt 16 a := by
  rw [levels, extract_or, sput, sput, extract_put _ _ _ (by decide), extract_put_apart _ _ _ _ _ (by decide), BitVec.or_zero]
  apply BitVec.eq_of_toNat_eq
  simp
  omega

theorem levels_lo (a b : Level) : (levels a b).extractLsb' 0 16 = BitVec.ofInt 16 b := by
  rw [levels, extract_or, sput, sput, extract_put _ _ _ (by decide), extract_put_apart _ _ _ _ _ (by decide), BitVec.zero_or]
  apply BitVec.eq_of_toNat_eq
  simp
  omega

theorem halves_append (a b : Nat) : halves a b = BitVec.ofNat 16 a ++ BitVec.ofNat 16 b := by
  rw [← halves_hi a b, ← halves_lo a b]
  apply BitVec.eq_of_getLsbD_eq
  intro i hi
  rw [BitVec.getLsbD_append]
  by_cases h : i < 16
  · simp [h]
  · have : i - 16 < 16 := by omega
    have e : 16 + (i - 16) = i := by omega
    simp [h, this, e]

/-- A serial sent in the low half of one word and in the next. -/
theorem serial_words (x : BitVec 48) : (put (serialHi x) 0 16).extractLsb' 0 16 ++ serialLo x = x := by
  rw [extract_put _ _ _ (by decide), serial_halves]

/-! ### NEST_QUERY (R80) -/

theorem nest_word0 (x : Nest) (loud : Bool) :
    let w : Word := put x.phase.value 0 3 ||| flag x.seat.stable 4 ||| flag loud 5 ||| put x.engine.mode.value 6 2 |||
      put x.engine.fade 16 12
    w.extractLsb' 0 3 = BitVec.ofNat 3 x.phase.value ∧ w.getLsbD 4 = x.seat.stable ∧ w.getLsbD 5 = loud ∧
    w.extractLsb' 6 2 = BitVec.ofNat 2 x.engine.mode.value ∧ w.extractLsb' 16 12 = BitVec.ofNat 12 x.engine.fade := by
  refine ⟨?_, by simp, by simp, ?_, ?_⟩
  all_goals simp [flag, extract_or, extract_put, extract_put_apart]

theorem nest_word1 (c : NestConfig) :
    let w : Word := put c.trim 0 8 ||| flag c.inverted 8 ||| put c.seatCode 9 2 ||| flag c.bench 11 |||
      flag c.benchEnding 12
    w.extractLsb' 0 8 = BitVec.ofNat 8 c.trim ∧ w.getLsbD 8 = c.inverted ∧
    w.extractLsb' 9 2 = BitVec.ofNat 2 c.seatCode ∧ w.getLsbD 11 = c.bench ∧ w.getLsbD 12 = c.benchEnding := by
  refine ⟨?_, by simp, ?_, by simp, by simp⟩
  all_goals simp [flag, extract_or, extract_put, extract_put_apart]

theorem nest_word3 (r : Run) :
    let w : Word := flag r.present 0 ||| put r.slot.val 1 3 ||| put r.kind.value 4 2 ||| flag r.golden 6 |||
      flag r.trace 7 ||| put r.attempt 8 3 ||| put r.startCause.value 11 2 ||| put r.generation.toNat 16 16
    w.getLsbD 0 = r.present ∧ w.extractLsb' 1 3 = BitVec.ofNat 3 r.slot.val ∧
    w.extractLsb' 4 2 = BitVec.ofNat 2 r.kind.value ∧ w.getLsbD 6 = r.golden ∧ w.getLsbD 7 = r.trace ∧
    w.extractLsb' 8 3 = BitVec.ofNat 3 r.attempt ∧ w.extractLsb' 11 2 = BitVec.ofNat 2 r.startCause.value ∧
    w.extractLsb' 16 16 = r.generation := by
  refine ⟨by simp, ?_, ?_, by simp, by simp, ?_, ?_, ?_⟩
  all_goals simp [flag, extract_or, extract_put, extract_put_apart]

theorem nest_word7 (x : Nest) :
    let w : Word := put x.engine.step 0 7 ||| flag x.engine.held 7 ||| put x.window.value 8 2 |||
      flag x.retryMarked 10 ||| put x.engine.retry 11 3 ||| put x.engine.k 16 16
    w.extractLsb' 0 7 = BitVec.ofNat 7 x.engine.step ∧ w.getLsbD 7 = x.engine.held ∧
    w.extractLsb' 8 2 = BitVec.ofNat 2 x.window.value ∧ w.getLsbD 10 = x.retryMarked ∧
    w.extractLsb' 11 3 = BitVec.ofNat 3 x.engine.retry ∧ w.extractLsb' 16 16 = BitVec.ofNat 16 x.engine.k := by
  refine ⟨?_, by simp, ?_, by simp, ?_, ?_⟩
  all_goals simp [flag, extract_or, extract_put, extract_put_apart]

theorem nest_word10 (r : Run) :
    let w : Word := put r.firstFail 24 8 ||| put r.endStep 16 8 ||| put r.endCause.value 12 4 |||
      put r.endCause.abortValue 10 2 ||| flag r.contact 9 ||| flag r.disturbed 8 ||| flag r.clipSeen 7
    w.extractLsb' 24 8 = BitVec.ofNat 8 r.firstFail ∧ w.extractLsb' 16 8 = BitVec.ofNat 8 r.endStep ∧
    w.extractLsb' 12 4 = BitVec.ofNat 4 r.endCause.value ∧ w.extractLsb' 10 2 = BitVec.ofNat 2 r.endCause.abortValue ∧
    w.getLsbD 9 = r.contact ∧ w.getLsbD 8 = r.disturbed ∧ w.getLsbD 7 = r.clipSeen := by
  refine ⟨?_, ?_, ?_, ?_, by simp, by simp, by simp⟩
  all_goals simp [flag, extract_or, extract_put, extract_put_apart]

/-- Codes small enough for their fields read back as they are. -/
theorem codes_toNat :
    (∀ p : Phase, (BitVec.ofNat 3 p.value).toNat = p.value) ∧ (∀ m : Mode, (BitVec.ofNat 2 m.value).toNat = m.value) ∧
    (∀ k : RunKind, (BitVec.ofNat 2 k.value).toNat = k.value) ∧
    (∀ c : StartCause, (BitVec.ofNat 2 c.value).toNat = c.value) ∧
    (∀ p : WindowPhase, (BitVec.ofNat 2 p.value).toNat = p.value) ∧
    (∀ c : EndCause, (BitVec.ofNat 4 c.value).toNat = c.value) ∧
    ∀ c : EndCause, (BitVec.ofNat 2 c.abortValue).toNat = c.abortValue := by
  refine ⟨fun p => ?_, fun m => ?_, fun k => ?_, fun c => ?_, fun p => ?_, fun c => ?_, fun c => ?_⟩
  · cases p <;> rfl
  · cases m <;> rfl
  · cases k <;> rfl
  · cases c <;> rfl
  · cases p <;> rfl
  · cases c <;> rfl
  · cases c with
    | aborted a => cases a <;> rfl
    | isOpen | completed | contactCheck | seatLoss | seatTimeout | disturbed => rfl

theorem scopeOk_slot (k : SlotId) : Kind.scopeOk .protectQuery (slotScope k) = true ∧
    Kind.scopeOk .lotQuery (slotScope k) = true ∧ Kind.scopeOk .retestQuery (slotScope k) = true := by
  revert k; decide

theorem scopeOk_nest (n : NestId) : Kind.scopeOk .nestQuery (nestScope n) = true := by
  revert n; decide

theorem exec_nestQuery (n : NestId) (tag : BitVec 8) (hr : s.ReplyRoom) : exec (.nestQuery (nestScope n) tag) s = .next
    (s.reply .nestQuery (nestScope n) tag .ok (nestData (s.nest n) s.amb.loud)) :=
  exec_taken rfl hr rfl (scopeOk_nest n) (by
    change takeNestQuery (nestScope n) tag s = _
    rw [takeNestQuery, nestOf_nestScope])

/-! ### LOT_QUERY (R168) -/

theorem lot_word1 (k : SlotId) (l : Lot) :
    let w : Word := put k.val 0 3 ||| flag l.closing 4 ||| flag l.summary.isSome 5 ||| flag l.tripped 6 |||
      put l.window.length 8 7
    w.extractLsb' 0 3 = BitVec.ofNat 3 k.val ∧ w.getLsbD 4 = l.closing ∧ w.getLsbD 5 = l.summary.isSome ∧
    w.getLsbD 6 = l.tripped ∧ w.extractLsb' 8 7 = BitVec.ofNat 7 l.window.length := by
  refine ⟨?_, by simp, by simp, by simp, ?_⟩
  all_goals simp [flag, extract_or, extract_put, extract_put_apart]

theorem lotReport_class (k : SlotId) (l : Lot) (g : BitVec 16) (i : Fin 13) :
    (lotReport k l g).getD (10 + i.val) 0#32 = put l.classes[i] 0 24 := by
  fin_cases i <;> rfl

theorem count_toNat (v : Nat) : (put v 0 24).toNat = v % 16777216 := by
  rw [toNat_put v 0 24 (by decide)]
  omega

theorem exec_lotQuery (k : SlotId) (tag : BitVec 8) (hr : s.ReplyRoom) :
    exec (.lotQuery (slotScope k) tag) s = .next (takeLotQuery (slotScope k) tag s) :=
  exec_taken rfl hr rfl (scopeOk_slot k).2.1 rfl

theorem takeLotQuery_none {k : SlotId} (tag : BitVec 8) (h : s.lot k = none) :
    takeLotQuery (slotScope k) tag s = s.reply .lotQuery (slotScope k) tag .noLot [] := by
  simp only [takeLotQuery, slotOf_slotScope, h]

theorem takeLotQuery_some {k : SlotId} {l : Lot} (tag : BitVec 8) (h : s.lot k = some l) :
    takeLotQuery (slotScope k) tag s =
      s.reply .lotQuery (slotScope k) tag .ok (lotReport k l (s.slot k).generation) := by
  simp only [takeLotQuery, slotOf_slotScope, h]

/-! ### RETEST_QUERY (R139) -/

/-- The entries' words, three for each, in the order of the entries. -/
theorem entryWords_at : ∀ (es : List RetestEntry) (i : Nat) (e : RetestEntry), es[i]? = some e →
    let d := (es.map RetestEntry.words).flatten
    d.getD (3 * i) 0#32 = put e.classes.toNat 16 16 ||| put e.slot.val 8 3 ||| put e.attempts 0 2 ∧
    d.getD (3 * i + 1) 0#32 = put (serialHi e.serial) 0 16 ∧ d.getD (3 * i + 2) 0#32 = serialLo e.serial
  | [], i, e, h => by simp at h
  | x :: es, 0, e, h => by
    obtain rfl : x = e := by simpa using h
    exact ⟨rfl, rfl, rfl⟩
  | x :: es, i + 1, e, h => by
    have ih := entryWords_at es i e (by simpa using h)
    exact ih

theorem entryWords_length : ∀ es : List RetestEntry, (es.map RetestEntry.words).flatten.length = 3 * es.length
  | [] => rfl
  | e :: es => by
    have h := entryWords_length es
    simp only [List.map_cons, List.flatten_cons, List.length_append, List.length_cons, h]
    simp only [RetestEntry.words, List.length_cons, List.length_nil]
    omega

/-- The reply data of RETEST_QUERY whose scope matches the entries `mine` of the list. -/
theorem retestData_fields (list mine : List RetestEntry) (scope : BitVec 4)
    (hm : (list.filter fun e => scope == 15#4 || e.slot == slotOf scope) = mine) :
    let d := retestData list scope
    d.length = 1 + 3 * min 20 mine.length ∧
    (d.getD 0 0#32).extractLsb' 16 8 = BitVec.ofNat 8 list.length ∧
    (d.getD 0 0#32).extractLsb' 8 8 = BitVec.ofNat 8 mine.length ∧
    ((d.getD 0 0#32).extractLsb' 0 8).toNat = min 20 mine.length ∧
    ∀ i e, i < 20 → mine[i]? = some e →
      (d.getD (1 + 3 * i) 0#32).extractLsb' 16 16 = e.classes ∧
      (d.getD (1 + 3 * i) 0#32).extractLsb' 8 3 = BitVec.ofNat 3 e.slot.val ∧
      (d.getD (1 + 3 * i) 0#32).extractLsb' 0 2 = BitVec.ofNat 2 e.attempts ∧
      (d.getD (2 + 3 * i) 0#32).extractLsb' 0 16 ++ d.getD (3 + 3 * i) 0#32 = e.serial := by
  have hd : retestData list scope =
      (put list.length 16 8 ||| put mine.length 8 8 ||| put (mine.take 20).length 0 8) ::
        ((mine.take 20).map RetestEntry.words).flatten := by
    rw [retestData, hm]
  have hlen : (mine.take 20).length = min 20 mine.length := List.length_take
  rw [hd]
  refine ⟨?_, ?_, ?_, ?_, fun i e hi he => ?_⟩
  · rw [List.length_cons, entryWords_length, hlen]
    omega
  · simp [extract_or, extract_put, extract_put_apart]
  · simp [extract_or, extract_put, extract_put_apart]
  · have h8 : min 20 mine.length < 2 ^ 8 := by omega
    simp only [hlen, List.getD_cons_zero]
    have hf : (put list.length 16 8 ||| put mine.length 8 8 ||| put (min 20 mine.length) 0 8).extractLsb' 0 8 =
        BitVec.ofNat 8 (min 20 mine.length) := by
      simp [extract_or, extract_put, extract_put_apart]
    rw [hf, BitVec.toNat_ofNat, Nat.mod_eq_of_lt h8]
  · obtain ⟨h0, h1, h2⟩ := entryWords_at (mine.take 20) i e (by rw [List.getElem?_take, if_pos hi, he])
    have at1 : 1 + 3 * i = 3 * i + 1 := by omega
    have at2 : 2 + 3 * i = 3 * i + 1 + 1 := by omega
    have at3 : 3 + 3 * i = 3 * i + 2 + 1 := by omega
    rw [at1, at2, at3, List.getD_cons_succ, List.getD_cons_succ, List.getD_cons_succ, h0, h1, h2]
    refine ⟨?_, ?_, ?_, serial_words _⟩
    all_goals simp [extract_or, extract_put, extract_put_apart]

theorem exec_retestQuery (scope : BitVec 4) (tag : BitVec 8) (hr : s.ReplyRoom)
    (hs : Kind.scopeOk .retestQuery scope = true) : exec (.retestQuery scope tag) s = .next
    (s.reply .retestQuery scope tag .ok (retestData s.retest scope)) :=
  exec_taken rfl hr rfl hs rfl

theorem matches_slot (list : List RetestEntry) (k : SlotId) :
    (list.filter fun e => slotScope k == 15#4 || e.slot == slotOf (slotScope k)) = list.filter fun e => e.slot == k := by
  simp only [beq_eq_false_iff_ne.mpr (slotScope_ne k), Bool.false_or, slotOf_slotScope]

/-! ### PROTECT_QUERY (R40) -/

/-- The session's bits of PROTECT_QUERY's first word. -/
def State.sessionBits (s : State) (k : SlotId) : Word :=
  match s.sessionBuffer k, s.session k with
  | some b, some e => flag true 24 ||| put b.val 25 1 ||| flag e.copy 26 ||| flag e.pending 27 ||| flag e.planTouched 28
  | _, _ => 0#32

/-- PROTECT_QUERY's first word but for the session's bits. -/
def State.protectBits (s : State) (k : SlotId) : Word :=
  put (s.prot.state k) 0 2 ||| flag s.prot.allProtected 2 ||| put s.prot.lower 4 3 ||| put s.prot.upper 8 3 |||
    flag s.prot.invert 12 ||| flag (s.slot k).loaded 16 ||| put (s.slot k).occupancy 18 3

theorem put_generation (g : BitVec 16) : put g.toNat 0 16 = g.setWidth 32 := by
  apply BitVec.eq_of_toNat_eq
  have h := g.isLt
  rw [toNat_put _ _ _ (by decide), BitVec.toNat_setWidth]
  omega

theorem protectData_eq (s : State) (k : SlotId) :
    protectData s k = [s.protectBits k ||| s.sessionBits k, (s.slot k).generation.setWidth 32] := by
  rw [← put_generation]
  rfl

theorem protectBits_fields (s : State) (k : SlotId) :
    (s.protectBits k).getLsbD 0 = (!s.prot.freeze) ∧ (s.protectBits k).getLsbD 1 = (!s.prot.protects k) ∧
    (s.protectBits k).getLsbD 2 = s.prot.allProtected ∧
    (s.protectBits k).extractLsb' 4 3 = BitVec.ofNat 3 s.prot.lower ∧
    (s.protectBits k).extractLsb' 8 3 = BitVec.ofNat 3 s.prot.upper ∧
    (s.protectBits k).getLsbD 12 = s.prot.invert ∧ (s.protectBits k).getLsbD 16 = (s.slot k).loaded ∧
    (s.protectBits k).extractLsb' 18 3 = BitVec.ofNat 3 (s.slot k).occupancy ∧
    (s.protectBits k).extractLsb' 24 8 = 0#8 := by
  simp only [State.protectBits]
  refine ⟨?_, ?_, by simp, ?_, ?_, by simp, by simp, ?_, ?_⟩
  · cases hf : s.prot.freeze <;> cases hp : s.prot.protects k <;> simp [Protection.state, hf, hp]
  · cases hf : s.prot.freeze <;> cases hp : s.prot.protects k <;> simp [Protection.state, hf, hp, Nat.testBit_succ]
  · simp [flag, extract_or, extract_put, extract_put_apart]
  · simp [flag, extract_or, extract_put, extract_put_apart]
  · simp [flag, extract_or, extract_put, extract_put_apart]
  · simp [flag, extract_or, extract_put_apart]

theorem sessionBits_none {k : SlotId} (h : s.session k = none) : s.sessionBits k = 0#32 := by
  rw [State.sessionBits, h]
  cases s.sessionBuffer k <;> rfl

theorem session_of_buffer {k : SlotId} {b : Fin 2} {e : Session} (hb : s.sessionBuffer k = some b)
    (he : s.buffer b = some e) : s.session k = some e := by
  rw [State.session, hb, Option.bind_some, he]

theorem sessionBits_some {k : SlotId} {b : Fin 2} {e : Session} (hb : s.sessionBuffer k = some b)
    (he : s.buffer b = some e) : s.sessionBits k =
      flag true 24 ||| put b.val 25 1 ||| flag e.copy 26 ||| flag e.pending 27 ||| flag e.planTouched 28 := by
  rw [State.sessionBits, hb, session_of_buffer hb he]

/-- A session is that of its buffer. -/
theorem buffer_of_session {k : SlotId} {e : Session} (h : s.session k = some e) :
    ∃ b, s.sessionBuffer k = some b ∧ s.buffer b = some e := by
  rw [State.session, Option.bind_eq_some_iff] at h
  exact h

theorem sessionBits_low (s : State) (k : SlotId) : (s.sessionBits k).extractLsb' 0 24 = 0#24 := by
  cases h : s.session k with
  | none => rw [sessionBits_none h]; rfl
  | some e =>
    obtain ⟨b, hb, he⟩ := buffer_of_session h
    rw [sessionBits_some hb he]
    simp [flag, extract_or, extract_put_apart]

theorem sessionBits_fields {k : SlotId} {b : Fin 2} {e : Session} (hb : s.sessionBuffer k = some b)
    (he : s.buffer b = some e) : (s.sessionBits k).getLsbD 24 = true ∧
      (s.sessionBits k).extractLsb' 25 1 = BitVec.ofNat 1 b.val ∧ (s.sessionBits k).getLsbD 26 = e.copy ∧
      (s.sessionBits k).getLsbD 27 = e.pending ∧ (s.sessionBits k).getLsbD 28 = e.planTouched := by
  rw [sessionBits_some hb he]
  refine ⟨by simp, ?_, by simp, by simp, by simp⟩
  simp [flag, extract_or, extract_put, extract_put_apart]

/-- A word that is empty in a field leaves that field to the word it joins. -/
theorem extract_or_left {x y : Word} {lo w lo' w' : Nat} (h : y.extractLsb' lo' w' = BitVec.ofNat w' 0) (hl : lo' ≤ lo)
    (hw : lo + w ≤ lo' + w') : (x ||| y).extractLsb' lo w = x.extractLsb' lo w := by
  have hz : y.extractLsb' lo w = (0#32).extractLsb' lo w := by
    refine extract_inside (h.trans ?_) hl hw
    apply BitVec.eq_of_getLsbD_eq
    simp
  rw [extract_or, hz]
  apply BitVec.eq_of_getLsbD_eq
  simp

theorem getLsbD_or_left {x y : Word} {i lo w : Nat} (h : y.extractLsb' lo w = BitVec.ofNat w 0) (hl : lo ≤ i)
    (hw : i < lo + w) : (x ||| y).getLsbD i = x.getLsbD i := by
  have := congrArg (fun v : BitVec w => v.getLsbD (i - lo)) h
  have hb : i - lo < w := by omega
  have he : lo + (i - lo) = i := by omega
  simp only [BitVec.getLsbD_extractLsb', hb, decide_true, Bool.true_and, he, BitVec.getLsbD_zero] at this
  rw [BitVec.getLsbD_or, this, Bool.or_false]

theorem exec_protectQuery (k : SlotId) (tag : BitVec 8) (hr : s.ReplyRoom) : exec (.protectQuery (slotScope k) tag) s =
    .next (s.reply .protectQuery (slotScope k) tag .ok (protectData s k)) :=
  exec_taken rfl hr rfl (scopeOk_slot k).1 (by
    change takeProtectQuery (slotScope k) tag s = _
    rw [takeProtectQuery, slotOf_slotScope])

/-- PROTECT_QUERY's first word: its protection and slot part and its session part do not meet. -/
theorem protectWord_fields (s : State) (k : SlotId) :
    let w := s.protectBits k ||| s.sessionBits k
    w.getLsbD 0 = (!s.prot.freeze) ∧ w.getLsbD 1 = (!s.prot.protects k) ∧ w.getLsbD 2 = s.prot.allProtected ∧
    w.extractLsb' 4 3 = BitVec.ofNat 3 s.prot.lower ∧ w.extractLsb' 8 3 = BitVec.ofNat 3 s.prot.upper ∧
    w.getLsbD 12 = s.prot.invert ∧ w.getLsbD 16 = (s.slot k).loaded ∧
    w.extractLsb' 18 3 = BitVec.ofNat 3 (s.slot k).occupancy ∧
    ∀ lo n, 24 ≤ lo → lo + n ≤ 32 → w.extractLsb' lo n = (s.sessionBits k).extractLsb' lo n := by
  obtain ⟨h0, h1, h2, h4, h8, h12, h16, h18, hz⟩ := protectBits_fields s k
  have low := sessionBits_low s k
  intro w
  refine ⟨?_, ?_, ?_, ?_, ?_, ?_, ?_, ?_, fun lo n hl hw => ?_⟩
  · rw [← h0]; exact getLsbD_or_left low (by decide) (by decide)
  · rw [← h1]; exact getLsbD_or_left low (by decide) (by decide)
  · rw [← h2]; exact getLsbD_or_left low (by decide) (by decide)
  · rw [← h4]; exact extract_or_left low (by decide) (by decide)
  · rw [← h8]; exact extract_or_left low (by decide) (by decide)
  · rw [← h12]; exact getLsbD_or_left low (by decide) (by decide)
  · rw [← h16]; exact getLsbD_or_left low (by decide) (by decide)
  · rw [← h18]; exact extract_or_left low (by decide) (by decide)
  · rw [show w = s.sessionBits k ||| s.protectBits k from BitVec.or_comm _ _]
    exact extract_or_left hz hl hw

theorem getLsbD_of_extract {x y : Word} {i : Nat} (h : x.extractLsb' i 1 = y.extractLsb' i 1) : x.getLsbD i = y.getLsbD i := by
  have := congrArg (fun v : BitVec 1 => v.getLsbD 0) h
  simpa using this

/-- PROTECT_QUERY's session fields (log 38). -/
theorem protectWord_session (s : State) (k : SlotId) :
    let w := s.protectBits k ||| s.sessionBits k
    w.getLsbD 24 = (s.session k).isSome ∧ w.getLsbD 27 = s.commitPending k ∧
    (s.session k = none → w.extractLsb' 24 5 = 0#5) ∧
    ∀ b e, s.sessionBuffer k = some b → s.buffer b = some e →
      w.getLsbD 24 = true ∧ w.extractLsb' 25 1 = BitVec.ofNat 1 b.val ∧ w.getLsbD 26 = e.copy ∧
      w.getLsbD 27 = e.pending ∧ w.getLsbD 28 = e.planTouched := by
  obtain ⟨-, -, -, -, -, -, -, -, high⟩ := protectWord_fields s k
  intro w
  have bit (i : Nat) (h : 24 ≤ i) (h' : i + 1 ≤ 32) : w.getLsbD i = (s.sessionBits k).getLsbD i :=
    getLsbD_of_extract (high i 1 h h')
  rw [bit 24 (by decide) (by decide), bit 27 (by decide) (by decide), bit 26 (by decide) (by decide),
    bit 28 (by decide) (by decide), high 24 5 (by decide) (by decide), high 25 1 (by decide) (by decide)]
  refine ⟨?_, ?_, fun h => by rw [sessionBits_none h]; rfl, fun b e hb he => sessionBits_fields hb he⟩
  · cases h : s.session k with
    | none => rw [sessionBits_none h]; rfl
    | some e =>
      obtain ⟨b, hb, he⟩ := buffer_of_session h
      exact (sessionBits_fields hb he).1
  · cases h : s.session k with
    | none => rw [sessionBits_none h, State.commitPending, h]; rfl
    | some e =>
      obtain ⟨b, hb, he⟩ := buffer_of_session h
      rw [State.commitPending, h]
      exact (sessionBits_fields hb he).2.2.2.1

/-- NEST_QUERY's eleven words. -/
theorem nestData_words (x : Nest) (loud : Bool) : ∃ w0 w1 w3 w7 w10 : Word,
    nestData x loud = [w0, w1, levels x.config.mcal x.config.zcal, w3, put (serialHi x.run.serial) 0 16,
      serialLo x.run.serial, x.run.lotId, w7, halves x.engine.ext x.seatMs,
      halves x.run.failSet.toNat x.run.marginalSet.toNat, w10] ∧
    w0 = put x.phase.value 0 3 ||| flag x.seat.stable 4 ||| flag loud 5 ||| put x.engine.mode.value 6 2 |||
      put x.engine.fade 16 12 ∧
    w1 = put x.config.trim 0 8 ||| flag x.config.inverted 8 ||| put x.config.seatCode 9 2 ||| flag x.config.bench 11 |||
      flag x.config.benchEnding 12 ∧
    w3 = flag x.run.present 0 ||| put x.run.slot.val 1 3 ||| put x.run.kind.value 4 2 ||| flag x.run.golden 6 |||
      flag x.run.trace 7 ||| put x.run.attempt 8 3 ||| put x.run.startCause.value 11 2 |||
      put x.run.generation.toNat 16 16 ∧
    w7 = put x.engine.step 0 7 ||| flag x.engine.held 7 ||| put x.window.value 8 2 ||| flag x.retryMarked 10 |||
      put x.engine.retry 11 3 ||| put x.engine.k 16 16 ∧
    w10 = put x.run.firstFail 24 8 ||| put x.run.endStep 16 8 ||| put x.run.endCause.value 12 4 |||
      put x.run.endCause.abortValue 10 2 ||| flag x.run.contact 9 ||| flag x.run.disturbed 8 ||| flag x.run.clipSeen 7 :=
  ⟨_, _, _, _, _, rfl, rfl, rfl, rfl, rfl, rfl⟩

/-- Settles O24: the words that each query replies, and their fields. -/
theorem queriesReport : Obligations.QueriesReport := by
  unfold Obligations.QueriesReport
  refine ⟨fun k tag s hr => ?_, fun n tag s hr => ?_, fun k tag s hr => ⟨fun h => ?_, fun l h => ?_⟩,
    fun tag s hr => ⟨?_, fun k => ?_⟩⟩
  · obtain ⟨f0, f1, f2, f4, f8, f12, f16, f18, -⟩ := protectWord_fields s k
    obtain ⟨g1, g2, g3, g4⟩ := protectWord_session s k
    exact ⟨s.protectBits k ||| s.sessionBits k, f0, f1, f2, f4, f8, f12, f16, f18, g1, g2, g3, g4,
      by rw [exec_protectQuery k tag hr, protectData_eq]⟩
  · obtain ⟨w0, w1, w3, w7, w10, hd, e0, e1, e3, e7, e10⟩ := nestData_words (s.nest n) s.amb.loud
    obtain ⟨p1, p2, p3, p4, p5⟩ := nest_word0 (s.nest n) s.amb.loud
    obtain ⟨q1, q2, q3, q4, q5⟩ := nest_word1 (s.nest n).config
    obtain ⟨r1, r2, r3, r4, r5, r6, r7, r8⟩ := nest_word3 (s.nest n).run
    obtain ⟨v1, v2, v3, v4, v5, v6⟩ := nest_word7 (s.nest n)
    obtain ⟨x1, x2, x3, x4, x5, x6, x7⟩ := nest_word10 (s.nest n).run
    obtain ⟨cp, cm, ck, cs, cw, ce, ca⟩ := codes_toNat
    rw [← e0] at p1 p2 p3 p4 p5
    rw [← e1] at q1 q2 q3 q4 q5
    rw [← e3] at r1 r2 r3 r4 r5 r6 r7 r8
    rw [← e7] at v1 v2 v3 v4 v5 v6
    rw [← e10] at x1 x2 x3 x4 x5 x6 x7
    have phase := (congrArg BitVec.toNat p1).trans (cp _)
    have cause := (congrArg BitVec.toNat x3).trans (ce _)
    have sets := halves_hi (s.nest n).run.failSet.toNat (s.nest n).run.marginalSet.toNat
    have sets' := halves_lo (s.nest n).run.failSet.toNat (s.nest n).run.marginalSet.toNat
    rw [BitVec.ofNat_toNat, BitVec.setWidth_eq] at sets sets'
    refine ⟨nestData (s.nest n) s.amb.loud, by rw [hd]; rfl, exec_nestQuery n tag hr, ?_⟩
    rw [hd]
    refine ⟨phase, p2, p3, q1, r1, r8, serial_words _, rfl, v2, v6, sets, sets', cause, ?_⟩
    intro w x e r
    refine ⟨phase.trans (by cases x.phase <;> rfl), ?_, p5, q2, q3, q4, q5, levels_hi _ _, levels_lo _ _, r2, ?_, r4, r5, r6,
      ?_, v1, ?_, v4, v5, halves_hi _ _, ?_, x1, x2, cause.trans (by cases x.run.endCause <;> rfl), ?_, x5, x6, x7⟩
    · exact (congrArg BitVec.toNat p4).trans ((cm _).trans (by cases x.engine.mode <;> rfl))
    · exact (congrArg BitVec.toNat r3).trans ((ck _).trans (by cases x.run.kind <;> rfl))
    · exact (congrArg BitVec.toNat r7).trans ((cs _).trans (by cases x.run.startCause <;> rfl))
    · exact (congrArg BitVec.toNat v3).trans ((cw _).trans (by cases x.window <;> rfl))
    · refine (halves_lo _ _).trans ?_
      simp only [Nest.seatMs, beq_iff_eq]
      rfl
    · refine (congrArg BitVec.toNat x4).trans ((ca _).trans ?_)
      cases r.endCause with
      | aborted a => cases a <;> rfl
      | isOpen | completed | contactCheck | seatLoss | seatTimeout | disturbed => rfl
  · rw [exec_lotQuery k tag hr, takeLotQuery_none tag h]
  · obtain ⟨f0, f4, f5, f6, f8⟩ := lot_word1 k l
    refine ⟨lotReport k l (s.slot k).generation, lotReport_length _ _ _, rfl,
      by rw [exec_lotQuery k tag hr, takeLotQuery_some tag h], rfl, count_toNat _, count_toNat _, count_toNat _,
      count_toNat _, count_toNat _, count_toNat _, count_toNat _, count_toNat _, ⟨f0, f4, f5, f6, f8⟩, fun i => ?_,
      halves_append _ _, halves_append _ _, ?_, ?_⟩
    · rw [lotReport_class]
      exact count_toNat _
    · refine (halves_append l.genAtOpen.toNat (s.slot k).generation.toNat).trans ?_
      rw [BitVec.ofNat_toNat, BitVec.ofNat_toNat, BitVec.setWidth_eq, BitVec.setWidth_eq]
    · have := toNat_put l.commits 0 16 (by decide)
      exact this.trans (by omega)
  · obtain ⟨f1, f2, f3, f4, f5⟩ := retestData_fields s.retest s.retest 15#4 (by simp)
    exact ⟨_, exec_retestQuery 15#4 tag hr rfl, f1, f2, f3, f4, f5⟩
  · obtain ⟨f1, f2, f3, f4, f5⟩ := retestData_fields s.retest _ (slotScope k) (matches_slot s.retest k)
    refine ⟨_, exec_retestQuery (slotScope k) tag hr (scopeOk_slot k).2.2, f1, f2, f3, f4, fun i e hi he => ?_⟩
    obtain ⟨g1, g2, g3, g4⟩ := f5 i e hi he
    have hk : e.slot = k := by
      have := List.mem_filter.mp (List.mem_of_getElem? he)
      simpa using this.2
    rw [hk] at g2
    exact ⟨g1, g2, g3, g4⟩

end Sys2Proof.Machine
end

section
/-! PROOFS. STAGE_ROWS (R24, R25): cutting the body into rows, the order of the checks, the bits kept of a row. -/

namespace Sys2Proof.Machine

variable {s t u : State}

/-! ### Rows -/

theorem cutRows_flatten {size : Nat} (hs : 0 < size) : ∀ (rows : List Row) (fuel : Nat), (∀ r ∈ rows, r.length = size) →
    rows.length ≤ fuel → cutRows size fuel rows.flatten = rows
  | [], 0, _, _ => rfl
  | [], _ + 1, _, _ => rfl
  | r :: rows, fuel + 1, hr, hf => by
    have hl : r.length = size := hr r (List.mem_cons_self ..)
    have hne : (r ++ rows.flatten).isEmpty = false := by
      cases r with
      | nil => simp only [List.length_nil] at hl; omega
      | cons a r => rfl
    have ih := cutRows_flatten hs rows fuel (fun r' h => hr r' (List.mem_cons_of_mem _ h)) (by simpa using hf)
    rw [List.flatten_cons, cutRows, hne, if_neg (by decide), ← hl, List.take_left, List.drop_left, hl, ih]

theorem flatten_length {size : Nat} : ∀ rows : List Row, (∀ r ∈ rows, r.length = size) →
    rows.flatten.length = size * rows.length
  | [], _ => rfl
  | r :: rows, hr => by
    have ih := flatten_length rows fun r' h => hr r' (List.mem_cons_of_mem _ h)
    rw [List.flatten_cons, List.length_append, ih, hr r (List.mem_cons_self ..), List.length_cons]
    ring

theorem rowSize_pos (table : Nat) : 2 ≤ rowSize table := by
  unfold rowSize
  split <;> decide

/-- A mask with ones in a field keeps it, and with zeros clears it. -/
theorem extract_and_ones (x : Word) {m : Word} {lo w : Nat} (h : m.extractLsb' lo w = BitVec.allOnes w) :
    (x &&& m).extractLsb' lo w = x.extractLsb' lo w := by
  apply BitVec.eq_of_getLsbD_eq
  intro i hi
  have := congrArg (fun v : BitVec w => v.getLsbD i) h
  simp only [BitVec.getLsbD_extractLsb', hi, decide_true, Bool.true_and, BitVec.getLsbD_allOnes] at this
  simp [hi, this]

theorem extract_and_zero (x : Word) {m : Word} {lo w : Nat} (h : m.extractLsb' lo w = BitVec.ofNat w 0) :
    (x &&& m).extractLsb' lo w = BitVec.ofNat w 0 := by
  apply BitVec.eq_of_getLsbD_eq
  intro i hi
  have := congrArg (fun v : BitVec w => v.getLsbD i) h
  simp only [BitVec.getLsbD_extractLsb', hi, decide_true, Bool.true_and] at this
  simpa [hi] using fun _ => this

/-- The bits kept of a row's words (R18, R21, R25; log 17). -/
theorem storedRow_keeps (r : Row) (table : Nat) :
    let kept (i : Nat) : Word := (storedRow table r).getD i 0#32
    let sent (i : Nat) : Word := r.getD i 0#32
    (table ≤ 3 → (storedRow table r).length = rowSize table) ∧
    (table = 0 → (∀ i, i < 7 → kept i = sent i) ∧ kept 7 = 0#32) ∧
    (table = 1 → kept 0 = sent 0 ∧ kept 2 = sent 2 ∧
      (kept 1).extractLsb' 0 19 = (sent 1).extractLsb' 0 19 ∧ (kept 1).extractLsb' 19 13 = 0#13 ∧
      (kept 3).extractLsb' 16 16 = (sent 3).extractLsb' 16 16 ∧ (kept 3).extractLsb' 0 16 = 0#16) ∧
    (table = 2 → (∀ i, i < 2 → (kept i).extractLsb' 0 10 = (sent i).extractLsb' 0 10 ∧
        (kept i).extractLsb' 10 22 = 0#22) ∧
      ∀ i, 2 ≤ i → i < 6 → kept i = sent i) ∧
    (table = 3 → kept 0 = sent 0 ∧ kept 1 = 0#32) := by
  intro kept sent
  refine ⟨fun h => ?_, ?_, ?_, ?_, ?_⟩
  · interval_cases table <;> rfl
  · rintro rfl
    refine ⟨fun i hi => ?_, rfl⟩
    interval_cases i <;> rfl
  · rintro rfl
    exact ⟨rfl, rfl, extract_and_ones _ (by decide), extract_and_zero _ (by decide), extract_and_ones _ (by decide),
      extract_and_zero _ (by decide)⟩
  · rintro rfl
    refine ⟨fun i hi => ?_, fun i h2 hi => ?_⟩
    · interval_cases i
      · exact ⟨extract_and_ones _ (by decide), extract_and_zero _ (by decide)⟩
      · exact ⟨extract_and_ones _ (by decide), extract_and_zero _ (by decide)⟩
    · interval_cases i <;> rfl
  · rintro rfl
    exact ⟨rfl, rfl⟩

/-! ### The checks of STAGE_ROWS in their order (R24) -/

/-- The checks that need a session, in their order. -/
theorem stageRowsCheck_session {k : SlotId} {table first len : Nat} {e : Session} (hp : s.prot.protects k = false)
    (ht : table ≤ 3) (hz : len ≠ 0) (hl : len % rowSize table = 0) (he : s.session k = some e) :
    stageRowsCheck s k table first len =
      if e.pending = true then .held
      else if (if e.copy then (e.tables.get table).length < first else first != (e.tables.get table).length) = true then .sequence
      else if capacity table < first + len / rowSize table then .range else .ok := by
  simp [stageRowsCheck, hp, Nat.not_lt.mpr ht, hz, hl, he]

theorem takeStageRows_refused {k : SlotId} {tag : BitVec 8} {body : List Word} {c : ResultCode}
    (h : stageRowsCheck s k (bits (body.getD 0 0#32) 8 8) (bits (body.getD 0 0#32) 0 8) (body.length - 1) = c) (hc : c ≠ .ok) :
    takeStageRows (slotScope k) tag body s = s.reply .stageRows (slotScope k) tag c [] := by
  simp only [takeStageRows, slotOf_slotScope, h]
  split
  · exact absurd rfl hc
  · rfl

theorem takeStageRows_taken {k : SlotId} {tag : BitVec 8} {body : List Word} {b : Fin 2} {e : Session} {table first : Nat}
    (ht : bits (body.getD 0 0#32) 8 8 = table) (hf : bits (body.getD 0 0#32) 0 8 = first)
    (h : stageRowsCheck s k table first (body.length - 1) = .ok)
    (hb : s.sessionBuffer k = some b) (he : s.buffer b = some e) :
    takeStageRows (slotScope k) tag body s =
      (s.setBuffer b (some (e.write table first
        ((cutRows (rowSize table) body.length (body.drop 1)).map (storedRow table))))).reply
        .stageRows (slotScope k) tag .ok [] := by
  simp only [takeStageRows, slotOf_slotScope, ht, hf, h, hb, he, Option.map_some]

theorem scopeOk_stageRows (k : SlotId) : Kind.scopeOk .stageRows (slotScope k) = true := by
  revert k; decide

theorem exec_stageRows (k : SlotId) (tag : BitVec 8) {body : List Word} (hr : s.ReplyRoom) (h3 : 3 ≤ body.length)
    (h62 : body.length ≤ 62) : exec (.stageRows (slotScope k) tag body) s = .next (takeStageRows (slotScope k) tag body s) :=
  exec_taken rfl hr (by simp [Kind.lengthOk, h3, h62]) (scopeOk_stageRows k) rfl

theorem first_word_fields {table first : Nat} (ht : table ≤ 3) (hf : first ≤ 255) :
    bits (put table 8 8 ||| put first 0 8) 8 8 = table ∧ bits (put table 8 8 ||| put first 0 8) 0 8 = first := by
  rw [bits_eq_extract, bits_eq_extract]
  simp [extract_or, extract_put, extract_put_apart]
  omega

theorem writeRows_eq (e : Session) (table first : Nat) (rows : List Row) :
    e.write table first (rows.map (storedRow table)) = { e with
      tables := e.tables.put table ((e.tables.get table).take first ++ rows.map (storedRow table) ++
        (e.tables.get table).drop (first + rows.length))
      planTouched := e.planTouched || table == 1 } := by
  rw [Session.write, writeRows, List.length_map]

/-- Settles O17: rows that pass every check are written; else the first check that fails answers. -/
theorem stageRowsEffect : Obligations.StageRowsEffect := by
  unfold Obligations.StageRowsEffect
  refine ⟨fun k tag b e table first rows s hr hp hb he hn ht hf hne hsz hlen hplace hcap => ?_,
    fun k tag w rows s hr hp h2 h61 => ?_, rfl, rfl, fun r table => storedRow_keeps r table⟩
  · have hsize := rowSize_pos table
    have hflat := flatten_length rows hsz
    have hrows : 0 < rows.length := List.length_pos_iff.mpr hne
    have hmin : 2 * 1 ≤ rowSize table * rows.length := Nat.mul_le_mul hsize hrows
    have hle : 1 * rows.length ≤ rowSize table * rows.length := Nat.mul_le_mul_right _ (by omega)
    have hdiv : rows.flatten.length / rowSize table = rows.length := by
      rw [hflat, Nat.mul_div_cancel_left _ (by omega)]
    obtain ⟨hw8, hw0⟩ := first_word_fields ht hf
    have hcheck : stageRowsCheck s k table first rows.flatten.length = .ok := by
      rw [stageRowsCheck_session hp ht (by omega) (by rw [hflat, Nat.mul_mod_right]) (session_of_buffer hb he), hn, hdiv,
        if_neg (by decide), if_neg (by split at hplace <;> simp [*]), if_neg (by omega)]
    have hcut : cutRows (rowSize table) (rows.flatten.length + 1) rows.flatten = rows :=
      cutRows_flatten (by omega) rows _ hsz (by omega)
    rw [exec_stageRows k tag hr (by simp only [List.length_cons]; omega) (by simp only [List.length_cons]; omega),
      takeStageRows_taken (body := (put table 8 8 ||| put first 0 8) :: rows.flatten) hw8 hw0 hcheck hb he, List.length_cons, List.drop_one,
      List.tail_cons, hcut, writeRows_eq]
  · intro refuse table first size
    have hexec := exec_stageRows (s := s) k tag (body := w :: rows) hr (by simp only [List.length_cons]; omega)
      (by simp only [List.length_cons]; omega)
    have answer {c : ResultCode} (hc : c ≠ .ok) (h : stageRowsCheck s k table first rows.length = c) : refuse c :=
      hexec.trans (congrArg Host.Outcome.next (takeStageRows_refused (body := w :: rows) h hc))
    have hz : rows.length ≠ 0 := by omega
    refine ⟨fun h => answer (by decide) ?_, fun h hl => answer (by decide) ?_, fun h hl hn => answer (by decide) ?_,
      fun e h hl he => ⟨fun hn => answer (by decide) ?_, fun hn hc hf => answer (by decide) ?_,
        fun hn hc hf => answer (by decide) ?_, fun hn hf hc => answer (by decide) ?_⟩⟩
    · simp [stageRowsCheck, hp, h]
    · simp [stageRowsCheck, hp, Nat.not_lt.mpr h, hl, size]
    · have hl : rows.length % rowSize table = 0 := hl
      simp [stageRowsCheck, hp, Nat.not_lt.mpr h, hz, hl, hn]
    · rw [stageRowsCheck_session hp h hz hl he, if_pos hn]
    · rw [stageRowsCheck_session hp h hz hl he, hn, if_neg (by decide), hc]
      exact if_pos (by simpa using hf)
    · rw [stageRowsCheck_session hp h hz hl he, hn, if_neg (by decide), hc]
      exact if_pos (by simpa using hf)
    · rw [stageRowsCheck_session hp h hz hl he, hn, if_neg (by decide), if_neg (by split at hf <;> simp [*]), if_pos hc]

end Sys2Proof.Machine
end

section
/-! PROOFS. STAGE_COMMIT (R26, R27, R31): validation row by row, the commit, and the fields of the tables' rows. -/

namespace Sys2Proof.Machine

variable {s t u : State}

/-! ### Fields of a row -/

theorem sbits_eq_extract (x : Word) (lo w : Nat) : sbits x lo (w + 1) = (x.extractLsb' lo (w + 1)).toInt := by
  have h := (x.extractLsb' lo (w + 1)).isLt
  rw [sbits, bits_eq_extract, BitVec.toInt_eq_toNat_cond]
  simp only [Nat.add_sub_cancel]
  have hp : 2 ^ (w + 1) = 2 * 2 ^ w := by rw [pow_succ]; ring
  by_cases hu : (x.extractLsb' lo (w + 1)).toNat < 2 ^ w
  · rw [if_pos hu, if_pos (by omega)]
  · rw [if_neg hu, if_neg (by omega)]
    push_cast
    rfl

/-! ### Validation (R27, R28, R29) -/

theorem Mask.hasRel_iff (m : Mask) : m.hasRel = true ↔
    (m.lower ≠ none ∧ m.lowerRel = true) ∨ (m.upper ≠ none ∧ m.upperRel = true) := by
  simp [Mask.hasRel, Option.isSome_iff_ne_none]

theorem stepValid_iff (x : Tables) (i : Nat) : stepValid x i = true ↔
    (x.step i).kind ≠ .reserved ∧ 320 ≤ (x.step i).freq ∧ (x.step i).freq ≤ 320000 ∧ -4096 ≤ (x.step i).level ∧
    (x.step i).level ≤ 0 ∧ (x.step i).ws < (x.step i).we ∧ (x.step i).we ≤ (x.step i).dwell ∧
    64 ≤ (x.step i).we - (x.step i).ws ∧ ((x.step i).rb = true → 4 ≤ (x.step i).ws) ∧
    ((x.step i).harm = true → (x.step i).freq ≤ 128000) ∧
    ((x.step i).harm = true ∨ (x.step i).rb = true ∨ (x.step i).imp = true ∨ (x.step i).ref = true ∨
      (x.step i).contact = true → (x.step i).kind = .tone) ∧
    ((x.step i).contact = true → (x.step i).imp = true) ∧
    ((x.step i).kind = .tone → (i = 0 ∨ (x.step (i - 1)).kind ≠ .tone) → x.settingsRow.fade ≤ (x.step i).ws) ∧
    ((x.step i).mask < x.mask.length ∨ (x.step i).mask = 127) ∧
    (∀ m, x.maskRow (x.step i).mask = some m →
      ((m.lower ≠ none ∧ m.lowerRel = true) ∨ (m.upper ≠ none ∧ m.upperRel = true)) → (x.step i).ref = true) := by
  have bool (b : Bool) (P : Prop) : (b = false ∨ P) ↔ (b = true → P) := by cases b <;> simp
  have hwin : (x.step i).ws + 64 ≤ (x.step i).we ↔ 64 ≤ (x.step i).we - (x.step i).ws := by omega
  have honly : ((x.step i).kind == .tone || !((x.step i).harm || (x.step i).rb || (x.step i).imp || (x.step i).ref ||
      (x.step i).contact)) = true ↔ ((x.step i).harm = true ∨ (x.step i).rb = true ∨ (x.step i).imp = true ∨
        (x.step i).ref = true ∨ (x.step i).contact = true → (x.step i).kind = .tone) := by
    by_cases hk : (x.step i).kind = .tone <;> simp [hk, and_assoc]
  have hfade : (!((x.step i).kind == .tone && (i == 0 || (x.step (i - 1)).kind != .tone)) ||
      decide (x.settingsRow.fade ≤ (x.step i).ws)) = true ↔
      ((x.step i).kind = .tone → (i = 0 ∨ (x.step (i - 1)).kind ≠ .tone) → x.settingsRow.fade ≤ (x.step i).ws) := by
    generalize x.step i = p
    by_cases hk : p.kind = .tone <;> by_cases hi : i = 0 <;> by_cases hb : (x.step (i - 1)).kind = .tone <;>
      simp_all
  have hrel (m : Mask) : (m.hasRel = false ∨ (x.step i).ref = true) ↔
      (((m.lower ≠ none ∧ m.lowerRel = true) ∨ (m.upper ≠ none ∧ m.upperRel = true)) → (x.step i).ref = true) := by
    rw [← m.hasRel_iff, bool]
  have hmask : (∀ m, x.maskRow (x.step i).mask = some m → (m.hasRel = false ∨ (x.step i).ref = true)) ↔
      ∀ m, x.maskRow (x.step i).mask = some m →
        ((m.lower ≠ none ∧ m.lowerRel = true) ∨ (m.upper ≠ none ∧ m.upperRel = true)) → (x.step i).ref = true :=
    forall_congr' fun m => imp_congr_right fun _ => hrel m
  rw [← hmask]
  cases hm : x.maskRow (x.step i).mask with
  | none =>
    simp only [stepValid, hm, Bool.and_eq_true, and_assoc]
    rw [honly, hfade]
    simp only [hwin, maskNone, Bool.or_eq_true, Bool.not_eq_true', decide_eq_true_eq, bne_iff_ne, beq_iff_eq, bool,
      reduceCtorEq, false_implies, implies_true]
  | some m =>
    simp only [stepValid, hm, Bool.and_eq_true, and_assoc]
    rw [honly, hfade]
    simp only [hwin, maskNone, Bool.or_eq_true, Bool.not_eq_true', decide_eq_true_eq, bne_iff_ne, beq_iff_eq, bool,
      Option.some.injEq, forall_eq']

theorem settingsValid_iff (z : Settings) : z.valid = true ↔
    z.retestLimit ≤ 3 ∧ z.retryLimit ≤ 7 ∧ z.seatMode ≤ 1 ∧ 1 ≤ z.seatTimeout ∧ z.fade ≤ 4095 ∧
      -4096 ≤ z.polarityCode ∧ z.polarityCode ≤ 0 ∧ z.passLabel.bin ≤ 15 ∧ z.retestLabel.bin ≤ 15 ∧
      z.rejectLabel.bin ≤ 15 ∧ z.lowYield ≤ 1000 := by
  simp only [Settings.valid, Bool.and_eq_true, decide_eq_true_eq, and_assoc]

theorem maskValid_iff (m : Mask) : m.valid = true ↔
    (∀ lo hi, m.lower = some lo → m.upper = some hi → m.lowerRel = false → m.upperRel = false → lo ≤ hi) ∧
      ∀ lo hi, m.impLower = some lo → m.impUpper = some hi → lo ≤ hi := by
  rw [Mask.valid, Bool.and_eq_true]
  refine and_congr ?_ ?_
  · cases m.lower <;> cases m.upper <;> cases m.lowerRel <;> cases m.upperRel <;> simp
  · cases m.impLower <;> cases m.impUpper <;> simp

/-- No bit above 12 is a number below 8192. -/
theorem classes_small (c : ClassSet) : c.toNat < 8192 ↔ c.extractLsb' 13 3 = 0#3 := by
  rw [← BitVec.toNat_inj, BitVec.extractLsb'_toNat]
  have h := c.isLt
  simp only [Nat.shiftRight_eq_div_pow, BitVec.toNat_ofNat]
  omega

theorem gradeValid_iff (g : Grade) : g.valid = true ↔ g.classes.extractLsb' 13 3 = 0#3 ∧ g.label.bin ≤ 15 := by
  rw [Grade.valid, Bool.and_eq_true, decide_eq_true_eq, decide_eq_true_eq, classes_small]

/-- Validation by the conditions S on the settings and P, M, G on the rows of plan, mask and grading: it finds the first that fails. -/
theorem validate_spec (x : Tables) {S : Prop} {P M G : Nat → Prop}
    (hS : (x.settings.isEmpty || !x.settingsRow.valid) = false ↔ S) (hP : ∀ i, stepValid x i = true ↔ P i)
    (hM : ∀ i, (maskOf (x.mask.getD i [])).valid = true ↔ M i)
    (hG : ∀ i, (gradeOf (x.grading.getD i [])).valid = true ↔ G i) :
    (validate x = none ↔ ((S ∧ x.plan ≠ [] ∧ ∀ i, i < x.plan.length → P i) ∧ ∀ i, i < x.mask.length → M i) ∧
      ∀ i, i < x.grading.length → G i) ∧
    ∀ table row, validate x = some (table, row) →
      (table = 0 ∧ row = 0 ∧ ¬ S) ∨
      (table = 1 ∧ S ∧ ((row = 0 ∧ x.plan = []) ∨ (row < x.plan.length ∧ ¬ P row ∧ ∀ i, i < row → P i))) ∨
      (table = 2 ∧ (S ∧ x.plan ≠ [] ∧ ∀ i, i < x.plan.length → P i) ∧ row < x.mask.length ∧ ¬ M row ∧ ∀ i, i < row → M i) ∨
      (table = 3 ∧ ((S ∧ x.plan ≠ [] ∧ ∀ i, i < x.plan.length → P i) ∧ ∀ i, i < x.mask.length → M i) ∧
        row < x.grading.length ∧ ¬ G row ∧ ∀ i, i < row → G i) := by
  have all {n : Nat} {ok : Nat → Bool} {Q : Nat → Prop} (hQ : ∀ i, ok i = true ↔ Q i)
      (h : (List.range n).find? (fun i => !ok i) = none) : ∀ i, i < n → Q i := fun i hi =>
    (hQ i).mp (by simpa using List.find?_range_eq_none.mp h i hi)
  have first {n j : Nat} {ok : Nat → Bool} {Q : Nat → Prop} (hQ : ∀ i, ok i = true ↔ Q i)
      (h : (List.range n).find? (fun i => !ok i) = some j) : j < n ∧ ¬ Q j ∧ ∀ i, i < j → Q i := by
    obtain ⟨hj, hn, hb⟩ := List.find?_range_eq_some.mp h
    refine ⟨List.mem_range.mp hn, ?_, fun i hi => (hQ i).mp (by simpa using hb i hi)⟩
    rw [← hQ]
    simpa using hj
  have bad {o : Nat × Nat} (hv : validate x = some o) {A : Prop} (ha : ¬ A) : validate x = none ↔ A :=
    ⟨fun h => absurd (hv.symm.trans h) (by simp), fun h => absurd h ha⟩
  have found {o : Nat × Nat} (hv : validate x = some o) {B : Nat → Nat → Prop} (hb : B o.1 o.2) :
      ∀ table row, validate x = some (table, row) → B table row := fun table row h => by
    obtain rfl : o = (table, row) := Option.some.inj (hv.symm.trans h)
    exact hb
  cases hs : x.settings.isEmpty || !x.settingsRow.valid with
  | true =>
    have hv : validate x = some (0, 0) := by rw [validate, if_pos hs]
    have hn : ¬ S := by rw [← hS, hs]; decide
    exact ⟨bad hv fun h => hn h.1.1.1, found hv (.inl ⟨rfl, rfl, hn⟩)⟩
  | false =>
    have hok : S := hS.mp hs
    by_cases hpl : x.plan = []
    · have hv : validate x = some (1, 0) := by rw [validate, hs, hpl]; rfl
      exact ⟨bad hv fun h => h.1.1.2.1 hpl, found hv (.inr (.inl ⟨rfl, hok, .inl ⟨rfl, hpl⟩⟩))⟩
    have hpe : x.plan.isEmpty = false := by simpa using hpl
    cases h1 : (List.range x.plan.length).find? fun i => !stepValid x i with
    | some i =>
      have hv : validate x = some (1, i) := by simp only [validate, hs, hpe, h1, Bool.false_eq_true, if_false]
      obtain ⟨hi, hb, hlow⟩ := first hP h1
      exact ⟨bad hv fun h => hb (h.1.1.2.2 i hi), found hv (.inr (.inl ⟨rfl, hok, .inr ⟨hi, hb, hlow⟩⟩))⟩
    | none =>
      have hplan := all hP h1
      cases h2 : (List.range x.mask.length).find? fun i => !(maskOf (x.mask.getD i [])).valid with
      | some i =>
        have hv : validate x = some (2, i) := by simp only [validate, hs, hpe, h1, h2, Bool.false_eq_true, if_false]
        obtain ⟨hi, hb, hlow⟩ := first hM h2
        exact ⟨bad hv fun h => hb (h.1.2 i hi),
          found hv (.inr (.inr (.inl ⟨rfl, ⟨hok, hpl, hplan⟩, hi, hb, hlow⟩)))⟩
      | none =>
        have hmask := all hM h2
        cases h3 : (List.range x.grading.length).find? fun i => !(gradeOf (x.grading.getD i [])).valid with
        | some i =>
          have hv : validate x = some (3, i) := by
            simp only [validate, hs, hpe, h1, h2, h3, Bool.false_eq_true, if_false]
          obtain ⟨hi, hb, hlow⟩ := first hG h3
          exact ⟨bad hv fun h => hb (h.2 i hi),
            found hv (.inr (.inr (.inr ⟨rfl, ⟨⟨hok, hpl, hplan⟩, hmask⟩, hi, hb, hlow⟩)))⟩
        | none =>
          have hv : validate x = none := by simp only [validate, hs, hpe, h1, h2, h3, Bool.false_eq_true, if_false]
          exact ⟨⟨fun _ => ⟨⟨⟨hok, hpl, hplan⟩, hmask⟩, all hG h3⟩, fun _ => hv⟩,
            fun table row h => absurd (hv.symm.trans h) (by simp)⟩

theorem settingsOk_iff (x : Tables) : (x.settings.isEmpty || !x.settingsRow.valid) = false ↔
    x.settings ≠ [] ∧ x.settingsRow.valid = true := by
  simp

/-! ### Fields of the tables' rows (R18, R21) -/

/-- Half-word i of a row as a bit vector (R21). -/
def rowHalf (r : Row) (i : Nat) : BitVec 16 := (r.getD (i / 2) 0#32).extractLsb' (16 * (i % 2)) 16

theorem halfWord_eq (r : Row) (i : Nat) : halfWord r i = (rowHalf r i).toNat := bits_eq_extract _ _ _

theorem halfLevel_eq (r : Row) (i : Nat) : halfLevel r i = (rowHalf r i).toInt := sbits_eq_extract _ _ 15

theorem labelField_eq (h : BitVec 16) :
    labelField h.toNat = ⟨(h.extractLsb' 8 8).toNat, (h.extractLsb' 0 8).toNat⟩ := by
  have hlt := h.isLt
  simp only [labelField, LabelField.mk.injEq, BitVec.extractLsb'_toNat, Nat.shiftRight_eq_div_pow]
  omega

theorem settingsOf_eq (r : Row) : settingsOf r =
    { model := (rowHalf r 0).toNat, retestLimit := (rowHalf r 1).toNat, retryLimit := (rowHalf r 2).toNat
      seatMode := (rowHalf r 3).toNat, seatTimeout := (rowHalf r 4).toNat, fade := (rowHalf r 5).toNat
      settleLimit := (rowHalf r 6).toNat, ambientLimit := (rowHalf r 7).toInt, contactFloor := (rowHalf r 8).toInt
      polarityCode := (rowHalf r 9).toInt, lowYield := (rowHalf r 13).toNat
      passLabel := ⟨((rowHalf r 10).extractLsb' 8 8).toNat, ((rowHalf r 10).extractLsb' 0 8).toNat⟩
      retestLabel := ⟨((rowHalf r 11).extractLsb' 8 8).toNat, ((rowHalf r 11).extractLsb' 0 8).toNat⟩
      rejectLabel := ⟨((rowHalf r 12).extractLsb' 8 8).toNat, ((rowHalf r 12).extractLsb' 0 8).toNat⟩ } := by
  simp only [settingsOf, halfWord_eq, halfLevel_eq, labelField_eq]

theorem gradeOf_eq (r : Row) : gradeOf r =
    ⟨rowHalf r 0, ⟨((rowHalf r 1).extractLsb' 8 8).toNat, ((rowHalf r 1).extractLsb' 0 8).toNat⟩⟩ := by
  simp only [gradeOf, halfWord_eq, labelField_eq, BitVec.ofNat_toNat, BitVec.setWidth_eq]

theorem stepKind_eq (w : Word) : (stepOf [w]).kind =
    if w.extractLsb' 30 2 = 0#2 then .tone else if w.extractLsb' 30 2 = 1#2 then .pulse
    else if w.extractLsb' 30 2 = 2#2 then .gap else .reserved := by
  have h : bits ([w].getD 0 0#32) 30 2 = (w.extractLsb' 30 2).toNat := bits_eq_extract _ _ _
  simp only [stepOf, Row.word, h]
  generalize w.extractLsb' 30 2 = v
  revert v
  decide

theorem stepOf_eq (r : Row) : stepOf r =
    { kind := if (r.getD 0 0#32).extractLsb' 30 2 = 0#2 then .tone else if (r.getD 0 0#32).extractLsb' 30 2 = 1#2 then .pulse
        else if (r.getD 0 0#32).extractLsb' 30 2 = 2#2 then .gap else .reserved
      harm := (r.getD 0 0#32).getLsbD 29, rb := (r.getD 0 0#32).getLsbD 28, imp := (r.getD 0 0#32).getLsbD 27
      contact := (r.getD 0 0#32).getLsbD 26, ref := (r.getD 0 0#32).getLsbD 25
      residual := ((r.getD 0 0#32).extractLsb' 23 2).toNat + 1, mask := ((r.getD 0 0#32).extractLsb' 16 7).toNat
      level := ((r.getD 0 0#32).extractLsb' 0 16).toInt, freq := ((r.getD 1 0#32).extractLsb' 0 19).toNat
      dwell := ((r.getD 2 0#32).extractLsb' 16 16).toNat, ws := ((r.getD 2 0#32).extractLsb' 0 16).toNat
      we := ((r.getD 3 0#32).extractLsb' 16 16).toNat } := by
  rw [← stepKind_eq, ← sbits_eq_extract _ _ 15]
  simp only [← bits_eq_extract]
  rfl

theorem maskOf_eq (r : Row) :
    let word (i : Nat) : Word := r.getD i 0#32
    let limit (present i lo : Nat) : Option Level :=
       if (word 0).getLsbD present = true then some ((word i).extractLsb' lo 16).toInt else none
    maskOf r =
      { lower := limit 0 2 16, upper := limit 1 2 0, lowerRel := (word 0).getLsbD 8, upperRel := (word 0).getLsbD 9
        thd := limit 2 3 16, rb := limit 3 3 0, crest := limit 4 4 16, impLower := limit 5 4 0
        impUpper := limit 6 5 16, noise := limit 7 5 0, polarity := ((word 1).extractLsb' 8 2).toNat
        guard := ((word 1).extractLsb' 0 8).toNat } := by
  intro word limit
  simp only [limit, ← sbits_eq_extract _ _ 15, ← bits_eq_extract]
  rfl

/-! ### STAGE_COMMIT (R26, R31) -/

theorem swap_generation {k : SlotId} {b : Fin 2} {e : Session} (hb : s.sessionBuffer k = some b) (he : s.buffer b = some e) :
    ((s.swap k).slot k).generation = (s.slot k).generation + 1#16 := by
  have hcancel (x : State) : ((x.cancelCapture k .planSwap).slot k).generation = (x.slot k).generation := by
    simp only [State.cancelCapture]
    split <;> simp [State.produceRefDone]
  simp only [State.swap, hb, he]
  split <;> simp [hcancel, Slot.install]

theorem scopeOk_stageCommit (k : SlotId) : Kind.scopeOk .stageCommit (slotScope k) = true := by
  revert k; decide

theorem exec_stageCommit (k : SlotId) (tag : BitVec 8) (hr : s.ReplyRoom) :
    exec (.stageCommit (slotScope k) tag) s = .next (takeStageCommit (slotScope k) tag s).endEvent :=
  exec_taken rfl hr rfl (scopeOk_stageCommit k) rfl

theorem invalid_word (table row : Nat) :
    replyWord Kind.stageCommit.code .invalid table row = 0x12060000#32 ||| put table 8 8 ||| put row 0 8 := rfl

theorem commitData_swapped (g : BitVec 16) : commitData false g = [g.setWidth 32] := by
  rw [commitData, put_generation]
  simp [flag, put_zero]

theorem commitData_pending (g : BitVec 16) : commitData true g = [0x00010000#32 ||| g.setWidth 32] := by
  rw [commitData, put_generation]
  rfl

/-- The branches of STAGE_COMMIT on an unprotected slot. -/
theorem takeStageCommit_session {k : SlotId} {b : Fin 2} {e : Session} (tag : BitVec 8) (hp : s.prot.protects k = false)
    (hb : s.sessionBuffer k = some b) (he : s.buffer b = some e) :
    (e.pending = true → takeStageCommit (slotScope k) tag s = s.reply .stageCommit (slotScope k) tag .held []) ∧
    (∀ table row, e.pending = false → validate e.tables = some (table, row) →
      takeStageCommit (slotScope k) tag s = s.queueReply (replyMsg (slotScope k) tag
        (0x12060000#32 ||| put table 8 8 ||| put row 0 8) [])) ∧
    (e.pending = false → validate e.tables = none →
      takeStageCommit (slotScope k) tag s = s.commit k b (slotScope k) tag) := by
  have hs := session_of_buffer hb he
  refine ⟨fun h => ?_, fun table row h hv => ?_, fun h hv => ?_⟩
  · simp [takeStageCommit, hp, hb, hs, h]
  · simp [takeStageCommit, hp, hb, hs, h, hv, invalid_word]
  · simp [takeStageCommit, hp, hb, hs, h, hv]

theorem takeStageCommit_none {k : SlotId} (tag : BitVec 8) (hp : s.prot.protects k = false) (hs : s.session k = none) :
    takeStageCommit (slotScope k) tag s = s.reply .stageCommit (slotScope k) tag .refused [] := by
  simp [takeStageCommit, hp, hs]

/-- Settles O18: the branches of STAGE_COMMIT, validation by its conditions in their order, and the rows' fields. -/
theorem stageCommitEffect : Obligations.StageCommitEffect := by
  unfold Obligations.StageCommitEffect
  refine ⟨fun k tag b e s hr hp hb he hn => ?_, fun k tag s hr hp => ⟨fun h => ?_, fun e h hn => ?_⟩, fun x => ?_,
    fun x r index => ?_⟩
  · obtain ⟨-, hinvalid, hvalid⟩ := takeStageCommit_session tag hp hb he
    refine ⟨fun table row hv => ?_, fun hv ho => ?_, fun hv ho => ?_⟩
    · rw [exec_stageCommit k tag hr, hinvalid table row hn hv]
    · rw [exec_stageCommit k tag hr, hvalid hn hv, State.commit, ho, if_pos (by decide)]
      simp only [swap_generation hb he, commitData_swapped]
    · rw [exec_stageCommit k tag hr, hvalid hn hv, State.commit, if_neg (by simpa using ho)]
      simp only [he, Option.map_some, setBuffer_reads, commitData_pending]
  · rw [exec_stageCommit k tag hr, takeStageCommit_none tag hp h]
  · obtain ⟨b, hb, he⟩ := buffer_of_session h
    rw [exec_stageCommit k tag hr, (takeStageCommit_session tag hp hb he).1 hn]
  · refine validate_spec x ?_ (fun i => ?_) (fun i => ?_) (fun i => ?_)
    · rw [settingsOk_iff, settingsValid_iff]
    · rw [stepValid_iff]
    · rw [maskValid_iff]
    · rw [gradeValid_iff]
  · intro word half label
    refine ⟨fun h => ?_, fun h => ?_, maskOf_eq r, gradeOf_eq r, fun h => ?_, fun h => ?_⟩
    · subst h
      exact settingsOf_eq _
    · subst h
      exact stepOf_eq _
    · rw [h]; rfl
    · exact if_neg (by simpa [maskNone] using h)

end Sys2Proof.Machine
end

section
/-! PROOFS. A tick's samples (R4, R39, R62, R144): the debounce of one input, and what the other parts of a tick leave of the
inputs. -/

namespace Sys2Proof.Machine

variable {s t u : State}

/-! ### One debounced input -/

/-- The input's samples while the line stands apart from the level: the count rises, and at the last the level follows. -/
theorem sample_iterate (d : Debounce) {need : Nat} (hc : d.count = 0) (hn : 1 ≤ need) (hl : d.line ≠ d.stable) :
    ∀ i, (i < need → (fun x : Debounce => x.sample need)^[i] d = { d with count := i }) ∧
      (need ≤ i → (fun x : Debounce => x.sample need)^[i] d = { d with stable := d.line, count := 0 })
  | 0 => ⟨fun _ => by rw [Function.iterate_zero_apply, ← hc], fun h => by omega⟩
  | i + 1 => by
    obtain ⟨ih1, ih2⟩ := sample_iterate d hc hn hl i
    rw [Function.iterate_succ_apply']
    refine ⟨fun h => ?_, fun h => ?_⟩
    · rw [ih1 (by omega)]
      simp [Debounce.sample, hl, show ¬ need ≤ i + 1 by omega]
    · by_cases hi : i < need
      · rw [ih1 hi]
        simp [Debounce.sample, hl, show need ≤ i + 1 by omega]
      · rw [ih2 (by omega)]
        simp [Debounce.sample]

/-- Asking for no sample is asking for one. -/
theorem sample_zero (d : Debounce) : d.sample 0 = d.sample 1 := by
  simp [Debounce.sample]

theorem sample_code (d : Debounce) (code : Nat) : d.sample ([1, 1, 5, 20].getD code 20) = d.sample (debounceSamples code) := by
  match code with
  | 0 => exact (sample_zero d).symm
  | 1 | 2 | 3 => rfl
  | n + 4 => rfl

theorem changes_iff (d : Debounce) (need : Nat) : d.changes need = true ↔ d.line ≠ d.stable ∧ need ≤ d.count + 1 := by
  simp [Debounce.changes]

/-- A level that changes: line and level agree, and the count starts again. -/
theorem sample_of_changes {d : Debounce} {need : Nat} (h : d.changes need = true) : d.sample need = .settled d.line := by
  obtain ⟨hl, hn⟩ := (changes_iff d need).mp h
  simp [Debounce.sample, Debounce.settled, hl, hn]

/-! ### What leaves the inputs -/

/-- MRK but for its records, its port answer and its stray count. -/
def Marking.bare (m : Marking) : Marking := { m with records := [], port := .idle, stray := 0 }

/-- Every input and the settings of its samples stand as they stood: MRK's, and each nest's SEAT. -/
structure Steady (s t : State) : Prop where
  bare : t.mrk.bare = s.mrk.bare
  seat : ∀ n, (t.nest n).seat = (s.nest n).seat ∧ (t.nest n).config.seatCode = (s.nest n).config.seatCode

theorem Steady.refl (s : State) : Steady s s := ⟨rfl, fun _ => ⟨rfl, rfl⟩⟩

theorem Steady.trans (h : Steady s t) (g : Steady t u) : Steady s u :=
  ⟨g.bare.trans h.bare, fun n => ⟨(g.seat n).1.trans (h.seat n).1, (g.seat n).2.trans (h.seat n).2⟩⟩

theorem steady_of_nests (hb : t.mrk.bare = s.mrk.bare) (hn : t.nests = s.nests) : Steady s t :=
  ⟨hb, fun n => by rw [nest_congr hn]; exact ⟨rfl, rfl⟩⟩

theorem foldl_steady {α : Type} {f : State → α → State} (hf : ∀ s x, Steady s (f s x)) :
    ∀ (l : List α) (s : State), Steady s (l.foldl f s)
  | [], s => .refl s
  | x :: l, s => (hf s x).trans (foldl_steady hf l _)

theorem resolveLabel_bare (s : State) (i : Nat) (marked fault : Bool) : (s.resolveLabel i marked fault).mrk.bare = s.mrk.bare := by
  simp only [State.resolveLabel]
  (repeat' split)
  · rfl
  · simp [Marking.bare]
  · simp [Marking.bare]

theorem makeRoom_bare (s : State) : s.makeRoom.mrk.bare = s.mrk.bare := by
  simp only [State.makeRoom]
  (repeat' split)
  · exact resolveLabel_bare s _ _ _
  · rfl
  · rfl

theorem createLabel_bare (s : State) (r : Label) : (s.createLabel r).mrk.bare = s.mrk.bare :=
  makeRoom_bare s

theorem recordVerdict_bare (s : State) (n : NestId) (r : Run) (v : VerdictKind) (c : ClassSet) (g : LabelField) :
    (s.recordVerdict n r v c g).mrk.bare = s.mrk.bare := by
  have entry : (if v == .retest then s.addRetest r c else s).mrk = s.mrk := by split <;> simp
  have verdict (x : State) : (x.reportVerdict v r.lotId).mrk = x.mrk := by simp
  simp only [State.recordVerdict]
  split
  · rw [createLabel_bare, verdict, entry]
  · rw [verdict, entry]

theorem endRun_steady (s : State) (n : NestId) (cause : EndCause) : Steady s (s.endRun n cause) where
  bare := by
    rw [(endRun_records s n cause).2.1, State.verdictRecords]
    split
    · exact recordVerdict_bare s n _ _ _ _
    · rfl
  seat m := by
    by_cases h : n = m
    · subst h
      obtain ⟨-, -, -, -, hc, hs, -⟩ := endRun_nest_leaves s n cause
      exact ⟨hs, by rw [hc]⟩
    · obtain ⟨hc, hs, -⟩ := (endRun_nest_other s h cause).same.fields
      exact ⟨hs, by rw [hc]⟩

theorem modNest_steady (s : State) (n : NestId) {f : Nest → Nest} (h : ∀ x, (f x).seat = x.seat)
    (hc : ∀ x, (f x).config.seatCode = x.config.seatCode) : Steady s (s.modNest n f) where
  bare := rfl
  seat m := by
    rw [nest_modNest]
    split
    · next hn => subst hn; exact ⟨h _, hc _⟩
    · exact ⟨rfl, rfl⟩

theorem setFlag_steady (s : State) (f : Flag) : Steady s (s.setFlag f) := steady_of_nests (by simp) (by simp)

theorem loseNest_steady (s : State) (n : NestId) : Steady s (s.loseNest n) := by
  rw [loseNest_eq]
  split
  · exact endRun_steady s n _
  · split
    · exact modNest_steady s n (f := fun x => { x with
        phase := .reporting, engine := { x.engine with mode := .silent, lobe := .ended } }) (fun _ => rfl) (fun _ => rfl)
    · exact .refl s

theorem loseHead_steady (s : State) : Steady s s.loseHead := by
  have h0 : Steady s (s.modLnk Link.lose) := ⟨rfl, fun _ => ⟨rfl, rfl⟩⟩
  exact (h0.trans (setFlag_steady _ .headLoss)).trans (foldl_steady loseNest_steady allNests _)

theorem modRun_steady (s : State) (n : NestId) (f : Run → Run) : Steady s (s.modRun n f) :=
  modNest_steady s n (f := fun x => { x with run := f x.run }) (fun _ => rfl) fun _ => rfl

theorem addContact_steady (s : State) (n : NestId) : Steady s (s.addContact n) := modRun_steady s n _

theorem seatTimedOut_steady (s : State) (n : NestId) : Steady s (s.seatTimedOut n) := by
  rw [State.seatTimedOut]
  split
  · exact ((modRun_steady s n _).trans (addContact_steady _ n)).trans (endRun_steady _ n _)
  · exact .refl s

theorem tickSeatTimer_steady (s : State) (n : NestId) : Steady s (s.tickSeatTimer n) := by
  rw [State.tickSeatTimer]
  (repeat' split)
  · exact seatTimedOut_steady s n
  · exact modRun_steady s n _
  · exact .refl s

theorem tickPresence_steady (s : State) : Steady s s.tickPresence := by
  simp only [State.tickPresence]
  (repeat' split)
  · exact loseHead_steady s
  · exact ⟨rfl, fun _ => ⟨rfl, rfl⟩⟩
  · exact .refl s

theorem endEvent_steady (s : State) : Steady s s.endEvent where
  bare := by simp
  seat n := by
    rcases endEvent_nest s n with h | ⟨-, -, h⟩
    · rw [h]; exact ⟨rfl, rfl⟩
    · rw [h, Nest.returnIdle]
      exact ⟨rfl, by dsimp only; split <;> rfl⟩

theorem tickNotices_steady (s : State) : Steady s s.tickNotices := by
  simp only [State.tickNotices]
  (repeat' split)
  · exact .refl s
  · exact steady_of_nests (by simp) (by simp)
  · exact ⟨rfl, fun _ => ⟨rfl, rfl⟩⟩

theorem resolveOverdue_steady : ∀ (fuel : Nat) (s : State), Steady s (State.resolveOverdue fuel s)
  | 0, s => .refl s
  | fuel + 1, s => by
    rw [State.resolveOverdue]
    split
    · exact (steady_of_nests (resolveLabel_bare s _ _ _) (by simp)).trans (resolveOverdue_steady fuel _)
    · exact .refl s

theorem tickLabels_steady (s : State) : Steady s s.tickLabels := by
  have h0 : Steady s (s.modMrk Marking.ageRecords) := ⟨rfl, fun _ => ⟨rfl, rfl⟩⟩
  exact h0.trans (resolveOverdue_steady _ _)

/-! ### The parts of a tick that sample -/

theorem keyTurnedOff_nest (s : State) (n : NestId) : s.keyTurnedOff.nest n = (s.nest n).keyTurnedOff := by
  simp only [State.keyTurnedOff, allNests, List.foldl, nest_modNest]
  fin_cases n <;> rfl

theorem keyTurnedOff_prot (s : State) : s.keyTurnedOff.prot = { s.prot with key := .settled false } :=
  foldl_keeps (P := fun t => t.prot = { s.prot with key := .settled false }) (fun _ _ h => h) allNests _ rfl

theorem keyTurnedOff_mrk (s : State) : s.keyTurnedOff.mrk = s.mrk :=
  foldl_keeps (P := fun t => t.mrk = s.mrk) (fun _ _ h => h) allNests _ rfl

theorem keyTurnedOff_steady (s : State) : Steady s s.keyTurnedOff where
  bare := by rw [keyTurnedOff_mrk]
  seat n := by
    rw [keyTurnedOff_nest, Nest.keyTurnedOff]
    split
    · exact ⟨rfl, by dsimp only; split <;> rfl⟩
    · exact ⟨rfl, rfl⟩

theorem tickKey_steady (s : State) : Steady s s.tickKey := by
  have h0 (p : Protection) : Steady s { s with prot := p } := ⟨rfl, fun _ => ⟨rfl, rfl⟩⟩
  simp only [State.tickKey]
  (repeat' split)
  · exact ⟨rfl, fun _ => ⟨rfl, rfl⟩⟩
  · exact (h0 _).trans (keyTurnedOff_steady _)
  · exact h0 _

theorem tickKey_key (s : State) : s.tickKey.prot.key = s.prot.key.sample keySamples := by
  simp only [State.tickKey]
  split
  · next hc =>
    rw [sample_of_changes hc]
    split
    · next hl =>
      simp only [State.keyTurnedOn, hl]
      split <;> rfl
    · next hl =>
      rw [keyTurnedOff_prot, Bool.not_eq_true _ |>.mp hl]
  · rfl

theorem becomeRunning_steady (s : State) (n : NestId) (cause : StartCause) : Steady s (s.becomeRunning n cause) where
  bare := rfl
  seat m := by
    rw [State.becomeRunning, nest_modNest]
    split
    · next hm => subst hm; exact ⟨rfl, rfl⟩
    · exact ⟨rfl, rfl⟩

/-- A state in which one SEAT has its new level. -/
theorem setSeat_eq (s : State) (n : NestId) (d : Debounce) {t : State} (h : Steady (s.modNest n fun x => { x with seat := d }) t) :
    t.mrk.bare = s.mrk.bare ∧ ∀ m, (t.nest m).seat = (if n = m then d else (s.nest m).seat) ∧
      (t.nest m).config.seatCode = (s.nest m).config.seatCode := by
  refine ⟨h.bare, fun m => ?_⟩
  obtain ⟨h1, h2⟩ := h.seat m
  rw [h1, h2, nest_modNest]
  split
  · next hm => subst hm; exact ⟨rfl, rfl⟩
  · exact ⟨rfl, rfl⟩

theorem seatClosed_seat (s : State) (n : NestId) :
    Steady (s.modNest n fun x => { x with seat := .settled true }) (s.seatClosed n) := by
  simp only [State.seatClosed]
  split
  · exact becomeRunning_steady _ n _
  · exact .refl _

theorem seatOpened_seat (s : State) (n : NestId) :
    Steady (s.modNest n fun x => { x with seat := .settled false }) (s.seatOpened n) := by
  simp only [State.seatOpened]
  split
  · exact (addContact_steady _ n).trans (endRun_steady _ n _)
  · exact .refl _

theorem tickSeat_seat (s : State) (n : NestId) :
    Steady (s.modNest n fun x => { x with seat := (s.nest n).seat.sample (debounceSamples (s.nest n).config.seatCode) })
      (s.tickSeat n) := by
  simp only [State.tickSeat]
  split
  · next hc =>
    rw [sample_of_changes hc]
    split
    · next hl =>
      rw [hl]
      have h := seatClosed_seat (s.modNest n fun x => { x with seat := .settled true }) n
      rwa [modNest_modNest] at h
    · next hl =>
      rw [Bool.not_eq_true _ |>.mp hl]
      have h := seatOpened_seat (s.modNest n fun x => { x with seat := .settled false }) n
      rwa [modNest_modNest] at h
  · exact .refl _

/-- Each nest's SEAT takes its sample as the tick comes to that nest. -/
theorem foldl_tickSeat : ∀ (ns : List NestId) (s : State), ns.Nodup →
    (ns.foldl State.tickSeat s).mrk.bare = s.mrk.bare ∧ ∀ m, ((ns.foldl State.tickSeat s).nest m).seat =
      (if m ∈ ns then (s.nest m).seat.sample (debounceSamples (s.nest m).config.seatCode) else (s.nest m).seat)
  | [], s, _ => ⟨rfl, fun m => by rw [if_neg List.not_mem_nil]; rfl⟩
  | n :: ns, s, hd => by
    obtain ⟨hn, hd⟩ := List.nodup_cons.mp hd
    obtain ⟨hb, hs⟩ := setSeat_eq s n _ (tickSeat_seat s n)
    obtain ⟨ihb, ihs⟩ := foldl_tickSeat ns (s.tickSeat n) hd
    refine ⟨ihb.trans hb, fun m => ?_⟩
    obtain ⟨h1, h2⟩ := hs m
    rw [List.foldl_cons, ihs m, h1, h2]
    by_cases hm : n = m
    · subst hm
      rw [if_neg hn, if_pos rfl, if_pos (List.mem_cons_self ..)]
    · have hc : m ∈ n :: ns ↔ m ∈ ns := by rw [List.mem_cons, or_iff_right (Ne.symm hm)]
      simp only [if_neg hm, hc]

theorem resolveIssued_bare (s : State) (marked : Bool) : (s.resolveIssued marked).mrk.bare = s.mrk.bare := by
  simp only [State.resolveIssued]
  split
  · exact resolveLabel_bare s _ _ _
  · rfl

theorem requestRising_bare (s : State) (n : NestId) : (s.requestRising n).mrk.bare = s.mrk.bare := by
  simp only [State.requestRising, State.answerRequest]
  split
  · exact resolveIssued_bare s _
  · exact resolveIssued_bare s _

theorem strayResult_bare (s : State) : s.strayResult.mrk.bare = s.mrk.bare := by
  simp [State.strayResult, Marking.bare]

theorem markedRising_bare (s : State) : s.markedRising.mrk.bare = s.mrk.bare := by
  simp only [State.markedRising]
  split
  · exact resolveIssued_bare s _
  · exact strayResult_bare s

theorem jamRising_bare (s : State) : s.jamRising.mrk.bare = s.mrk.bare := by
  simp only [State.jamRising]
  split
  · exact resolveIssued_bare s _
  · exact strayResult_bare s

theorem tickMarking_bare (s : State) : s.tickMarking.mrk.bare = s.mrk.bare.sampleInputs := by
  have rise (b : Bool) (x : State) (n : NestId) :
      (if b then x.requestRising n else x.requestFalling).mrk.bare = x.mrk.bare := by
    split
    · exact requestRising_bare x n
    · rfl
  have marked (b : Bool) (x : State) : (if b then x.markedRising else x).mrk.bare = x.mrk.bare := by
    split
    · exact markedRising_bare x
    · rfl
  have jam (b : Bool) (x : State) : (if b then x.jamRising else x).mrk.bare = x.mrk.bare := by
    split
    · exact jamRising_bare x
    · rfl
  rw [State.tickMarking, jam, marked]
  split
  · rw [rise]; rfl
  · rfl

theorem tickMarking_frame (s : State) : s.tickMarking.nests = s.nests ∧ s.tickMarking.prot = s.prot := by
  rw [State.tickMarking]
  (repeat' split)
  all_goals simp

/-! ### A whole tick -/

theorem tickPresence_prot (s : State) : s.tickPresence.prot = s.prot := by
  rw [State.tickPresence]
  (repeat' split)
  · exact (loseHead_frame s).1
  · rfl
  · rfl

theorem tickSeat_prot (s : State) (n : NestId) : (s.tickSeat n).prot = s.prot := by
  rw [State.tickSeat]
  (repeat' split) <;> simp

theorem tickSeatTimer_prot (s : State) (n : NestId) : (s.tickSeatTimer n).prot = s.prot := by
  rw [State.tickSeatTimer]
  (repeat' split) <;> simp [State.modRun]

theorem resolveOverdue_prot : ∀ (fuel : Nat) (s : State), (State.resolveOverdue fuel s).prot = s.prot
  | 0, _ => rfl
  | fuel + 1, s => by
    rw [State.resolveOverdue]
    split
    · rw [resolveOverdue_prot fuel]; simp
    · rfl

theorem tickNotices_prot (s : State) : s.tickNotices.prot = s.prot := by
  rw [State.tickNotices]
  (repeat' split) <;> simp

/-- The state at which a tick comes to the SEATs. -/
def State.tickFirst (s : State) : State := s.tickNotices.tickLabels.tickKey

/-- The state at which a tick comes to the head's presence. -/
def State.tickInputs (s : State) : State := (allNests.foldl State.tickSeat s.tickFirst).tickMarking

theorem tick_eq (s : State) : s.tick = (allNests.foldl State.tickSeatTimer s.tickInputs.tickPresence).endEvent := rfl

/-- After its inputs a tick only plays out what they brought. -/
theorem tick_steady (s : State) : Steady s.tickInputs s.tick :=
  ((tickPresence_steady _).trans (foldl_steady tickSeatTimer_steady allNests _)).trans (endEvent_steady _)

theorem tickFirst_steady (s : State) : Steady s s.tickFirst :=
  ((tickNotices_steady s).trans (tickLabels_steady _)).trans (tickKey_steady _)

theorem tickInputs_samples (s : State) : s.tickInputs.mrk.bare = s.mrk.bare.sampleInputs ∧
    ∀ n, (s.tickInputs.nest n).seat = (s.nest n).seat.sample (debounceSamples (s.nest n).config.seatCode) := by
  have hf := tickFirst_steady s
  obtain ⟨hb, hs⟩ := foldl_tickSeat allNests s.tickFirst (by decide)
  refine ⟨by rw [State.tickInputs, tickMarking_bare, hb, hf.bare], fun n => ?_⟩
  rw [State.tickInputs, nest_congr (tickMarking_frame _).1, hs n, if_pos (mem_allNests n), (hf.seat n).1, (hf.seat n).2]

theorem tick_key (s : State) : s.tick.prot.key = s.prot.key.sample 20 := by
  have htimer : (allNests.foldl State.tickSeatTimer s.tickInputs.tickPresence).prot = s.tickInputs.tickPresence.prot :=
    foldl_keeps (P := fun t => t.prot = s.tickInputs.tickPresence.prot)
      (fun u n h => (tickSeatTimer_prot u n).trans h) allNests _ rfl
  have hseat : (allNests.foldl State.tickSeat s.tickFirst).prot = s.tickFirst.prot :=
    foldl_keeps (P := fun t => t.prot = s.tickFirst.prot) (fun u n h => (tickSeat_prot u n).trans h) allNests _ rfl
  have hprot : s.tick.prot = s.tickFirst.prot := by
    rw [tick_eq, (endEvent_frame _).2.2.1, htimer, tickPresence_prot, State.tickInputs, (tickMarking_frame _).2, hseat]
  have hlabels : s.tickNotices.tickLabels.prot = s.prot :=
    (resolveOverdue_prot _ _).trans (tickNotices_prot s)
  rw [hprot, State.tickFirst, tickKey_key, hlabels]
  rfl

/-- Up to the head's presence a tick leaves the link as it is. -/
theorem tickInputs_reports (s : State) : Reports s s.tickInputs :=
  tickMarking_reports (foldl_reports (fun h n => tickSeat_reports h n) allNests
    (tickKey_reports (tickLabels_reports (tickNotices_reports (.refl s)))))

theorem tick_reports (s : State) : Reports s.tickInputs.tickPresence s.tick :=
  endEvent_reports (foldl_reports (fun h n => tickSeatTimer_reports h n) allNests (.refl _))

theorem loseHead_presence (s : State) : s.loseHead.lnk.presence = .lost := by
  obtain ⟨-, hl, -⟩ := Link.still_fields (loseHead_reports s).still
  exact hl

theorem tickPresence_counting {s : State} (hp : s.lnk.presence = .present) (h : s.lnk.elapsed < 9) :
    s.tickPresence = { s with lnk := { s.lnk with elapsed := s.lnk.elapsed + 1 } } := by
  have hn : ¬ Config.lossTicks ≤ s.lnk.elapsed + 1 := by
    change ¬ 10 ≤ s.lnk.elapsed + 1
    omega
  rw [State.tickPresence, hp, if_pos (by decide), if_neg hn]
  rfl

theorem tickPresence_loss {s : State} (hp : s.lnk.presence = .present) (h : 9 ≤ s.lnk.elapsed) :
    s.tickPresence = s.loseHead := by
  have hn : Config.lossTicks ≤ s.lnk.elapsed + 1 := by
    change 10 ≤ s.lnk.elapsed + 1
    omega
  rw [State.tickPresence, hp, if_pos (by decide), if_pos hn]

/-- The tenth tick since the last head frame is the loss; the ticks before it count (R4). -/
theorem tick_presence (s : State) (hp : s.lnk.presence = .present) :
    (s.lnk.elapsed < 9 → s.tick.lnk.presence = .present ∧ s.tick.lnk.elapsed = s.lnk.elapsed + 1) ∧
    (9 ≤ s.lnk.elapsed → s.tick.lnk.presence = .lost) := by
  obtain ⟨-, hip, hie, -⟩ := Link.still_fields (tickInputs_reports s).still
  obtain ⟨-, htp, hte, -⟩ := Link.still_fields (tick_reports s).still
  rw [hp] at hip
  rw [htp, hte]
  refine ⟨fun h => ?_, fun h => ?_⟩
  · rw [tickPresence_counting hip (by omega), ← hie]
    exact ⟨hip, rfl⟩
  · rw [tickPresence_loss hip (by omega)]
    exact loseHead_presence _

end Sys2Proof.Machine
end

section
/-! PROOFS. The parts of a tick (R62, R68, R144, R146, R154, R155, R171): each does what its event's row does, and the ages of
the labels. -/

namespace Sys2Proof.Machine

variable {s t u : State}

/-! ### Overdue labels (R146, R154, R155) -/

theorem resolveLabel_records {i : Nat} {r : Label} (h : s.mrk.records[i]? = some r) (marked fault : Bool) :
    (s.resolveLabel i marked fault).mrk = { s.mrk with records := s.mrk.records.eraseIdx i } := by
  simp only [State.resolveLabel, h]
  split <;> simp

/-- The lots of two states are the same, and so are the slots whose thresholds they are judged by. -/
def SameLots (s t : State) : Prop := s.lots = t.lots ∧ s.slots = t.slots

theorem SameLots.lot (h : SameLots s t) (k : SlotId) : s.lot k = t.lot k := lot_congr h.1 k

theorem SameLots.slot (h : SameLots s t) (k : SlotId) : s.slot k = t.slot k := slot_congr h.2 k

theorem SameLots.modLot (h : SameLots s t) (k : SlotId) (f : Lot → Lot) : SameLots (s.modLot k f) (t.modLot k f) := by
  refine ⟨?_, h.2⟩
  simp only [State.modLot, State.setLot, h.lot]
  rw [h.1]

theorem SameLots.evaluateAlarm (h : SameLots s t) (k : SlotId) : SameLots (s.evaluateAlarm k) (t.evaluateAlarm k) := by
  have alarm (x y : State) (hx : SameLots x y) : SameLots (x.setFlag .lowYield) (y.setFlag .lowYield) :=
    ⟨by simpa using hx.1, by simpa using hx.2⟩
  simp only [State.evaluateAlarm, h.lot, h.slot]
  (repeat' split)
  · exact h
  · exact h.modLot k _
  · exact h
  · exact alarm _ _ (h.modLot k _)
  · exact h

theorem SameLots.finalCount (h : SameLots s t) (k : SlotId) (pass : Bool) (c : ClassSet) :
    SameLots (s.finalCount k pass c) (t.finalCount k pass c) := (h.modLot k _).evaluateAlarm k

theorem SameLots.reportResolution (h : SameLots s t) (r : Label) (marked : Bool) :
    SameLots (s.reportResolution r marked) (t.reportResolution r marked) := by
  have hid : s.lotSlot r.lotId = t.lotSlot r.lotId := by simp only [State.lotSlot, h.lot]
  simp only [State.reportResolution, hid]
  (repeat' split)
  · exact h
  · exact h
  · exact (h.modLot _ _).finalCount _ _ _
  · exact (h.modLot _ _).finalCount _ _ _
  · exact (h.modLot _ _).finalCount _ _ _
  · exact (h.modLot _ _).finalCount _ _ _

theorem foldl_resolution_sameLots : ∀ (rs : List Label) {s t : State}, SameLots s t →
    SameLots (rs.foldl (fun u r => u.reportResolution r false) s) (rs.foldl (fun u r => u.reportResolution r false) t)
  | [], _, _, h => h
  | r :: rs, _, _, h => foldl_resolution_sameLots rs (h.reportResolution r false)

theorem resolveLabel_sameLots {i : Nat} {r : Label} (h : s.mrk.records[i]? = some r) (marked fault : Bool) :
    SameLots (s.resolveLabel i marked fault) (s.reportResolution r marked) := by
  have hm : SameLots (s.modMrk fun m => { m with records := m.records.eraseIdx i }) s := ⟨rfl, rfl⟩
  obtain ⟨h1, h2⟩ := hm.reportResolution r marked
  simp only [State.resolveLabel, h]
  split
  · exact ⟨by simpa using h1, by simp⟩
  · exact ⟨h1, h2⟩

/-- The first of the records with a property, taken out of the list: before it none has the property. -/
theorem findIdx?_split {α : Type} {p : α → Bool} : ∀ {l : List α} {i : Nat}, l.findIdx? p = some i →
    ∃ x, l[i]? = some x ∧ p x = true ∧ l.filter p = x :: (l.eraseIdx i).filter p ∧
      (l.eraseIdx i).filter (fun y => !p y) = l.filter (fun y => !p y)
  | [], _, h => by simp at h
  | y :: l, i, h => by
    rw [List.findIdx?_cons] at h
    cases hp : p y with
    | true =>
      rw [hp, if_pos rfl] at h
      obtain rfl := Option.some.inj h
      exact ⟨y, rfl, hp, by simp [hp], by simp [hp]⟩
    | false =>
      rw [hp, if_neg (by decide)] at h
      obtain ⟨j, hj, rfl⟩ := Option.map_eq_some_iff.mp h
      obtain ⟨x, hx, hpx, hf, hn⟩ := findIdx?_split hj
      exact ⟨x, hx, hpx, by simp [hp, hf], by simp [hp, hn]⟩

theorem overdue_congr {m m' : Marking} (h : m'.bare = m.bare) (r : Label) : m'.overdue r = m.overdue r := by
  have hm : m'.bare.tMark = m.bare.tMark := congrArg Marking.tMark h
  have hq : m'.bare.tQueue = m.bare.tQueue := congrArg Marking.tQueue h
  change m'.tMark = m.tMark at hm
  change m'.tQueue = m.tQueue at hq
  rw [Marking.overdue, Marking.overdue, hm, hq]

theorem resolveOverdue_flag : ∀ (fuel : Nat) (s : State), s.ntc.flags.getLsbD 5 = true →
    (State.resolveOverdue fuel s).ntc.flags.getLsbD 5 = true := fun fuel s h =>
  (resolveOverdue_reports fuel (.refl s)).flags 5 h

theorem resolveLabel_flag {i : Nat} {r : Label} (h : s.mrk.records[i]? = some r) :
    (s.resolveLabel i false true).ntc.flags.getLsbD 5 = true := by
  simp only [State.resolveLabel, h]
  exact setFlag_stands .labelFault

/-- What the resolution of the overdue records leaves in a state u: the other records, the lots with each reported UNMARKED, oldest
first, and LABEL_FAULT where there was one. -/
structure Overdues (s u : State) : Prop where
  mrk : u.mrk = { s.mrk with records := s.mrk.records.filter fun r => !s.mrk.overdue r }
  lots : SameLots u ((s.mrk.records.filter s.mrk.overdue).foldl (fun v r => v.reportResolution r false) s)
  flag : s.mrk.records.filter s.mrk.overdue ≠ [] → u.ntc.flags.getLsbD 5 = true

theorem overdues_none (h : s.mrk.records.findIdx? s.mrk.overdue = none) : Overdues s s := by
  have hno : ∀ r ∈ s.mrk.records, s.mrk.overdue r = false := by simpa using h
  have hnil : s.mrk.records.filter s.mrk.overdue = [] := List.filter_eq_nil_iff.mpr fun r hr => by simp [hno r hr]
  have hall : s.mrk.records.filter (fun r => !s.mrk.overdue r) = s.mrk.records :=
    List.filter_eq_self.mpr fun r hr => by simp [hno r hr]
  refine ⟨by rw [hall], ?_, fun h => absurd hnil h⟩
  rw [hnil]
  exact ⟨rfl, rfl⟩

/-- The first overdue record resolved, and then the others. -/
theorem overdues_some {i : Nat} (hi : s.mrk.records.findIdx? s.mrk.overdue = some i)
    (h : Overdues (s.resolveLabel i false true) u) (hf : u.ntc.flags.getLsbD 5 = true) : Overdues s u := by
  obtain ⟨r, hr, -, hd, hk⟩ := findIdx?_split hi
  have hm := resolveLabel_records hr false true
  have hover : (s.resolveLabel i false true).mrk.overdue = s.mrk.overdue :=
    funext fun x => overdue_congr (resolveLabel_bare s i false true) x
  have hrec : (s.resolveLabel i false true).mrk.records = s.mrk.records.eraseIdx i := by rw [hm]
  obtain ⟨h1, h2, -⟩ := h
  rw [hover, hrec] at h1 h2
  refine ⟨by rw [h1, hk, hm], ?_, fun _ => hf⟩
  have hfold := foldl_resolution_sameLots ((s.mrk.records.eraseIdx i).filter s.mrk.overdue)
    (resolveLabel_sameLots hr false true)
  rw [hd]
  exact ⟨h2.1.trans hfold.1, h2.2.trans hfold.2⟩

/-- One overdue record less. -/
theorem overdue_length {i : Nat} (hi : s.mrk.records.findIdx? s.mrk.overdue = some i) :
    (s.mrk.records.filter s.mrk.overdue).length =
      ((s.resolveLabel i false true).mrk.records.filter (s.resolveLabel i false true).mrk.overdue).length + 1 := by
  obtain ⟨r, hr, -, hd, -⟩ := findIdx?_split hi
  have hover : (s.resolveLabel i false true).mrk.overdue = s.mrk.overdue :=
    funext fun x => overdue_congr (resolveLabel_bare s i false true) x
  rw [hover, resolveLabel_records hr false true, hd, List.length_cons]

theorem resolveOverdue_settled (fuel : Nat) (h : s.mrk.records.findIdx? s.mrk.overdue = none) :
    State.resolveOverdue fuel s = s := by
  cases fuel with
  | zero => rfl
  | succ fuel => simp only [State.resolveOverdue, h]

theorem resolveOverdue_overdues (fuel : Nat) (s : State) (hf : (s.mrk.records.filter s.mrk.overdue).length ≤ fuel) :
    Overdues s (State.resolveOverdue fuel s) := by
  induction fuel generalizing s with
  | zero =>
    have hnil := List.length_eq_zero_iff.mp (Nat.le_zero.mp hf)
    exact overdues_none (by simpa using hnil)
  | succ fuel ih =>
    rw [State.resolveOverdue]
    split
    · next i hi =>
      obtain ⟨r, hr, -⟩ := findIdx?_split hi
      have hl := overdue_length hi
      exact overdues_some hi (ih _ (by omega)) (resolveOverdue_flag fuel _ (resolveLabel_flag hr))
    · next hi => exact overdues_none hi

/-- MRK's part of a tick: the ages advance, and the records that are then overdue are resolved. -/
theorem tickLabels_spec (s : State) :
    let aged := s.mrk.records.map fun r => { r with age := r.age + 1 }
    let due (r : Label) : Bool := if r.issued then s.mrk.tMark * 10 ≤ r.age else s.mrk.tQueue * 1000 ≤ r.age
    let t := s.tickLabels
    ((∀ r ∈ aged, due r = false) → t = { s with mrk := { s.mrk with records := aged } }) ∧
    t.mrk = { s.mrk with records := aged.filter fun r => !due r } ∧
    t.lots = ((aged.filter due).foldl (fun u r => u.reportResolution r false) s).lots ∧
    ((∃ r ∈ aged, due r = true) → t.ntc.flags.getLsbD 5 = true) := by
  intro aged due t
  have hfuel : (aged.filter due).length ≤ aged.length := List.length_filter_le _ _
  obtain ⟨h1, h2, h3⟩ := resolveOverdue_overdues aged.length (s.modMrk Marking.ageRecords) hfuel
  refine ⟨fun h => ?_, h1, h2.1.trans ?_, fun ⟨r, hr, hd⟩ => h3 ?_⟩
  · have hi : aged.findIdx? due = none := by simpa using h
    exact resolveOverdue_settled aged.length (s := s.modMrk Marking.ageRecords) hi
  · exact (foldl_resolution_sameLots (s := s.modMrk Marking.ageRecords) (t := s) _ ⟨rfl, rfl⟩).1
  · exact List.ne_nil_of_mem (List.mem_filter.mpr ⟨hr, hd⟩)

/-! ### The parts of a tick and their events' rows -/

theorem tickNotices_rows (s : State) :
    (s.ntc.timer = none → s.tickNotices = s) ∧
    (∀ e, s.ntc.timer = some e → e + 1 < s.ntc.period * 100 →
      s.tickNotices = { s with ntc := { s.ntc with timer := some (e + 1) } }) ∧
    (∀ e, s.ntc.timer = some e → s.ntc.period * 100 ≤ e + 1 → exec .noticePeriodExpiry s = .next s.tickNotices) := by
  refine ⟨fun h => ?_, fun e h hl => ?_, fun e h hl => ?_⟩
  · simp only [State.tickNotices, h]
  · simp only [State.tickNotices, h, if_neg (show ¬ s.ntc.period * 100 ≤ e + 1 by omega)]
    rfl
  · change Host.Outcome.next s.periodExpiry = _
    simp only [State.tickNotices, h, if_pos hl, State.periodExpiry]
    rfl

theorem seatTimedOut_armed {n : NestId} (h : (s.nest n).phase = .armed) : s.seatTimedOut n =
    (s.setNest n { s.nest n with run := { (s.nest n).run with seatTimer := 0, contact := true } }).endRun n .seatTimeout := by
  rw [State.seatTimedOut, h, if_pos (by decide)]
  simp only [State.addContact, State.modRun, modNest_modNest]
  rfl

theorem tickSeatTimer_rows (n : NestId) (s : State) :
    ((s.nest n).phase ≠ .armed → s.tickSeatTimer n = s) ∧
    ((s.nest n).phase = .armed → 1 < (s.nest n).run.seatTimer → s.tickSeatTimer n = s.setNest n { s.nest n with
      run := { (s.nest n).run with seatTimer := (s.nest n).run.seatTimer - 1 } }) ∧
    ((s.nest n).phase = .armed → (s.nest n).run.seatTimer ≤ 1 →
      exec (.seatTimeout n) s = .next (s.tickSeatTimer n).endEvent ∧
      s.tickSeatTimer n = (s.setNest n { s.nest n with
        run := { (s.nest n).run with seatTimer := 0, contact := true } }).endRun n .seatTimeout) := by
  refine ⟨fun h => ?_, fun h hl => ?_, fun h hl => ?_⟩
  · rw [State.tickSeatTimer, if_neg (by simpa using h)]
  · rw [State.tickSeatTimer, h, if_pos (by decide), if_neg (by omega)]
    rfl
  · have ht : s.tickSeatTimer n = s.seatTimedOut n := by
      rw [State.tickSeatTimer, h, if_pos (by decide), if_pos hl]
    rw [ht]
    exact ⟨rfl, seatTimedOut_armed h⟩

theorem changes_eq_false {d : Debounce} {need : Nat} (h : d.line = d.stable ∨ d.count + 1 < need) :
    d.changes need = false := by
  rw [← Bool.not_eq_true, changes_iff]
  rintro ⟨hl, hn⟩
  rcases h with h | h
  · exact hl h
  · omega

theorem tickKey_rows (s : State) :
    let d := s.prot.key
    (d.line = true → d.stable = false → 19 ≤ d.count → exec .keyOn s = .next s.tickKey) ∧
    (d.line = false → d.stable = true → 19 ≤ d.count → exec .keyOff s = .next s.tickKey) ∧
    (d.line = d.stable ∨ d.count < 19 → s.tickKey = { s with prot := { s.prot with key := d.sample 20 } }) := by
  intro d
  have changed (hl : d.line ≠ d.stable) (hc : 19 ≤ d.count) : d.changes keySamples = true := by
    rw [changes_iff]
    exact ⟨hl, by change 20 ≤ d.count + 1; omega⟩
  refine ⟨fun hl hs hc => ?_, fun hl hs hc => ?_, fun h => ?_⟩
  · have hch : s.prot.key.changes keySamples = true := changed (by rw [hl, hs]; decide) hc
    change Host.Outcome.next (if s.prot.key.stable then s else s.keyTurnedOn) = _
    rw [State.tickKey, hch, if_pos rfl, show s.prot.key.stable = false from hs, show s.prot.key.line = true from hl]
    rfl
  · have hch : s.prot.key.changes keySamples = true := changed (by rw [hl, hs]; decide) hc
    change Host.Outcome.next (if s.prot.key.stable then s.keyTurnedOff else s) = _
    rw [State.tickKey, hch, if_pos rfl, show s.prot.key.stable = true from hs, show s.prot.key.line = false from hl]
    rfl
  · have hch : s.prot.key.changes keySamples = false :=
      changes_eq_false (h.imp_right fun h => by change d.count + 1 < 20; omega)
    rw [State.tickKey, hch]
    rfl

theorem debounceSamples_le (d : Debounce) (code : Nat) :
    debounceSamples code ≤ d.count + 1 ↔ [1, 1, 5, 20].getD code 20 ≤ d.count + 1 := by
  match code with
  | 0 => exact ⟨fun _ => Nat.le_add_left 1 _, fun _ => Nat.zero_le _⟩
  | 1 | 2 | 3 => rfl
  | n + 4 => rfl

theorem tickSeat_rows (n : NestId) (s : State) :
    let d := (s.nest n).seat
    let need := [1, 1, 5, 20].getD (s.nest n).config.seatCode 20
    (d.line = true → d.stable = false → need ≤ d.count + 1 → exec (.seatClosed n) s = .next (s.tickSeat n)) ∧
    (d.line = false → d.stable = true → need ≤ d.count + 1 → exec (.seatLoss n) s = .next (s.tickSeat n).endEvent) ∧
    (d.line = d.stable ∨ d.count + 1 < need →
      s.tickSeat n = s.setNest n { s.nest n with seat := d.sample need }) := by
  intro d need
  have changed (hl : d.line ≠ d.stable) (hc : need ≤ d.count + 1) :
      (s.nest n).seat.changes (debounceSamples (s.nest n).config.seatCode) = true :=
    (changes_iff _ _).mpr ⟨hl, (debounceSamples_le _ _).mpr hc⟩
  have again (f : Debounce) (g : Nest → Nest) (h : ∀ x : Nest, g { x with seat := f } = g x) :
      (s.modNest n fun x => { x with seat := f }).modNest n g = s.modNest n g := by
    rw [modNest_modNest]
    simp only [h]
  refine ⟨fun hl hs hc => ?_, fun hl hs hc => ?_, fun h => ?_⟩
  · change Host.Outcome.next (if (s.nest n).seat.stable then s else s.seatClosed n) = _
    rw [State.tickSeat, changed (by rw [hl, hs]; decide) hc, if_pos rfl, show (s.nest n).seat.line = true from hl,
      if_pos rfl, show (s.nest n).seat.stable = false from hs, if_neg (by decide), State.seatClosed, State.seatClosed,
      again _ (fun x => { x with seat := .settled true }) fun _ => rfl]
  · change (if (s.nest n).seat.stable then Host.Outcome.next (s.seatOpened n).endEvent else .next s) = _
    rw [show (s.nest n).seat.stable = true from hs, if_pos rfl, State.tickSeat, changed (by rw [hl, hs]; decide) hc,
      if_pos rfl, show (s.nest n).seat.line = false from hl, if_neg (by decide), State.seatOpened, State.seatOpened, again _ (fun x => { x with seat := .settled false }) fun _ => rfl]
  · have hch : (s.nest n).seat.changes (debounceSamples (s.nest n).config.seatCode) = false := by
      rw [← Bool.not_eq_true, changes_iff, debounceSamples_le]
      rintro ⟨hl, hn⟩
      rcases h with h | h
      · exact hl h
      · exact absurd hn (Nat.not_le.mpr h)
    rw [State.tickSeat, hch, ← sample_code]
    rfl

theorem tickPresence_rows (s : State) :
    (s.lnk.presence ≠ .present → s.tickPresence = s) ∧
    (s.lnk.presence = .present → s.lnk.elapsed < 9 →
      s.tickPresence = { s with lnk := { s.lnk with elapsed := s.lnk.elapsed + 1 } }) ∧
    (s.lnk.presence = .present → 9 ≤ s.lnk.elapsed → exec .headLoss s = .next s.tickPresence.endEvent) := by
  refine ⟨fun h => ?_, tickPresence_counting, fun hp h => ?_⟩
  · rw [State.tickPresence, if_neg (by simpa using h)]
  · rw [exec_headLoss hp, tickPresence_loss hp h]

/-- The samples by code, as the marking port asks for them. -/
theorem markingSamples (code : Nat) : [0, 1, 5, 20].getD code 20 = debounceSamples code := by
  match code with
  | 0 | 1 | 2 | 3 => rfl
  | n + 4 => rfl

/-- A marking input's count completes at a rising or at a falling. -/
theorem changes_line_iff (d : Debounce) (need : Nat) (b : Bool) :
    (d.changes need = true ∧ d.line = b) ↔ (d.line = b ∧ d.stable = (!b) ∧ need ≤ d.count + 1) := by
  rw [changes_iff]
  cases d.line <;> cases d.stable <;> cases b <;> simp

theorem nestValue_val (m : Marking) :
    (m.nestValue).val = (if m.nestLo.stable then 1 else 0) + (if m.nestHi.stable then 2 else 0) := by
  simp only [Marking.nestValue]
  cases m.nestLo.stable <;> cases m.nestHi.stable <;> rfl

/-- The marking port's part of a tick: REQ, then MARKED, then JAM, in the state that has every sample. -/
theorem tickMarking_parts (s : State) : ∃ requested marked : State, let need := debounceSamples s.mrk.code
    let sampled := s.modMrk Marking.sampleInputs
    requested = (if s.mrk.req.changes need then
      (if s.mrk.req.line then sampled.requestRising sampled.mrk.nestValue else sampled.requestFalling) else sampled) ∧
    marked = (if s.mrk.marked.changes need && s.mrk.marked.line then requested.markedRising else requested) ∧
    s.tickMarking = (if s.mrk.jam.changes need && s.mrk.jam.line then marked.jamRising else marked) :=
  ⟨_, _, rfl, rfl, rfl⟩

theorem tickMarking_rows (s : State) :
    let m := s.mrk
    let need := [0, 1, 5, 20].getD m.code 20
    let rises (d : Debounce) : Prop := d.line = true ∧ d.stable = false ∧ need ≤ d.count + 1
    let falls (d : Debounce) : Prop := d.line = false ∧ d.stable = true ∧ need ≤ d.count + 1
    let sampled : State := { s with mrk := { m with
      req := m.req.sample need, marked := m.marked.sample need, jam := m.jam.sample need
      nestLo := m.nestLo.sample need, nestHi := m.nestHi.sample need } }
    ∃ requested marked : State,
      (rises m.req → ∃ n : NestId, requested = sampled.requestRising n ∧
        n.val = (if sampled.mrk.nestLo.stable then 1 else 0) + (if sampled.mrk.nestHi.stable then 2 else 0)) ∧
      (falls m.req → requested = sampled.requestFalling) ∧
      (¬ rises m.req → ¬ falls m.req → requested = sampled) ∧
      (rises m.marked → marked = requested.markedRising) ∧ (¬ rises m.marked → marked = requested) ∧
      (rises m.jam → s.tickMarking = marked.jamRising) ∧ (¬ rises m.jam → s.tickMarking = marked) := by
  intro m need rises falls sampled
  obtain ⟨requested, marked, hr, hm, hj⟩ := tickMarking_parts s
  have hsampled : s.modMrk Marking.sampleInputs = sampled := by
    simp only [sampled, need, markingSamples]
    rfl
  rw [hsampled] at hr
  rw [← markingSamples] at hr hm hj
  have up (d : Debounce) : rises d ↔ d.changes need = true ∧ d.line = true := (changes_line_iff d need true).symm
  have down (d : Debounce) : falls d ↔ d.changes need = true ∧ d.line = false := (changes_line_iff d need false).symm
  have both (d : Debounce) : rises d ↔ (d.changes need && d.line) = true := by rw [up, Bool.and_eq_true]
  refine ⟨requested, marked, fun h => ⟨sampled.mrk.nestValue, ?_, nestValue_val _⟩, fun h => ?_, fun h h' => ?_, fun h => ?_,
    fun h => ?_, fun h => ?_, fun h => ?_⟩
  · obtain ⟨h1, h2⟩ := (up _).mp h
    rw [hr, if_pos h1, if_pos h2]
  · obtain ⟨h1, h2⟩ := (down _).mp h
    rw [hr, if_pos h1, if_neg (by rw [h2]; decide)]
  · have hn : ¬ m.req.changes need = true := by
      intro hc
      rw [up] at h
      rw [down] at h'
      cases hl : m.req.line
      · exact h' ⟨hc, hl⟩
      · exact h ⟨hc, hl⟩
    rw [hr, if_neg hn]
  · rw [hm, if_pos ((both _).mp h)]
  · rw [hm, if_neg (fun hc => h ((both _).mpr hc))]
  · rw [hj, if_pos ((both _).mp h)]
  · rw [hj, if_neg (fun hc => h ((both _).mpr hc))]

theorem tickLabels_frame (s : State) : s.tickLabels.nests = s.nests ∧ s.tickLabels.slots = s.slots ∧
    s.tickLabels.buffers = s.buffers ∧ s.tickLabels.prot = s.prot ∧ s.tickLabels.retest = s.retest ∧
    s.tickLabels.amb = s.amb := by
  have step : ∀ (fuel : Nat) (u : State), (State.resolveOverdue fuel u).nests = u.nests ∧
      (State.resolveOverdue fuel u).slots = u.slots ∧ (State.resolveOverdue fuel u).buffers = u.buffers ∧
      (State.resolveOverdue fuel u).prot = u.prot ∧ (State.resolveOverdue fuel u).retest = u.retest ∧
      (State.resolveOverdue fuel u).amb = u.amb := by
    intro fuel
    induction fuel with
    | zero => exact fun u => ⟨rfl, rfl, rfl, rfl, rfl, rfl⟩
    | succ fuel ih =>
      intro u
      rw [State.resolveOverdue]
      split
      · simpa using ih (u.resolveLabel _ false true)
      · exact ⟨rfl, rfl, rfl, rfl, rfl, rfl⟩
  exact step _ (s.modMrk Marking.ageRecords)

theorem inputs_of_bare {m m' : Marking} (h : m'.bare = m.bare.sampleInputs) : let need := debounceSamples m.code
    m'.req = m.req.sample need ∧ m'.marked = m.marked.sample need ∧ m'.jam = m.jam.sample need ∧
    m'.nestLo = m.nestLo.sample need ∧ m'.nestHi = m.nestHi.sample need := by
  simp only [Marking.bare, Marking.sampleInputs, Marking.mk.injEq] at h
  obtain ⟨-, -, h1, h2, h3, h4, h5, -⟩ := h
  exact ⟨h1, h2, h3, h4, h5⟩

theorem tick_samples (s : State) : let need := [1, 1, 5, 20].getD s.mrk.code 20
    (∀ n, (s.tick.nest n).seat = (s.nest n).seat.sample ([1, 1, 5, 20].getD (s.nest n).config.seatCode 20)) ∧
    s.tick.mrk.req = s.mrk.req.sample need ∧ s.tick.mrk.marked = s.mrk.marked.sample need ∧
    s.tick.mrk.jam = s.mrk.jam.sample need ∧ s.tick.mrk.nestLo = s.mrk.nestLo.sample need ∧
    s.tick.mrk.nestHi = s.mrk.nestHi.sample need := by
  obtain ⟨hb, hs⟩ := tickInputs_samples s
  have ht := tick_steady s
  have hm : s.tick.mrk.bare = s.mrk.bare.sampleInputs := ht.bare.trans hb
  intro need
  refine ⟨fun n => by rw [(ht.seat n).1, hs n, sample_code], ?_⟩
  simp only [need, sample_code]
  exact inputs_of_bare hm

/-- Settles O40: one input's samples, what a whole tick leaves of each input, and the tick's parts by their events' rows. -/
theorem tickSamples : Obligations.TickSamples := by
  unfold Obligations.TickSamples
  refine ⟨fun d need i hc hn hl => ⟨fun h => ?_, fun h => ?_⟩, fun s => ?_, fun s => rfl, tickNotices_rows, fun s => ?_,
    tickSeatTimer_rows, tickKey_rows, tickSeat_rows, tickPresence_rows, tickMarking_rows⟩
  · rw [(sample_iterate d hc hn hl i).1 h]
  · rw [(sample_iterate d hc hn hl i).2 h]
  · obtain ⟨hseat, hmrk⟩ := tick_samples s
    exact ⟨s.tick, rfl, tick_key s, hseat, hmrk, fun hp h => (tick_presence s hp).1 h, fun hp h => (tick_presence s hp).2 h⟩
  · obtain ⟨h1, h2, h3, h4⟩ := tickLabels_spec s
    obtain ⟨f1, f2, f3, f4, f5, f6⟩ := tickLabels_frame s
    obtain ⟨-, -, -, -, -, -, -, -, -, hq, -⟩ := Link.still_fields (tickLabels_reports (.refl s)).still
    exact ⟨h1, h2, h3, h4, f1, f2, f3, f4, f5, f6, hq⟩

end Sys2Proof.Machine
end

section
/-! PROOFS. The messages behind the first of a soft reset (R14, R16): `Queued` says that the first 15 of a list of offers stand in
the event queue, with the tags 1 on, and that the producers of the others are the wait line; each offer lengthens the list. -/

namespace Sys2Proof.Machine

variable {s t u : State} {first : Msg}

/-- Behind a first message stand these producers' messages, in this order: 15 in the event queue, the others' producers in line. -/
structure Queued (first : Msg) (s : State) (ps : List (Producer × Event)) : Prop where
  line : s.lnk.waitLine = (ps.drop 15).map Prod.fst
  seq : s.lnk.seq = 1#8 + BitVec.ofNat 8 (ps.take 15).length
  events : s.lnk.eventQ = first :: tagged 1#8 ((ps.take 15).map Prod.snd)

theorem tagged_length (seq : BitVec 8) (es : List Event) : (tagged seq es).length = es.length := by
  rw [tagged, List.length_map, List.length_zipIdx]

theorem Queued.length {ps : List (Producer × Event)} (h : Queued first s ps) :
    s.lnk.eventQ.length = 1 + min 15 ps.length := by
  rw [h.events, List.length_cons, tagged_length, List.length_map, List.length_take, Nat.add_comm]

/-- A message at its place, with its tag. -/
theorem Queued.getElem? {ps : List (Producer × Event)} (h : Queued first s ps) {i : Nat} {x : Producer × Event} (hi : i < 15)
    (hx : ps[i]? = some x) : s.lnk.eventQ[i + 1]? = some ⟨x.2.kind, x.2.scope, BitVec.ofNat 8 (i + 1), x.2.body⟩ := by
  rw [h.events, List.getElem?_cons_succ, tagged, List.getElem?_map, List.getElem?_zipIdx, List.getElem?_map,
    List.getElem?_take_of_lt hi, hx]
  simp only [Option.map_some, Nat.zero_add, BitVec.ofNat_add, BitVec.add_comm]

/-- Only LNK's queues tell. -/
theorem Queued.congr {ps : List (Producer × Event)} (h : Queued first s ps) (hl : t.lnk = s.lnk) : Queued first t ps := by
  obtain ⟨h1, h2, h3⟩ := h
  exact ⟨by rw [hl]; exact h1, by rw [hl]; exact h2, by rw [hl]; exact h3⟩

theorem Queued.placeFree {ps : List (Producer × Event)} (h : Queued first s ps) : s.placeFree = decide (ps.length < 15) := by
  rw [State.placeFree, h.length, decide_eq_decide, Config.eventCap]
  omega

theorem Queued.line_nil {ps : List (Producer × Event)} (h : Queued first s ps) (hp : ps.length ≤ 15) : s.lnk.waitLine = [] := by
  rw [h.line, List.drop_eq_nil_of_le hp]
  rfl

theorem Queued.line_full {ps : List (Producer × Event)} (h : Queued first s ps) (hp : ¬ ps.length < 15) (p : Producer)
    (e : Event) : Queued first (s.modLnk fun l => { l with waitLine := l.waitLine ++ [p] }) (ps ++ [(p, e)]) := by
  have hd : (ps ++ [(p, e)]).drop 15 = ps.drop 15 ++ [(p, e)] := List.drop_append_of_le_length (by omega)
  have ht : (ps ++ [(p, e)]).take 15 = ps.take 15 := List.take_append_of_le_length (by omega)
  refine ⟨?_, by rw [ht]; exact h.seq, by rw [ht]; exact h.events⟩
  rw [hd, List.map_append, ← h.line]
  rfl

/-- With a place free the message joins the queue. -/
theorem Queued.gains {ps : List (Producer × Event)} (h : Queued first s ps) (hp : ps.length < 15) {p : Producer} {e : Event}
    (g : Gains s t [e]) : Queued first t (ps ++ [(p, e)]) := by
  have hlen : (ps ++ [(p, e)]).length ≤ 15 := by rw [List.length_append]; exact hp
  have hall : ps.take 15 = ps := List.take_of_length_le (by omega)
  have hall' : (ps ++ [(p, e)]).take 15 = ps ++ [(p, e)] := List.take_of_length_le hlen
  refine ⟨?_, ?_, ?_⟩
  · rw [g.line, h.line_nil (by omega), List.drop_eq_nil_of_le hlen]
    rfl
  · rw [g.seq, h.seq, hall, hall', List.length_append, BitVec.ofNat_add, BitVec.add_assoc]
    rfl
  · rw [g.events, h.events, h.seq, hall, hall', List.map_append, tagged_append, List.length_map]
    rfl

/-- An offer lengthens the list. -/
theorem Queued.offer {ps : List (Producer × Event)} (h : Queued first s ps) {p : Producer} {e : Event}
    (he : s.held p = some e) : Queued first (s.offer p) (ps ++ [(p, e)]) := by
  rw [State.offer, h.placeFree]
  by_cases hp : ps.length < 15
  · rw [h.line_nil (by omega), decide_eq_true hp]
    exact h.gains hp (admitProducer_gains he)
  · rw [decide_eq_false hp]
    exact h.line_full hp p e

theorem ready_offerReady {p q : Producer} (h : p ≠ q) : (s.offerReady p).ready q = s.ready q := by
  by_cases hp : p = .ntc
  · subst hp
    rfl
  · have hw : q ∈ (s.offerReady p).lnk.waitLine ↔ q ∈ s.lnk.waitLine := by
      rcases offerReady_waitLine s hp with e | e <;> simp [e, Ne.symm h]
    rw [Bool.eq_iff_iff, ready_iff, ready_iff, held_offerReady h, hw]

/-- Offers by distinct producers: those that are ready lengthen the list, in this order, and the others' readiness stays. -/
theorem Queued.offers {α : Type} (f : α → Producer) (hf : ∀ x y, f x = f y → x = y) (m : α → Event) :
    ∀ (l : List α) {s : State} {ps : List (Producer × Event)}, l.Nodup → Queued first s ps →
      (∀ x ∈ l, s.ready (f x) = true → s.held (f x) = some (m x)) →
      Queued first (l.foldl (fun t x => t.offerReady (f x)) s)
        (ps ++ (l.filter fun x => s.ready (f x)).map fun x => (f x, m x)) ∧
      ∀ q, (∀ x ∈ l, f x ≠ q) → (l.foldl (fun t x => t.offerReady (f x)) s).ready q = s.ready q ∧
        (l.foldl (fun t x => t.offerReady (f x)) s).held q = s.held q
  | [], s, ps, _, h, _ => ⟨by simpa using h, fun _ _ => ⟨rfl, rfl⟩⟩
  | x :: l, s, ps, hn, h, hm => by
    obtain ⟨hx, hn⟩ := List.nodup_cons.mp hn
    have hne : ∀ y ∈ l, f x ≠ f y := fun y hy e => hx (hf x y e ▸ hy)
    have hstep : Queued first (s.offerReady (f x)) (ps ++ if s.ready (f x) then [(f x, m x)] else []) := by
      rw [State.offerReady]
      split
      · next hr => exact h.offer (hm x (List.mem_cons_self ..) hr)
      · rw [List.append_nil]; exact h
    obtain ⟨h1, h2⟩ := Queued.offers f hf m l hn hstep fun y hy hr => by
      rw [ready_offerReady (hne y hy)] at hr
      rw [held_offerReady (hne y hy)]
      exact hm y (List.mem_cons_of_mem _ hy) hr
    have hfilter : (l.filter fun y => (s.offerReady (f x)).ready (f y)) = l.filter fun y => s.ready (f y) :=
      List.filter_congr fun y hy => ready_offerReady (hne y hy)
    rw [hfilter, List.append_assoc] at h1
    refine ⟨?_, fun q hq => ?_⟩
    · rw [List.filter_cons]
      cases hr : s.ready (f x) <;> simpa [hr] using h1
    · obtain ⟨h3, h4⟩ := h2 q fun y hy => hq y (List.mem_cons_of_mem _ hy)
      have hxq := hq x (List.mem_cons_self ..)
      exact ⟨h3.trans (ready_offerReady hxq), h4.trans (held_offerReady hxq)⟩

/-! ### The places filled from the wait line (R14, R16) -/

/-- The wait line's producers follow what stands in the queue. -/
theorem fillPlaces_queued : ∀ (W : List (Producer × Event)) {s : State} {ps : List (Producer × Event)}, ps.length ≤ 15 →
    (W.map Prod.fst).Nodup → (∀ x ∈ W, s.held x.1 = some x.2) →
    Queued first (s.modLnk fun l => { l with waitLine := [] }) ps → s.lnk.waitLine = W.map Prod.fst →
    Queued first s.fillPlaces (ps ++ W)
  | [], s, ps, _, _, _, h, hw => by
    rw [fillPlaces_stop (.inl hw), List.append_nil]
    exact h.congr (by rw [modLnk_lnk, ← show s.lnk.waitLine = [] from hw])
  | (p, e) :: W, s, ps, hl, hn, hm, h, hw => by
    obtain ⟨hp, hn⟩ := List.nodup_cons.mp hn
    have hfree : s.placeFree = decide (ps.length < 15) := h.placeFree
    have he : s.held p = some e := hm (p, e) (List.mem_cons_self ..)
    have hpn : p ≠ .ntc := fun hc => by rw [hc] at he; cases he
    by_cases hlt : ps.length < 15
    · rw [decide_eq_true hlt] at hfree
      have hhead : s.admitHead = (s.modLnk fun l => { l with waitLine := W.map Prod.fst }).admitProducer p :=
        admitHead_cons hw hfree
      have g : Gains (s.modLnk fun l => { l with waitLine := W.map Prod.fst }) s.admitHead [e] := by
        rw [hhead]
        exact admitProducer_gains (s := s.modLnk fun l => { l with waitLine := W.map Prod.fst }) ((held_congr rfl rfl rfl p).trans he)
      have hrest : ∀ x ∈ W, s.admitHead.held x.1 = some x.2 := fun x hx => by
        have hne : p ≠ x.1 := fun hq => hp (List.mem_map.mpr ⟨x, hx, hq.symm⟩)
        rw [hhead, held_admitProducer _ hpn, if_neg hne]
        exact (held_congr rfl rfl rfl x.1).trans (hm x (List.mem_cons_of_mem _ hx))
      rw [fillPlaces_step (by rw [hw]; exact List.cons_ne_nil _ _) hfree]
      have hfinal := fillPlaces_queued W (s := s.admitHead) (ps := ps ++ [(p, e)]) (by rw [List.length_append]; exact hlt) hn hrest
        (h.gains hlt ⟨rfl, g.seq, g.events⟩) g.line
      rwa [List.append_assoc] at hfinal
    · rw [decide_eq_false hlt] at hfree
      have hlen : ps.length = 15 := by omega
      rw [fillPlaces_stop (.inr hfree)]
      have htake : (ps ++ (p, e) :: W).take 15 = ps.take 15 := List.take_append_of_le_length (by omega)
      refine ⟨?_, ?_, ?_⟩
      · rw [hw, List.drop_append_of_le_length (by omega), List.drop_eq_nil_of_le (by omega)]
        rfl
      · rw [htake]; exact h.seq
      · rw [htake]; exact h.events

end Sys2Proof.Machine
end

section
/-! PROOFS. A soft reset up to the blocks' own actions (R16, R126, R141, R169, R176): the state once LNK and NTC are reset, the
post-reset NOTICE, and the messages that waited. -/

namespace Sys2Proof.Machine

variable {s t u : State}

/-! ### What the admissions of slots and lots leave -/

/-- From s to t messages of slots and lots are admitted: REF_DONEs and the lots whose summary waited are gone, no more. -/
structure Frees (s t : State) : Prop where
  nests : ∀ n, t.nest n = s.nest n
  ntc : t.ntc = s.ntc
  lost : t.lnk.traceLost = s.lnk.traceLost
  slots : ∀ k, (s.slot k).Served (t.slot k)
  lots : ∀ k, t.lot k = s.lot k ∨ (t.lot k = none ∧ ∃ l, s.lot k = some l ∧ l.summary ≠ none)

theorem Frees.refl (s : State) : Frees s s := ⟨fun _ => rfl, rfl, rfl, fun _ => rfl, fun _ => .inl rfl⟩

theorem Frees.trans (h : Frees s t) (g : Frees t u) : Frees s u where
  nests n := (g.nests n).trans (h.nests n)
  ntc := g.ntc.trans h.ntc
  lost := g.lost.trans h.lost
  slots k := (h.slots k).trans (g.slots k)
  lots k := by
    rcases g.lots k with e | ⟨e, l, hl, hs⟩
    · rw [e]; exact h.lots k
    · refine .inr ⟨e, ?_⟩
      rcases h.lots k with e' | ⟨e', -⟩
      · exact ⟨l, e' ▸ hl, hs⟩
      · rw [e'] at hl; cases hl

theorem frees_of_lnk (s : State) (l : Link) (h : l.traceLost = s.lnk.traceLost) : Frees s { s with lnk := l } :=
  ⟨fun _ => rfl, rfl, h, fun _ => rfl, fun _ => .inl rfl⟩

theorem admitProducer_frees (s : State) {p : Producer} (hp : p.survives = true) : Frees s (s.admitProducer p) where
  nests n := by
    rcases nest_admitProducer s p n with ⟨h, -⟩ | ⟨h, -⟩
    · exact h
    · rw [h] at hp; cases hp
  ntc := (admitProducer_line s (by rintro rfl; cases hp)).2
  lost := admitProducer_traceLost s p
  slots k := by
    rw [slot_admitProducer]
    split <;> rfl
  lots k := by
    rcases lot_admitProducer s p k with h | h
    · exact .inl h
    · cases p with
      | ntc => cases hp
      | vrd n => cases hp
      | tbs j => exact .inl (by simp only [State.admitProducer]; split <;> simp)
      | yld j =>
        cases hj : (s.lot j).bind (·.summary) with
        | none => exact .inl (by simp only [State.admitProducer, hj])
        | some e =>
          by_cases hk : j = k
          · subst hk
            obtain ⟨l, hl, hs⟩ := Option.bind_eq_some_iff.mp hj
            exact .inr ⟨h, l, hl, by rw [hs]; exact Option.some_ne_none e⟩
          · exact .inl (by simp [State.admitProducer, hj, hk])

theorem admitHead_frees (h : ∀ p ∈ s.lnk.waitLine, p.survives = true) : Frees s s.admitHead := by
  cases hw : s.lnk.waitLine with
  | nil => rw [admitHead_nil hw]; exact .refl s
  | cons p rest =>
    cases hf : s.placeFree with
    | false => rw [admitHead_full hf]; exact .refl s
    | true =>
      rw [admitHead_cons hw hf]
      exact (frees_of_lnk s { s.lnk with waitLine := rest } rfl).trans
        (admitProducer_frees _ (h p (by rw [hw]; exact List.mem_cons_self ..)))

theorem drainWaitLine_frees : ∀ (fuel : Nat) {s : State}, (∀ p ∈ s.lnk.waitLine, p.survives = true) →
    Frees s (s.drainWaitLine fuel)
  | 0, s, _ => .refl s
  | fuel + 1, s, h => by
    simp only [State.drainWaitLine]
    split
    · exact (admitHead_frees h).trans (drainWaitLine_frees fuel fun p hp => h p ((admitHead_waitLine s).subset hp))
    · exact .refl s

/-! ### LNK and NTC reset (R11, R16, R176) -/

/-- The post-reset NOTICE with its tag (R176). -/
def State.resetNotice (s : State) : Msg :=
  ⟨0x82#8, 15#4, 0#8, [0x00060000#32 ||| (if s.amb.loud then 0x10000#32 else 0#32), 0#32, 0#32]⟩

/-- NTC once the post-reset NOTICE is admitted and its requests are kept back. -/
def Notices.restarted (c : Notices) : Notices :=
  { c.softReset with outbox := .deferred false, owed := false }

theorem softCleared_nest (s : State) (scope : BitVec 4) (tag : BitVec 8) (n : NestId) :
    (s.softCleared scope tag).nest n = { s.nest n with verdictOut := none, stepOut := none } := by
  rw [State.softCleared, nest_withdrawVerdicts]
  rfl

theorem softCleared_survives (s : State) (scope : BitVec 4) (tag : BitVec 8) :
    ∀ p ∈ (s.softCleared scope tag).lnk.waitLine, p.survives = true := fun _ hp => (List.mem_filter.mp hp).2

theorem softCleared_notice (s : State) (scope : BitVec 4) (tag : BitVec 8) :
    (s.softCleared scope tag).admitNotice.lnk =
      { (s.softCleared scope tag).lnk with eventQ := [s.resetNotice], seq := 1#8 } := by
  have hb : (s.softCleared scope tag).noticeEvent.body = s.resetNotice.body := by
    change [put (0#8).toNat 0 8 ||| put (0#8).toNat 8 8 ||| flag s.amb.loud 16 ||| flag true 17 ||| flag (true && true) 18,
      halves 0 0, halves 0 0] = [0x00060000#32 ||| (if s.amb.loud then 0x10000#32 else 0#32), 0#32, 0#32]
    cases s.amb.loud <;> decide
  rw [admitNotice_eq, hb]
  rfl

/-- What the messages that waited, once admitted as far as there are places, leave (R16). -/
theorem softFilled_frees (s : State) (scope : BitVec 4) (tag : BitVec 8) :
    Frees ((s.softCleared scope tag).admitNotice.modNtc fun x => { x with outbox := .deferred false })
      (s.softFilled scope tag) := by
  obtain ⟨h1, h2, h3, h4, h5⟩ := drainWaitLine_frees _ (s := (s.softCleared scope tag).admitNotice)
    (softCleared_survives s scope tag)
  exact ⟨h1, congrArg (fun c : Notices => { c with outbox := .deferred false }) h2, h3, h4, h5⟩

theorem softFilled_ntc (s : State) (scope : BitVec 4) (tag : BitVec 8) : (s.softFilled scope tag).ntc = s.ntc.restarted :=
  (softFilled_frees s scope tag).ntc

theorem softFilled_nest (s : State) (scope : BitVec 4) (tag : BitVec 8) (n : NestId) :
    (s.softFilled scope tag).nest n = { s.nest n with verdictOut := none, stepOut := none } :=
  ((softFilled_frees s scope tag).nests n).trans (softCleared_nest s scope tag n)

theorem softFilled_slot (s : State) (scope : BitVec 4) (tag : BitVec 8) (k : SlotId) :
    (s.slot k).Served ((s.softFilled scope tag).slot k) := (softFilled_frees s scope tag).slots k

theorem softFilled_lot (s : State) (scope : BitVec 4) (tag : BitVec 8) (k : SlotId) :
    (s.softFilled scope tag).lot k = s.lot k ∨
      ((s.softFilled scope tag).lot k = none ∧ ∃ l, s.lot k = some l ∧ l.summary ≠ none) :=
  (softFilled_frees s scope tag).lots k

theorem softFilled_parts (s : State) (scope : BitVec 4) (tag : BitVec 8) :
    (s.softFilled scope tag).buffers = s.buffers ∧ (s.softFilled scope tag).prot = s.prot ∧
      (s.softFilled scope tag).amb = s.amb ∧ (s.softFilled scope tag).retest = s.retest ∧
      (s.softFilled scope tag).mrk = s.mrk ∧ (s.softFilled scope tag).pending = s.pending ∧
      (s.softFilled scope tag).lnk.traceLost = 0 ∧
      (s.softFilled scope tag).lnk.still = ((s.modLnk Link.softReset).reply .softReset scope tag .ok []).lnk.still := by
  obtain ⟨h1, h2, h3, h4, h5, h6, h7⟩ := fillPlaces_frame (s.softCleared scope tag).admitNotice
  exact ⟨h2, h3, h4, h5, h6, h7, (softFilled_frees s scope tag).lost, h1⟩

/-- The first message of the event queue is the post-reset NOTICE. -/
theorem softFilled_first (s : State) (scope : BitVec 4) (tag : BitVec 8) :
    ∃ rest, (s.softFilled scope tag).lnk.eventQ = s.resetNotice :: rest := by
  obtain ⟨more, hm⟩ := (fillPlaces_reports (.refl (s.softCleared scope tag).admitNotice)).events
  refine ⟨more, hm.trans ?_⟩
  rw [softCleared_notice]
  rfl

/-- Behind it stand the messages that waited and survive, in wait-line order. -/
theorem softFilled_queued {W : List (Producer × Event)} {scope : BitVec 4} {tag : BitVec 8}
    (hn : (W.map Prod.fst).Nodup) (hm : ∀ x ∈ W, (s.softCleared scope tag).held x.1 = some x.2)
    (hw : (s.softCleared scope tag).lnk.waitLine = W.map Prod.fst) : Queued s.resetNotice (s.softFilled scope tag) W := by
  have hl := softCleared_notice s scope tag
  have h : Queued s.resetNotice (s.softCleared scope tag).admitNotice.fillPlaces ([] ++ W) := by
    refine fillPlaces_queued W (Nat.zero_le _) hn (fun x hx => ?_) ⟨rfl, ?_, ?_⟩ (by rw [hl]; exact hw)
    · exact (held_congr (by simp) (by simp) (by simp) x.1).trans (hm x hx)
    · rw [modLnk_lnk, hl]; rfl
    · rw [modLnk_lnk, hl]; rfl
  exact h.congr rfl

end Sys2Proof.Machine
end

section
/-! PROOFS. The reports of a soft reset (R142, R163, R167, R169): the one flag they can set (R16, R171), the id and the summary
that a lot keeps, and the lots that two states show alike although one has freed some. -/

namespace Sys2Proof.Machine

variable {s t u : State} {G : Word → Prop} {lk : Link} {c : Notices}

/-! ### NTC with its requests kept back (R16, R167, R171) -/

/-- NTC once LOW_YIELD has risen inside a soft reset: where it is enabled a NOTICE is asked for. -/
def Notices.lowered (c : Notices) (bitmap : BitVec 8) (timer : Option Nat) : Notices :=
  { c.restarted with flags := 0x10#8, bitmap, timer, outbox := .deferred (c.enables.getLsbD 4) }

/-- Inside a soft reset: LNK stands as it stood, and of the flags LOW_YIELD alone can have risen. -/
structure Resetting (lk : Link) (c : Notices) (t : State) : Prop where
  lnk : t.lnk = lk
  ntc : t.ntc = c.restarted ∨ ∃ b tm, t.ntc = c.lowered b tm

theorem Resetting.congr (h : Resetting lk c s) (hl : t.lnk = s.lnk) (hn : t.ntc = s.ntc) : Resetting lk c t :=
  ⟨hl.trans h.lnk, by rw [hn]; exact h.ntc⟩

theorem Resetting.modLot (h : Resetting lk c s) (k : SlotId) (f : Lot → Lot) : Resetting lk c (s.modLot k f) := h.congr rfl rfl

/-- With no flag up and no timer running LOW_YIELD rises: where it is enabled its NOTICE is kept back. -/
theorem setFlag_lowYield (hf : s.ntc.flags = 0#8) (ht : s.ntc.timer = none) (hb : s.ntc.outbox = .deferred false) :
    (s.setFlag .lowYield).lnk = s.lnk ∧ ∃ tm, (s.setFlag .lowYield).ntc =
      { s.ntc with flags := 0x10#8, timer := tm, outbox := .deferred (s.ntc.enables.getLsbD 4) } := by
  have hclear : ¬ s.ntc.flags.getLsbD Flag.lowYield.index = true := by rw [hf]; decide
  have hmask : s.ntc.flags ||| Flag.lowYield.mask = 0x10#8 := by rw [hf]; decide
  have ht' : (s.modNtc fun c => { c with flags := c.flags ||| Flag.lowYield.mask }).ntc.timer = none := ht
  have hb' : ((s.modNtc fun c => { c with flags := c.flags ||| Flag.lowYield.mask }).modNtc fun c =>
      { c with timer := some 0 }).ntc.outbox = .deferred false := hb
  rw [State.setFlag, if_neg hclear]
  dsimp only
  by_cases he : s.ntc.enables.getLsbD 4 = true
  · rw [if_pos (show s.ntc.enables.getLsbD Flag.lowYield.index = true from he), State.notifyRising, if_neg (by decide)]
    simp only [ht', State.askNotice, hb']
    refine ⟨rfl, some 0, ?_⟩
    rw [modNtc_ntc, modNtc_ntc, modNtc_ntc, hmask, he]
  · rw [if_neg (show ¬ s.ntc.enables.getLsbD Flag.lowYield.index = true from he)]
    refine ⟨rfl, none, ?_⟩
    rw [modNtc_ntc, hmask, Bool.eq_false_iff.mpr he, ht, hb]

theorem Resetting.lowYield (h : Resetting lk c s) (m : BitVec 8) :
    Resetting lk c ((s.modNtc fun c => { c with bitmap := c.bitmap ||| m }).setFlag .lowYield) := by
  obtain ⟨hl, hn | ⟨b, tm, hn⟩⟩ := h
  · obtain ⟨h1, tm, h2⟩ := setFlag_lowYield (s := s.modNtc fun c => { c with bitmap := c.bitmap ||| m })
      (by rw [modNtc_ntc, hn]; rfl) (by rw [modNtc_ntc, hn]; rfl) (by rw [modNtc_ntc, hn]; rfl)
    refine ⟨h1.trans hl, .inr ⟨0#8 ||| m, tm, h2.trans ?_⟩⟩
    rw [modNtc_ntc, hn]
    rfl
  · have hset : (s.modNtc fun c => { c with bitmap := c.bitmap ||| m }).ntc.flags.getLsbD Flag.lowYield.index = true := by
      have hf : (s.modNtc fun c => { c with bitmap := c.bitmap ||| m }).ntc.flags = 0x10#8 := by
        rw [modNtc_ntc, hn]
        rfl
      rw [hf]
      decide
    rw [setFlag_of_set hset]
    exact ⟨hl, .inr ⟨b ||| m, tm, by rw [modNtc_ntc, hn]; rfl⟩⟩

theorem Resetting.evaluateAlarm (h : Resetting lk c s) (k : SlotId) : Resetting lk c (s.evaluateAlarm k) := by
  simp only [State.evaluateAlarm]
  (repeat' split)
  · exact h
  · exact h.congr rfl rfl
  · exact h
  · exact (h.modLot k fun x => { x with tripped := true }).lowYield _
  · exact h

theorem Resetting.finalCount (h : Resetting lk c s) (k : SlotId) (pass : Bool) (classes : ClassSet) :
    Resetting lk c (s.finalCount k pass classes) := (h.modLot k _).evaluateAlarm k

theorem Resetting.reportResolution (h : Resetting lk c s) (r : Label) (marked : Bool) :
    Resetting lk c (s.reportResolution r marked) := by
  simp only [State.reportResolution]
  (repeat' split)
  · exact h
  · exact h
  all_goals exact (h.modLot _ _).finalCount _ _ _

theorem Resetting.reportGivenUp (h : Resetting lk c s) (e : RetestEntry) : Resetting lk c (s.reportGivenUp e) := by
  simp only [State.reportGivenUp]
  split
  · exact (h.modLot _ _).finalCount _ _ _
  · exact h

theorem Resetting.completeLot (h : Resetting lk c s) (k : SlotId) : Resetting lk c (s.completeLot k) := by
  cases hl : s.lot k with
  | none => simp only [State.completeLot, hl]; exact h
  | some l =>
    by_cases hd : l.due = true
    · rw [completeLot_of_due hl hd]
      have hg : Resetting lk c (s.giveUpLot l.id) :=
        foldl_keeps (P := Resetting lk c) (fun _ e hx => hx.reportGivenUp e) _ _ (h.congr rfl rfl)
      exact hg.congr rfl rfl
    · simp only [State.completeLot, hl, if_neg hd]; exact h

/-! ### The id and the summary of a lot -/

/-- The id of a lot and its LOT_SUMMARY. -/
def Lot.label (l : Lot) : Word × Option Event := (l.id, l.summary)

/-- The lot of a slot stands with its id and its summary, or there is none in either state. -/
def LabelAt (k : SlotId) (s t : State) : Prop := (t.lot k).map Lot.label = (s.lot k).map Lot.label

variable {k : SlotId}

theorem LabelAt.trans (h : LabelAt k s t) (g : LabelAt k t u) : LabelAt k s u := Eq.trans g h

theorem labelAt_of_lot (h : t.lot k = s.lot k) : LabelAt k s t := by rw [LabelAt, h]

theorem LabelAt.held (h : LabelAt k s t) : t.held (.yld k) = s.held (.yld k) := by
  rw [LabelAt] at h
  simp only [State.held]
  cases hs : s.lot k <;> cases ht : t.lot k <;> simp_all [Lot.label]

theorem LabelAt.some (h : LabelAt k s t) {l : Lot} (hl : s.lot k = some l) :
    ∃ x, t.lot k = some x ∧ x.id = l.id ∧ x.summary = l.summary := by
  rw [LabelAt, hl] at h
  cases ht : t.lot k <;> simp_all [Lot.label]

theorem LabelAt.none (h : LabelAt k s t) (hl : s.lot k = none) : t.lot k = none := by
  rw [LabelAt, hl] at h
  simpa using h

theorem modLot_label (s : State) (j : SlotId) (f : Lot → Lot) (hf : ∀ l, (f l).label = l.label) :
    LabelAt k s (s.modLot j f) := by
  rw [LabelAt, lot_modLot]
  split
  · next h => subst h; cases s.lot j <;> simp [hf]
  · rfl

theorem evaluateAlarm_label (s : State) (j : SlotId) : LabelAt k s (s.evaluateAlarm j) := by
  simp only [State.evaluateAlarm]
  (repeat' split)
  · rfl
  · exact modLot_label s j _ fun _ => rfl
  · rfl
  · refine (modLot_label s j (fun y => { y with tripped := true }) fun _ => rfl).trans (labelAt_of_lot ?_)
    exact lot_congr (by simp) k
  · rfl

theorem finalCount_label (s : State) (j : SlotId) (pass : Bool) (classes : ClassSet) :
    LabelAt k s (s.finalCount j pass classes) := (modLot_label s j _ fun _ => by rfl).trans (evaluateAlarm_label _ j)

theorem reportVerdict_label (s : State) (v : VerdictKind) (id : Word) : LabelAt k s (s.reportVerdict v id) := by
  simp only [State.reportVerdict]
  split
  · exact modLot_label s _ _ fun l => by cases v <;> rfl
  · rfl

theorem reportResolution_label (s : State) (r : Label) (marked : Bool) : LabelAt k s (s.reportResolution r marked) := by
  simp only [State.reportResolution]
  (repeat' split)
  · rfl
  · rfl
  all_goals exact (modLot_label s _ _ fun _ => by rfl).trans (finalCount_label _ _ _ _)

theorem reportGivenUp_label (s : State) (e : RetestEntry) : LabelAt k s (s.reportGivenUp e) := by
  simp only [State.reportGivenUp]
  split
  · exact (modLot_label s _ _ fun _ => by rfl).trans (finalCount_label _ _ _ _)
  · rfl

theorem foldl_label {α : Type} {f : State → α → State} (hf : ∀ s x, LabelAt k s (f s x)) :
    ∀ (l : List α) (s : State), LabelAt k s (l.foldl f s)
  | [], _ => rfl
  | x :: l, s => (hf s x).trans (foldl_label hf l _)

theorem giveUpLot_label (s : State) (id : Word) : LabelAt k s (s.giveUpLot id) :=
  foldl_label reportGivenUp_label _ { s with retest := s.retest.filter fun e => e.lotId != id }

/-! ### The lots completed (R164) -/

/-- A completion leaves the id and the summary of every lot but the one due. -/
theorem completeLot_label (s : State) {j : SlotId} (h : j ≠ k ∨ s.lotDue k = false) : LabelAt k s (s.completeLot j) := by
  cases hd : s.lotDue j with
  | false => rw [completeLot_of_notDue hd]; rfl
  | true =>
    have hj : j ≠ k := h.elim id fun h e => by rw [e, h] at hd; cases hd
    obtain ⟨l, hl, hl'⟩ := (lotDue_iff s j).mp hd
    rw [completeLot_of_due hl hl']
    refine (giveUpLot_label s l.id).trans (labelAt_of_lot ?_)
    rw [lot_modLot, if_neg hj]

theorem foldl_completeLot_label : ∀ (js : List SlotId) (s : State), s.lotDue k = false →
    LabelAt k s (js.foldl State.completeLot s)
  | [], _, _ => rfl
  | j :: js, s, h => (completeLot_label s (.inr h)).trans
      (foldl_completeLot_label js _ (by rw [completeLot_lotDue, h, Bool.and_false]))

theorem completeLot_retest (s : State) (j : SlotId) : ∀ e ∈ (s.completeLot j).retest, e ∈ s.retest := by
  intro e he
  cases hd : s.lotDue j with
  | false => rwa [completeLot_of_notDue hd] at he
  | true =>
    obtain ⟨l, hl, hl'⟩ := (lotDue_iff s j).mp hd
    rw [(completeLot_leaves hl hl').1] at he
    exact (List.mem_filter.mp he).1

theorem foldl_completeLot_retest : ∀ (js : List SlotId) (s : State), ∀ e ∈ (js.foldl State.completeLot s).retest, e ∈ s.retest
  | [], _, _, he => he
  | j :: js, s, e, he => completeLot_retest s j e (foldl_completeLot_retest js _ e he)

/-- A lot that is due completes: its summary is built and none of its entries is left. -/
theorem foldl_completeLot_due : ∀ (js : List SlotId) (s : State) {l : Lot}, k ∈ js → s.lot k = some l → l.due = true →
    (∀ e ∈ (js.foldl State.completeLot s).retest, e.lotId ≠ l.id) ∧
      ∃ x, (js.foldl State.completeLot s).lot k = some x ∧ x.summary ≠ none ∧ x.id = l.id
  | [], _, _, hk, _, _ => absurd hk List.not_mem_nil
  | j :: js, s, l, hk, hl, hd => by
    have hdue : s.lotDue k = true := (lotDue_iff s k).mpr ⟨l, hl, hd⟩
    rw [List.foldl_cons]
    by_cases hj : j = k
    · subst hj
      obtain ⟨hr, x, e, hx, hs, -, hi, -⟩ := completeLot_leaves hl hd
      have hnot : (s.completeLot j).lotDue j = false := by rw [completeLot_lotDue]; simp
      obtain ⟨y, hy, hyi, hys⟩ := (foldl_completeLot_label js _ hnot).some hx
      refine ⟨fun e he => ?_, y, hy, by rw [hys, hs]; exact Option.some_ne_none e, hyi.trans hi⟩
      have := foldl_completeLot_retest js _ e he
      rw [hr, List.mem_filter] at this
      simpa using this.2
    · obtain ⟨x, hx, hxi, -⟩ := (completeLot_label s (.inl hj)).some hl
      have hdue' : (s.completeLot j).lotDue k = true := by rw [completeLot_lotDue, hdue]; simp [hj]
      obtain ⟨x', hx', hd'⟩ := (lotDue_iff _ k).mp hdue'
      obtain rfl := Option.some.inj (hx.symm.trans hx')
      have := foldl_completeLot_due js _ ((List.mem_cons.mp hk).resolve_left (Ne.symm hj)) hx hd'
      rwa [hxi] at this

end Sys2Proof.Machine
end

section
/-! PROOFS. The lots that two states show alike, although one has freed some whose summary waited (R14, R164): the reports that
name no freed lot, and the completions, keep them so. -/

namespace Sys2Proof.Machine

variable {s t u : State} {G : Word → Prop} {k : SlotId}

/-- t shows the lots of s, but for lots freed whose summary waited and whose id is in G; the slots' thresholds and generations are
the same. -/
structure LotsBut (G : Word → Prop) (s t : State) : Prop where
  lot : ∀ k, t.lot k = s.lot k ∨ (t.lot k = none ∧ ∃ l, s.lot k = some l ∧ G l.id ∧ l.summary ≠ none)
  tables : ∀ k, (t.slot k).tables = (s.slot k).tables
  gens : ∀ k, (t.slot k).generation = (s.slot k).generation

/-- The lot of a slot is among those that both states show. -/
structure LotsAt (G : Word → Prop) (k : SlotId) (s t : State) : Prop where
  but : LotsBut G s t
  here : t.lot k = s.lot k

theorem LotsBut.congr {s' t' : State} (h : LotsBut G s t) (hs : s'.lots = s.lots ∧ s'.slots = s.slots)
    (ht : t'.lots = t.lots ∧ t'.slots = t.slots) : LotsBut G s' t' where
  lot k := by rw [lot_congr hs.1, lot_congr ht.1]; exact h.lot k
  tables k := by rw [slot_congr hs.2, slot_congr ht.2]; exact h.tables k
  gens k := by rw [slot_congr hs.2, slot_congr ht.2]; exact h.gens k

/-- A lot that both show is changed in both. -/
theorem LotsAt.modLot (h : LotsAt G k s t) (f : Lot → Lot) : LotsAt G k (s.modLot k f) (t.modLot k f) := by
  refine ⟨⟨fun j => ?_, h.but.tables, h.but.gens⟩, ?_⟩
  · rw [lot_modLot, lot_modLot]
    split
    · exact .inl (congrArg _ h.here)
    · exact h.but.lot j
  · rw [lot_modLot, lot_modLot, if_pos rfl, if_pos rfl, h.here]

theorem LotsAt.evaluateAlarm (h : LotsAt G k s t) : LotsAt G k (s.evaluateAlarm k) (t.evaluateAlarm k) := by
  have alarm (x y : State) (hx : LotsAt G k x y) : LotsAt G k (x.setFlag .lowYield) (y.setFlag .lowYield) :=
    ⟨hx.but.congr (by simp) (by simp), by
      rw [lot_congr (t := y.setFlag .lowYield) (s := y) (by simp), lot_congr (t := x.setFlag .lowYield) (s := x) (by simp)]
      exact hx.here⟩
  have bits (x y : State) (hx : LotsAt G k x y) (f g : Notices → Notices) : LotsAt G k (x.modNtc f) (y.modNtc g) :=
    ⟨hx.but.congr ⟨rfl, rfl⟩ ⟨rfl, rfl⟩, hx.here⟩
  simp only [State.evaluateAlarm, h.here, h.but.tables]
  (repeat' split)
  · exact h
  · exact h.modLot _
  · exact h
  · exact alarm _ _ (bits _ _ (h.modLot _) _ _)
  · exact h

theorem LotsAt.finalCount (h : LotsAt G k s t) (pass : Bool) (c : ClassSet) :
    LotsAt G k (s.finalCount k pass c) (t.finalCount k pass c) := (h.modLot _).evaluateAlarm

/-- An id outside G names the same slot in both states, and a lot that both show. -/
theorem LotsBut.lotSlot (h : LotsBut G s t) {id : Word} (hid : ¬ G id) :
    t.lotSlot id = s.lotSlot id ∧ ∀ k, s.lotSlot id = some k → LotsAt G k s t := by
  refine ⟨?_, fun k hk => ⟨h, ?_⟩⟩
  · have hp : ∀ k, (match t.lot k with | some l => l.id == id | none => false) =
        (match s.lot k with | some l => l.id == id | none => false) := fun k => by
      rcases h.lot k with e | ⟨e, l, hl, hg, -⟩
      · rw [e]
      · have hne : l.id ≠ id := fun e => hid (e ▸ hg)
        simp [e, hl, hne]
    exact congrArg (fun p => allSlots.find? p) (funext hp)
  · rcases h.lot k with e | ⟨-, l, hl, hg, -⟩
    · exact e
    · have := List.find?_some hk
      simp only [hl, beq_iff_eq] at this
      exact absurd (this ▸ hg) hid

theorem LotsBut.reportVerdict (h : LotsBut G s t) (v : VerdictKind) {id : Word} (hid : ¬ G id) :
    LotsBut G (s.reportVerdict v id) (t.reportVerdict v id) := by
  obtain ⟨he, hk⟩ := h.lotSlot hid
  simp only [State.reportVerdict, he]
  split
  · next k hs => exact ((hk k hs).modLot _).but
  · exact h

theorem LotsBut.reportResolution (h : LotsBut G s t) {r : Label} (hid : r.kind ≠ .retest → ¬ G r.lotId) (marked : Bool) :
    LotsBut G (s.reportResolution r marked) (t.reportResolution r marked) := by
  by_cases hr : r.kind = .retest
  · simp only [State.reportResolution, hr]
    exact h
  · obtain ⟨he, hk⟩ := h.lotSlot (hid hr)
    simp only [State.reportResolution, he]
    split
    · exact h
    · exact h
    · next k _ hs =>
      split
      · exact (((hk k hs).modLot _).finalCount _ _).but
      · exact (((hk k hs).modLot _).finalCount _ _).but
    · next k _ hs => exact (((hk k hs).modLot _).finalCount _ _).but

theorem LotsBut.reportGivenUp (h : LotsBut G s t) {e : RetestEntry} (hid : ¬ G e.lotId) :
    LotsBut G (s.reportGivenUp e) (t.reportGivenUp e) := by
  obtain ⟨he, hk⟩ := h.lotSlot hid
  simp only [State.reportGivenUp, he]
  split
  · next k hs => exact (((hk k hs).modLot _).finalCount _ _).but
  · exact h

theorem LotsBut.foldGivenUp : ∀ (es : List RetestEntry) {s t : State}, LotsBut G s t → (∀ e ∈ es, ¬ G e.lotId) →
    LotsBut G (es.foldl State.reportGivenUp s) (es.foldl State.reportGivenUp t)
  | [], _, _, h, _ => h
  | e :: es, _, _, h, he => (h.reportGivenUp (he e (List.mem_cons_self ..))).foldGivenUp es fun x hx => he x (List.mem_cons_of_mem _ hx)

/-- The same retest list, none of whose entries belongs to a freed lot. -/
structure EntriesBut (G : Word → Prop) (s t : State) : Prop where
  same : t.retest = s.retest
  kept : ∀ e ∈ s.retest, ¬ G e.lotId

/-- A lot that is due is shown by both. -/
theorem LotsBut.due (h : LotsBut G s t) (k : SlotId) : t.lotDue k = s.lotDue k := by
  rw [lotDue_eq, lotDue_eq]
  rcases h.lot k with e | ⟨e, l, hl, -, hs⟩
  · rw [e]
  · have hd : l.due = false := by
      rw [← Bool.not_eq_true, due_iff]
      exact fun h => hs h.2.1
    rw [e, hl, Option.map_some, hd]
    rfl

theorem LotsBut.completeLot (h : LotsBut G s t) (he : EntriesBut G s t) (k : SlotId) :
    LotsBut G (s.completeLot k) (t.completeLot k) ∧ EntriesBut G (s.completeLot k) (t.completeLot k) := by
  cases hd : s.lotDue k with
  | false =>
    rw [completeLot_of_notDue hd, completeLot_of_notDue (by rw [h.due, hd])]
    exact ⟨h, he⟩
  | true =>
    obtain ⟨l, hl, hl'⟩ := (lotDue_iff s k).mp hd
    obtain ⟨m, hm, hm'⟩ := (lotDue_iff t k).mp ((h.due k).trans hd)
    have hml : m = l := by
      rcases h.lot k with e | ⟨e, -⟩
      · rw [hm, hl] at e; exact Option.some.inj e
      · rw [hm] at e; cases e
    subst hml
    refine ⟨?_, ?_, fun e hm => he.kept e (completeLot_retest s k e hm)⟩
    · have hg : LotsBut G (s.giveUpLot m.id) (t.giveUpLot m.id) := by
        rw [State.giveUpLot, State.giveUpLot, he.same]
        exact LotsBut.foldGivenUp _ (h.congr ⟨rfl, rfl⟩ ⟨rfl, rfl⟩) fun e hm => he.kept e (List.mem_filter.mp hm).1
      have hat : LotsAt G k (s.giveUpLot m.id) (t.giveUpLot m.id) := by
        refine ⟨hg, (hg.lot k).resolve_right ?_⟩
        rintro ⟨hn, -⟩
        obtain ⟨x, hx, -⟩ := (giveUpLot_label t m.id).some hm
        rw [hx] at hn
        cases hn
      rw [completeLot_of_due hl hl', completeLot_of_due hm hl', h.gens k]
      exact (hat.modLot _).but
    · rw [(completeLot_leaves hl hl').1, (completeLot_leaves hm hl').1, he.same]

theorem LotsBut.foldl_completeLot : ∀ (ks : List SlotId) {s t : State}, LotsBut G s t → EntriesBut G s t →
    LotsBut G (ks.foldl State.completeLot s) (ks.foldl State.completeLot t)
  | [], _, _, h, _ => h
  | k :: ks, _, _, h, he => LotsBut.foldl_completeLot ks (h.completeLot he k).1 (h.completeLot he k).2

/-! ### The reports of a soft reset (R142, R156) -/

/-- The counted runs reported ABORTED as the nests reach their reset. -/
theorem LotsBut.resetNests {o : State} : ∀ (ns : List NestId) {s t : State}, ns.Nodup → LotsBut G s t →
    (∀ n ∈ ns, (t.nest n).counts = (o.nest n).counts ∧ (t.nest n).run.lotId = (o.nest n).run.lotId) →
    (∀ n ∈ ns, (o.nest n).counts = true → ¬ G (o.nest n).run.lotId) →
    LotsBut G ((ns.filter fun n => (o.nest n).counts).foldl (fun u n => u.reportVerdict .aborted (o.nest n).run.lotId) s)
      (ns.foldl State.softResetNest t)
  | [], _, _, _, h, _, _ => h
  | n :: ns, s, t, hd, h, ht, hg => by
    obtain ⟨hn, hd⟩ := List.nodup_cons.mp hd
    obtain ⟨hc, hi⟩ := ht n (List.mem_cons_self ..)
    have hrest : ∀ x : State, (∀ m, x.nest m = t.nest m) → ∀ m ∈ ns,
        ((x.modNest n Nest.softReset).nest m).counts = (o.nest m).counts ∧
          ((x.modNest n Nest.softReset).nest m).run.lotId = (o.nest m).run.lotId := fun x hx m hm => by
      have hne : n ≠ m := fun e => hn (by rw [e]; exact hm)
      rw [nest_modNest, if_neg hne, hx]
      exact ht m (List.mem_cons_of_mem _ hm)
    have hg' : ∀ m ∈ ns, (o.nest m).counts = true → ¬ G (o.nest m).run.lotId := fun m hm => hg m (List.mem_cons_of_mem _ hm)
    have hif : ((t.nest n).phase.active && (t.nest n).run.kind == .counted) = (o.nest n).counts := hc
    rw [List.filter_cons, List.foldl_cons, State.softResetNest, hif, hi]
    cases hcount : (o.nest n).counts with
    | false => exact LotsBut.resetNests ns hd (h.congr ⟨rfl, rfl⟩ ⟨rfl, rfl⟩) (hrest t fun _ => rfl) hg'
    | true =>
      have hr := h.reportVerdict .aborted (hg n (List.mem_cons_self ..) hcount)
      exact LotsBut.resetNests ns hd (hr.congr ⟨rfl, rfl⟩ ⟨rfl, rfl⟩) (hrest _ fun m => nest_congr (by simp) m) hg'

/-- The labels resolved UNMARKED, oldest first: each leaves the list and is reported. -/
theorem LotsBut.resetLabels : ∀ (rs : List Label) {s t : State}, LotsBut G s t → t.mrk.records = rs →
    (∀ r ∈ rs, r.kind ≠ .retest → ¬ G r.lotId) →
    LotsBut G (rs.foldl (fun u r => u.reportResolution r false) s) (State.resetLabels rs.length t)
  | [], _, _, h, _, _ => h
  | r :: rs, s, t, h, hr, hg => by
    have h0 : t.mrk.records[0]? = some r := by rw [hr]; rfl
    have hm : (t.resolveLabel 0 false false).mrk.records = rs := by
      rw [resolveLabel_records h0, hr]
      rfl
    have hm' : LotsBut G s (t.modMrk fun m => { m with records := m.records.eraseIdx 0 }) := h.congr ⟨rfl, rfl⟩ ⟨rfl, rfl⟩
    have hres : LotsBut G (s.reportResolution r false) (t.resolveLabel 0 false false) := by
      simp only [State.resolveLabel, h0, Bool.false_and]
      rw [if_neg (by decide)]
      exact hm'.reportResolution (hg r (List.mem_cons_self ..)) false
    exact LotsBut.resetLabels rs hres hm fun x hx => hg x (List.mem_cons_of_mem _ hx)

end Sys2Proof.Machine
end

section
/-! PROOFS. The blocks' own actions at a soft reset (R41, R59, R78, R99, R126, R142, R156): what they leave of each part. -/

namespace Sys2Proof.Machine

variable {s t u : State} {G : Word → Prop} {lk : Link} {c : Notices}

/-- Actions on distinct places, each at its own place alone. -/
theorem foldl_at {ι β : Type} [DecidableEq ι] (get : State → ι → β) (f : State → ι → State) (g : ι → β → β)
    (hf : ∀ s i j, get (f s i) j = if i = j then g j (get s j) else get s j) :
    ∀ (l : List ι) (s : State) (j : ι), l.Nodup → get (l.foldl f s) j = if j ∈ l then g j (get s j) else get s j
  | [], _, _, _ => by simp
  | i :: l, s, j, hd => by
    obtain ⟨hi, hd⟩ := List.nodup_cons.mp hd
    rw [List.foldl_cons, foldl_at get f g hf l _ j hd, hf]
    by_cases h : i = j
    · subst h; simp [hi]
    · simp [h, Ne.symm h]

/-! ### The tables (R41, R126) -/

/-- A slot whose capture a soft reset cancels, with its REF_DONE (R126). -/
def Slot.cancelled (k : SlotId) (x : Slot) : Slot := match x.capture with
  | .idle => x
  | .capturing n c _ | .pending n c _ => { x with capture := .idle, refDone := some (refDoneEvent k x .softReset n c) }

theorem slot_clearBounds (s : State) (k j : SlotId) : (s.clearBounds k).slot j = s.slot j := slot_congr (by simp) j

theorem cancelCapture_slot_at (s : State) (k j : SlotId) :
    (s.cancelCapture k .softReset).slot j = if k = j then (s.slot j).cancelled j else s.slot j := by
  by_cases h : k = j
  · subst h
    rw [if_pos rfl]
    cases hc : (s.slot k).capture with
    | idle => simp only [State.cancelCapture, Slot.cancelled, hc]
    | capturing n c sums | pending n c sums =>
      simp only [State.cancelCapture, Slot.cancelled, hc, State.produceRefDone, slot_modSlot, slot_clearBounds, if_true]
      rfl
  · rw [if_neg h]
    exact cancelCapture_slot s k .softReset h

theorem softResetTables_slot (s : State) (k : SlotId) : s.softResetTables.slot k = (s.slot k).cancelled k := by
  have h := foldl_at State.slot (fun u k => u.cancelCapture k .softReset) Slot.cancelled cancelCapture_slot_at allSlots
    { s with buffers := Vector.replicate 2 none } k (by decide)
  rw [if_pos (mem_allSlots k)] at h
  exact h

theorem softResetTables_unbinds (s : State) : Unbinds s s.softResetTables := by
  unfold State.softResetTables
  exact foldl_keeps (P := Unbinds s) (fun _ k h => h.trans (cancelCapture_unbinds _ k _)) allSlots _ fun _ => .refl _

theorem softResetTables_frame (s : State) :
    s.softResetTables.lnk = s.lnk ∧ s.softResetTables.buffers = Vector.replicate 2 none ∧ s.softResetTables.prot = s.prot ∧
      s.softResetTables.amb = s.amb ∧ s.softResetTables.retest = s.retest ∧ s.softResetTables.mrk = s.mrk ∧
      s.softResetTables.lots = s.lots ∧ s.softResetTables.ntc = s.ntc ∧ s.softResetTables.pending = s.pending := by
  simp [State.softResetTables, allSlots]

/-! ### The nests (R59, R78, R142) -/

theorem softResetNest_nest (s : State) (n m : NestId) :
    (s.softResetNest n).nest m = if n = m then (s.nest m).softReset else s.nest m := by
  have hn : ∀ b : Bool, ∀ j, (if b then s.reportVerdict .aborted (s.nest n).run.lotId else s).nest j = s.nest j := fun b j => by
    cases b
    · rfl
    · exact nest_congr (by simp) j
  rw [State.softResetNest, nest_modNest, hn, hn]
  split
  · next h => rw [h]
  · rfl

theorem softResetNests_nest (s : State) (n : NestId) : (allNests.foldl State.softResetNest s).nest n = (s.nest n).softReset := by
  have h := foldl_at State.nest State.softResetNest (fun _ => Nest.softReset) softResetNest_nest allNests s n (by decide)
  rwa [if_pos (mem_allNests n)] at h

theorem softResetNest_frame (s : State) (n : NestId) :
    (s.softResetNest n).lnk = s.lnk ∧ (s.softResetNest n).slots = s.slots ∧ (s.softResetNest n).buffers = s.buffers ∧
      (s.softResetNest n).prot = s.prot ∧ (s.softResetNest n).amb = s.amb ∧ (s.softResetNest n).retest = s.retest ∧
      (s.softResetNest n).mrk = s.mrk ∧ (s.softResetNest n).ntc = s.ntc ∧ (s.softResetNest n).pending = s.pending := by
  simp only [State.softResetNest]
  split <;> simp

theorem softResetNests_frame (s : State) :
    let t := allNests.foldl State.softResetNest s
    t.lnk = s.lnk ∧ t.slots = s.slots ∧ t.buffers = s.buffers ∧ t.prot = s.prot ∧ t.amb = s.amb ∧ t.retest = s.retest ∧
      t.mrk = s.mrk ∧ t.ntc = s.ntc ∧ t.pending = s.pending := by
  simp [allNests, softResetNest_frame]

/-! ### Occupancies and labels (R78, R156) -/

theorem clearOccupancy_slot (s : State) (k : SlotId) : s.clearOccupancy.slot k = { s.slot k with occupancy := 0 } := by
  have h := foldl_at State.slot (fun t k => t.modSlot k fun x => { x with occupancy := 0 })
    (fun _ x => { x with occupancy := 0 }) (fun s i j => by
      rw [slot_modSlot]
      split
      · next h => rw [h]
      · rfl) allSlots s k (by decide)
  rwa [if_pos (mem_allSlots k)] at h

theorem clearOccupancy_frame (s : State) :
    s.clearOccupancy.lnk = s.lnk ∧ s.clearOccupancy.buffers = s.buffers ∧ s.clearOccupancy.prot = s.prot ∧
      s.clearOccupancy.nests = s.nests ∧ s.clearOccupancy.amb = s.amb ∧ s.clearOccupancy.retest = s.retest ∧
      s.clearOccupancy.mrk = s.mrk ∧ s.clearOccupancy.lots = s.lots ∧ s.clearOccupancy.ntc = s.ntc ∧
      s.clearOccupancy.pending = s.pending := by
  simp [State.clearOccupancy, allSlots]

theorem resetLabels_frame (fuel : Nat) (s : State) :
    (State.resetLabels fuel s).slots = s.slots ∧ (State.resetLabels fuel s).buffers = s.buffers ∧
      (State.resetLabels fuel s).prot = s.prot ∧ (State.resetLabels fuel s).nests = s.nests ∧
      (State.resetLabels fuel s).amb = s.amb ∧ (State.resetLabels fuel s).retest = s.retest ∧
      (State.resetLabels fuel s).pending = s.pending := by
  induction fuel generalizing s with
  | zero => simp [State.resetLabels]
  | succ fuel ih => simp [State.resetLabels, ih]

theorem Resetting.resetLabels (fuel : Nat) (h : Resetting lk c s) : Resetting lk c (State.resetLabels fuel s) := by
  induction fuel generalizing s with
  | zero => exact h
  | succ fuel ih =>
    refine ih ?_
    cases hr : s.mrk.records[0]? with
    | none => simp only [State.resolveLabel, hr]; exact h
    | some r =>
      have hm : Resetting lk c (s.modMrk fun m => { m with records := m.records.eraseIdx 0 }) := h.congr rfl rfl
      simp only [State.resolveLabel, hr, Bool.false_and]
      rw [if_neg (by decide)]
      exact hm.reportResolution r false

/-! ### The blocks together (R176, step 4) -/

/-- MRK after a soft reset (R156). -/
def Marking.restarted (m : Marking) : Marking :=
  { m with records := [], port := .idle, stray := 0, req := m.req.reset, marked := m.marked.reset, jam := m.jam.reset,
           nestLo := m.nestLo.reset, nestHi := m.nestHi.reset }

/-- The state in which the labels are resolved. -/
def State.beforeLabels (s : State) : State :=
  let b := (allNests.foldl State.softResetNest s.softResetTables).clearOccupancy
  { b with amb := b.amb.softReset }

theorem softResetBlocks_eq (s : State) : s.softResetBlocks = s.beforeLabels.softResetMarking := rfl

theorem beforeLabels_frame (s : State) :
    s.beforeLabels.lnk = s.lnk ∧ s.beforeLabels.buffers = Vector.replicate 2 none ∧ s.beforeLabels.prot = s.prot ∧
      s.beforeLabels.amb = s.amb.softReset ∧ s.beforeLabels.retest = s.retest ∧ s.beforeLabels.mrk = s.mrk ∧
      s.beforeLabels.ntc = s.ntc ∧ s.beforeLabels.pending = s.pending := by
  obtain ⟨a1, a2, a3, a4, a5, a6, -, a8, a9⟩ := softResetTables_frame s
  obtain ⟨b1, -, b3, b4, b5, b6, b7, b8, b9⟩ := softResetNests_frame s.softResetTables
  obtain ⟨c1, c2, c3, -, c5, c6, c7, -, c9, c10⟩ := clearOccupancy_frame (allNests.foldl State.softResetNest s.softResetTables)
  rw [State.beforeLabels]
  generalize (allNests.foldl State.softResetNest s.softResetTables).clearOccupancy = b at *
  generalize allNests.foldl State.softResetNest s.softResetTables = a at *
  refine ⟨c1.trans (b1.trans a1), c2.trans (b3.trans a2), c3.trans (b4.trans a3), ?_, c6.trans (b6.trans a5),
    c7.trans (b7.trans a6), c9.trans (b8.trans a8), c10.trans (b9.trans a9)⟩
  exact congrArg Ambient.softReset (c5.trans (b5.trans a4))

theorem beforeLabels_nest (s : State) (n : NestId) : ∃ x, (s.nest n).Unbound x ∧ s.beforeLabels.nest n = x.softReset := by
  refine ⟨_, softResetTables_unbinds s n, ?_⟩
  have hn := nest_congr (clearOccupancy_frame (allNests.foldl State.softResetNest s.softResetTables)).2.2.2.1 n
  rw [softResetNests_nest] at hn
  rw [State.beforeLabels]
  generalize (allNests.foldl State.softResetNest s.softResetTables).clearOccupancy = b at *
  exact hn

theorem beforeLabels_slot (s : State) (k : SlotId) :
    s.beforeLabels.slot k = { (s.slot k).cancelled k with occupancy := 0 } := by
  have h := clearOccupancy_slot (allNests.foldl State.softResetNest s.softResetTables) k
  rw [slot_congr (softResetNests_frame s.softResetTables).2.1, softResetTables_slot] at h
  rw [State.beforeLabels]
  generalize (allNests.foldl State.softResetNest s.softResetTables).clearOccupancy = b at *
  exact h

/-- What the blocks' own actions leave. -/
structure BlocksReset (s v : State) : Prop where
  nests : ∀ n, ∃ x, (s.nest n).Unbound x ∧ v.nest n = x.softReset
  slots : ∀ k, v.slot k = { (s.slot k).cancelled k with occupancy := 0 }
  buffers : ∀ b, v.buffer b = none
  prot : v.prot = s.prot
  amb : v.amb = s.amb.softReset
  retest : v.retest = s.retest
  mrk : v.mrk = s.mrk.restarted
  pending : v.pending = s.pending

theorem softResetMarking_frame (s : State) :
    s.softResetMarking.slots = s.slots ∧ s.softResetMarking.buffers = s.buffers ∧ s.softResetMarking.prot = s.prot ∧
      s.softResetMarking.nests = s.nests ∧ s.softResetMarking.amb = s.amb ∧ s.softResetMarking.retest = s.retest ∧
      s.softResetMarking.pending = s.pending := resetLabels_frame s.mrk.records.length s

/-- Every label record leaves the list. -/
theorem resetLabels_mrk : ∀ (rs : List Label) {t : State}, t.mrk.records = rs →
    (State.resetLabels rs.length t).mrk = { t.mrk with records := [] }
  | [], t, hr => (by rw [← hr] : t.mrk = { t.mrk with records := [] })
  | r :: rs, t, hr => by
    have hm : (t.resolveLabel 0 false false).mrk = { t.mrk with records := rs } := by
      rw [resolveLabel_records (r := r) (by rw [hr]; rfl), hr]
      rfl
    exact (resetLabels_mrk rs (by rw [hm])).trans (by rw [hm])

theorem softResetMarking_mrk (s : State) : s.softResetMarking.mrk = s.mrk.restarted := by
  have hm := resetLabels_mrk s.mrk.records (t := s) rfl
  rw [State.softResetMarking, modMrk_mrk, hm]
  rfl

theorem softResetBlocks_reset (s : State) : BlocksReset s s.softResetBlocks := by
  obtain ⟨-, a2, a3, a4, a5, a6, -, a8⟩ := beforeLabels_frame s
  obtain ⟨b1, b2, b3, b4, b5, b6, b7⟩ := softResetMarking_frame s.beforeLabels
  have hm := softResetMarking_mrk s.beforeLabels
  have hn := beforeLabels_nest s
  have hs := beforeLabels_slot s
  rw [softResetBlocks_eq]
  generalize s.beforeLabels.softResetMarking = v at *
  generalize s.beforeLabels = b at *
  refine ⟨fun n => ?_, fun k => (slot_congr b1 k).trans (hs k), fun j => ?_, b3.trans a3, b5.trans a4, b6.trans a5,
    hm.trans (by rw [a6]), b7.trans a8⟩
  · obtain ⟨x, hx, he⟩ := hn n
    exact ⟨x, hx, (nest_congr b4 n).trans he⟩
  · rw [State.buffer, b2, a2]
    exact Vector.getElem_replicate _

theorem Resetting.softResetMarking (h : Resetting lk c s) : Resetting lk c s.softResetMarking :=
  (h.resetLabels s.mrk.records.length).congr rfl rfl

theorem Resetting.softResetBlocks (h : Resetting lk c s) : Resetting lk c s.softResetBlocks := by
  obtain ⟨a1, -, -, -, -, -, a7, -⟩ := beforeLabels_frame s
  rw [softResetBlocks_eq]
  exact (h.congr a1 a7).softResetMarking

end Sys2Proof.Machine
end

section
/-! PROOFS. The end of a soft reset (R14, R16, R169): what its close and its NOTICE leave, and the messages they add. -/

namespace Sys2Proof.Machine

variable {s t u : State} {first : Msg} {ps : List (Producer × Event)} {lk : Link} {c : Notices}

/-! ### The offers of a close at which no nest has a message -/

/-- No nest has a STEP_RESULT or a VERDICT. -/
structure State.NestsQuiet (s : State) : Prop where
  steps : ∀ n, (s.nest n).stepOut = none
  verdicts : ∀ n, (s.nest n).verdictOut = none

theorem makeOffers_of_quiet (h : s.NestsQuiet) : s.makeOffers =
    allSlots.foldl (fun t k => t.offerReady (.yld k)) (allSlots.foldl (fun t k => t.offerReady (.tbs k)) s) := by
  have hv : ∀ n, s.ready (.vrd n) = false := fun n => by
    have hn : s.held (.vrd n) = none := by
      simp only [State.held, h.verdicts n]
      split <;> rfl
    simp [State.ready, hn]
  rw [makeOffers_eq, dropResults_none s h.steps, foldl_offerNest_of_none _ s h.steps, foldl_offerReady_of_notReady Producer.vrd hv]

theorem offerReady_frees (s : State) {p : Producer} (hp : p.survives = true) : Frees s (s.offerReady p) := by
  unfold State.offerReady State.offer
  split
  · split
    · exact admitProducer_frees s hp
    · exact frees_of_lnk s _ rfl
  · exact .refl s

theorem makeOffers_frees (h : s.NestsQuiet) : Frees s s.makeOffers := by
  rw [makeOffers_of_quiet h]
  refine foldl_keeps (P := Frees s) (fun _ k hx => hx.trans (offerReady_frees _ rfl)) _ _ ?_
  exact foldl_keeps (P := Frees s) (fun _ k hx => hx.trans (offerReady_frees _ rfl)) _ _ (.refl s)

/-- The message held, where there is one. -/
def State.heldEvent (s : State) (p : Producer) : Event := (s.held p).getD ⟨0#8, 0#4, []⟩

theorem held_of_ready {p : Producer} (h : s.ready p = true) : s.held p = some (s.heldEvent p) := by
  obtain ⟨e, he⟩ := Option.ne_none_iff_exists'.mp (ready_iff.mp h).1
  rw [State.heldEvent, he]
  rfl

/-- The slots with a REF_DONE to offer, then the lots with a LOT_SUMMARY. -/
def State.offersMade (s : State) : List (Producer × Event) :=
  (allSlots.filter fun k => s.ready (.tbs k)).map (fun k => (.tbs k, s.heldEvent (.tbs k))) ++
    (allSlots.filter fun k => s.ready (.yld k)).map (fun k => (.yld k, s.heldEvent (.yld k)))

theorem makeOffers_queued (h : s.NestsQuiet) (hq : Queued first s ps) : Queued first s.makeOffers (ps ++ s.offersMade) := by
  obtain ⟨h1, g1⟩ := Queued.offers Producer.tbs (fun _ _ => Producer.tbs.inj) (fun k => s.heldEvent (.tbs k)) allSlots (by decide) hq
    fun k _ hr => held_of_ready hr
  rw [makeOffers_of_quiet h, State.offersMade, ← List.append_assoc]
  generalize allSlots.foldl (fun t k => t.offerReady (.tbs k)) s = a at *
  have hy : ∀ k, a.ready (.yld k) = s.ready (.yld k) ∧ a.held (.yld k) = s.held (.yld k) := fun k => g1 _ fun _ _ => by simp
  obtain ⟨h2, -⟩ := Queued.offers Producer.yld (fun _ _ => Producer.yld.inj) (fun k => s.heldEvent (.yld k)) allSlots (by decide) h1
    fun k _ hr => by
      rw [(hy k).1] at hr
      rw [(hy k).2]
      exact held_of_ready hr
  simpa only [hy] using h2

/-! ### The NOTICE offered last (R16, R174) -/

theorem Queued.notice (hq : Queued first s ps) (hb : s.ntc.outbox = .empty) :
    Queued first s.askNotice (ps ++ [(.ntc, s.noticeEvent)]) := by
  simp only [State.askNotice, hb, hq.placeFree]
  by_cases hp : ps.length < 15
  · rw [hq.line_nil (by omega), decide_eq_true hp]
    have g := admitEvent_gains s s.noticeEvent
    exact hq.gains hp (t := s.admitNotice) ⟨g.line, g.seq, g.events⟩
  · rw [decide_eq_false hp]
    exact (hq.line_full hp .ntc s.noticeEvent).congr rfl

/-- The parts of the state that the end of a soft reset leaves alone. -/
theorem settleNotice_frame (s : State) :
    s.settleNotice.lnk.still = s.lnk.still ∧ s.settleNotice.slots = s.slots ∧ s.settleNotice.buffers = s.buffers ∧
      s.settleNotice.prot = s.prot ∧ s.settleNotice.nests = s.nests ∧ s.settleNotice.amb = s.amb ∧
      s.settleNotice.retest = s.retest ∧ s.settleNotice.mrk = s.mrk ∧ s.settleNotice.lots = s.lots ∧
      s.settleNotice.pending = s.pending := by
  simp only [State.settleNotice]
  (repeat' split) <;> simp

theorem settleNotice_still (h : s.ntc = c.restarted) : s.settleNotice = s.modNtc fun c => { c with outbox := .empty } := by
  have hb : s.ntc.outbox = .deferred false := by rw [h]; rfl
  simp only [State.settleNotice, hb]
  rfl

theorem settleNotice_lowered {b : BitVec 8} {tm : Option Nat} (h : s.ntc = c.lowered b tm) :
    s.settleNotice = if c.enables.getLsbD 4 = true then (s.modNtc fun c => { c with outbox := .empty }).askNotice
      else s.modNtc fun c => { c with outbox := .empty } := by
  have hb : s.ntc.outbox = .deferred (c.enables.getLsbD 4) := by rw [h]; rfl
  simp only [State.settleNotice, hb]

theorem askNotice_lost (s : State) : s.askNotice.lnk.traceLost = s.lnk.traceLost := (askNotice_asks (lossy := false) s).lost rfl

theorem settleNotice_lost (s : State) : s.settleNotice.lnk.traceLost = s.lnk.traceLost := by
  simp only [State.settleNotice]
  (repeat' split)
  · exact askNotice_lost _
  all_goals rfl

/-- NTC's values at the end of a soft reset; LOW_YIELD alone can be up (R170, R176). -/
structure Notices.Restarted (c d : Notices) : Prop where
  cause : d.softCause = true
  owed : d.owed = false
  enables : d.enables = c.enables
  period : d.period = c.period
  nonUrgent : d.nonUrgent = false
  flags : d.flags = 0#8 ∨ d.flags = 0x10#8
  idle : d.flags = 0#8 → d.timer = none ∧ d.outbox = .empty ∧ d.bitmap = 0#8

theorem askNotice_ntc (h : s.ntc.outbox = .empty) (ho : s.ntc.owed = false) :
    ∃ b, s.askNotice.ntc = { s.ntc with outbox := b } := by
  simp only [State.askNotice, h]
  split
  · exact ⟨.empty, by rw [admitNotice_eq, ← ho]⟩
  · exact ⟨.waiting, rfl⟩

theorem settleNotice_ntc (h : s.ntc = c.restarted ∨ ∃ b tm, s.ntc = c.lowered b tm) :
    c.Restarted s.settleNotice.ntc ∧ s.settleNotice.ntc.flags = s.ntc.flags ∧ s.settleNotice.ntc.bitmap = s.ntc.bitmap := by
  rcases h with h | ⟨b, tm, h⟩
  · rw [settleNotice_still h, modNtc_ntc, h]
    exact ⟨⟨rfl, rfl, rfl, rfl, rfl, .inl rfl, fun _ => ⟨rfl, rfl, rfl⟩⟩, rfl, rfl⟩
  · have hx : ∃ x, s.settleNotice.ntc = { c.lowered b tm with outbox := x } := by
      rw [settleNotice_lowered h]
      split
      · obtain ⟨x, hx⟩ := askNotice_ntc (s := s.modNtc fun c => { c with outbox := .empty }) rfl (by rw [modNtc_ntc, h]; rfl)
        exact ⟨x, by rw [hx, modNtc_ntc, h]⟩
      · exact ⟨.empty, by rw [modNtc_ntc, h]⟩
    obtain ⟨x, hx⟩ := hx
    rw [hx, h]
    exact ⟨⟨rfl, rfl, rfl, rfl, rfl, .inr rfl, fun hf => absurd (show (0x10#8 : BitVec 8) = 0#8 from hf) (by decide)⟩, rfl, rfl⟩

theorem put_bitmap (b : BitVec 8) : put b.toNat 8 8 = b.setWidth 32 <<< 8 := by
  apply BitVec.eq_of_toNat_eq
  have := b.isLt
  simp only [put, BitVec.toNat_ofNat, BitVec.toNat_shiftLeft, BitVec.toNat_setWidth, Nat.shiftLeft_eq]
  omega

/-- The NOTICE of a soft reset's own LOW_YIELD. -/
theorem noticeEvent_lowYield (hf : s.ntc.flags = 0x10#8) (ha : s.amb.loud = false) (ho : s.ntc.owed = false)
    (h1 : s.lnk.linkErr = 0) (h2 : s.lnk.overrun = 0) (h3 : s.lnk.slip = 0) (h4 : s.lnk.traceLost = 0) :
    s.noticeEvent = ⟨0x82#8, 15#4, [0x10#32 ||| s.ntc.bitmap.setWidth 32 <<< 8, 0#32, 0#32]⟩ := by
  have hz : halves 0 0 = 0#32 := by decide
  have hput : put (0x10#8).toNat 0 8 = 0x10#32 := by decide
  have hflag : ∀ i, flag false i = 0#32 := fun i => put_zero i 1
  simp only [State.noticeEvent, hf, ha, ho, h1, h2, h3, h4, hz, hput, put_bitmap, Bool.false_and, hflag, BitVec.or_zero]

theorem settleNotice_queued (hq : Queued first s ps) (h : s.ntc = c.restarted ∨ ∃ b tm, s.ntc = c.lowered b tm)
    (ha : s.amb.loud = false) (h1 : s.lnk.linkErr = 0) (h2 : s.lnk.overrun = 0) (h3 : s.lnk.slip = 0)
    (h4 : s.lnk.traceLost = 0) :
    Queued first s.settleNotice (ps ++ if s.ntc.flags.getLsbD 4 && c.enables.getLsbD 4 then
      [(.ntc, ⟨0x82#8, 15#4, [0x10#32 ||| s.ntc.bitmap.setWidth 32 <<< 8, 0#32, 0#32]⟩)] else []) := by
  have hempty : Queued first (s.modNtc fun c => { c with outbox := .empty }) ps := hq.congr rfl
  rcases h with h | ⟨b, tm, h⟩
  · have hf : s.ntc.flags.getLsbD 4 = false := by
      have : s.ntc.flags = 0#8 := by rw [h]; rfl
      rw [this]
      decide
    rw [settleNotice_still h, hf, Bool.false_and, if_neg (by decide), List.append_nil]
    exact hempty
  · have hflags : s.ntc.flags = 0x10#8 := by rw [h]; rfl
    have hf : s.ntc.flags.getLsbD 4 = true := by rw [hflags]; decide
    rw [settleNotice_lowered h, hf, Bool.true_and]
    split
    · have hn := noticeEvent_lowYield (s := s.modNtc fun c => { c with outbox := .empty }) hflags ha
        (by rw [modNtc_ntc, h]; rfl) h1 h2 h3 h4
      have hl := hempty.notice rfl
      rw [hn] at hl
      exact hl
    · rw [List.append_nil]
      exact hempty

end Sys2Proof.Machine
end

section
/-! PROOFS. A soft reset as a whole (R16, R59, R78, R126, R142, R156, R164, R169, R176): its nests, its lots, and what its close
leaves. -/

namespace Sys2Proof.Machine

variable {s t u v : State} {first : Msg} {ps : List (Producer × Event)} {lk : Link} {c : Notices}

/-! ### A nest after the reset (R59, R78, R79) -/

/-- A nest before and after a soft reset. -/
structure Nest.Restarted (x y : Nest) : Prop where
  phase : y.phase = .idle
  engine : y.engine = Engine.initial
  analysis : y.analysis = Analysis.initial
  window : y.window = .before
  retry : y.retryMarked = false
  verdict : y.verdictOut = none
  step : y.stepOut = none
  seat : y.seat = x.seat
  serial : y.run.serial = x.run.serial
  ended : x.phase = .armed ∨ x.phase = .running → { y.run with bound := false } = { x.run with
    bound := false, endCause := .aborted .softReset, endStep := if x.phase = .armed then 255 else x.engine.step }
  kept : ¬ (x.phase = .armed ∨ x.phase = .running) → y.run = x.run
  config : y.config = if x.phase ≠ .idle ∧ x.config.benchEnding = true then
    { x.config with bench := false, benchEnding := false } else x.config

theorem softReset_restarted (x : Nest) (hv : x.verdictOut = none) (hs : x.stepOut = none) : x.Restarted x.softReset := by
  by_cases hi : x.phase = .idle
  · have he : x.softReset = { x with
        window := .before, retryMarked := false, engine := .initial, analysis := .initial } := by
      simp [Nest.softReset, hi, Phase.active]
    rw [he]
    exact ⟨hi, rfl, rfl, rfl, rfl, hv, hs, rfl, rfl, fun h => by simp [hi] at h, fun _ => rfl, by simp [hi]⟩
  · have he : x.softReset = { x.returnIdle with
        run := if x.phase.active then
            { x.run with endCause := .aborted .softReset, endStep := if x.phase = .armed then 255 else x.engine.step }
          else x.run
        window := .before, retryMarked := false, engine := .initial, analysis := .initial } := by
      simp [Nest.softReset, hi]
    rw [he]
    refine ⟨rfl, rfl, rfl, rfl, rfl, hv, hs, rfl, ?_, fun h => ?_, fun h => ?_, ?_⟩
    · dsimp only
      split <;> rfl
    · dsimp only
      rw [if_pos ((active_iff _).mpr h)]
    · dsimp only
      rw [if_neg (fun ha => h ((active_iff _).mp ha))]
    · simp [returnIdle_eq, hi]

/-- Capture bound does not matter to it. -/
theorem Nest.Restarted.of_unbound {x x' y : Nest} (h : x.Unbound x') (g : x'.Restarted y) : x.Restarted y := by
  obtain ⟨hc, hse, hp, -, -, -, he, -⟩ := h.same.fields
  have hserial : x'.run.serial = x.run.serial := (congrArg Run.serial (SameButBound.unboundRun h.same) :)
  obtain ⟨g1, g2, g3, g4, g5, g6, g7, g8, g9, g10, g11, g12⟩ := g
  rw [hp] at g10 g11 g12
  rw [hc] at g12
  refine ⟨g1, g2, g3, g4, g5, g6, g7, g8.trans hse, g9.trans hserial, fun ha => ?_, fun hn => ?_, g12⟩
  · have hrun := congrArg (fun r : Run => { r with
      endCause := .aborted .softReset, endStep := if x.phase = Phase.armed then 255 else x.engine.step }) (SameButBound.unboundRun h.same)
    rw [g10 ha, he]
    exact hrun
  · rw [g11 hn, h.inactive (by rw [← Bool.not_eq_true, active_iff]; exact hn)]

theorem Nest.Restarted.of_withdrawn {x y : Nest} (h : ({ x with verdictOut := none, stepOut := none } : Nest).Restarted y) :
    x.Restarted y :=
  ⟨h.phase, h.engine, h.analysis, h.window, h.retry, h.verdict, h.step, h.seat, h.serial, h.ended, h.kept, h.config⟩

/-- A nest once the blocks have acted. -/
theorem softBlocks_nest (s : State) (tag : BitVec 8) (n : NestId) :
    (s.nest n).Restarted (((s.softFilled 15#4 tag).softResetBlocks).nest n) := by
  obtain ⟨x, hx, he⟩ := (softResetBlocks_reset (s.softFilled 15#4 tag)).nests n
  rw [softFilled_nest] at hx
  obtain ⟨-, -, -, -, -, -, -, -, hv, hs⟩ := hx.same.fields
  rw [he]
  exact .of_withdrawn (.of_unbound hx (softReset_restarted x hv hs))

theorem softBlocks_quiet (s : State) (tag : BitVec 8) : ((s.softFilled 15#4 tag).softResetBlocks).NestsQuiet :=
  ⟨fun n => (softBlocks_nest s tag n).step, fun n => (softBlocks_nest s tag n).verdict⟩

/-! ### The lots after the reports (R142, R156, R169) -/

/-- The lots once the counted runs are reported ABORTED and the labels UNMARKED. -/
def State.reported (s : State) : State :=
  s.mrk.records.foldl (fun u r => u.reportResolution r false)
    ((allNests.filter fun n => (s.nest n).counts).foldl (fun u n => u.reportVerdict .aborted (s.nest n).run.lotId) s)

/-- The id of a lot whose LOT_SUMMARY waits. -/
def State.sent (s : State) (id : Word) : Prop := ∃ k l, s.lot k = some l ∧ l.summary ≠ none ∧ l.id = id

/-- Nothing that a soft reset reports or gives up belongs to a lot whose LOT_SUMMARY waits. -/
structure State.NoneSent (s : State) : Prop where
  runs : ∀ n, (s.nest n).counts = true → ¬ s.sent (s.nest n).run.lotId
  labels : ∀ r ∈ s.mrk.records, r.kind ≠ .retest → ¬ s.sent r.lotId
  entries : ∀ e ∈ s.retest, ¬ s.sent e.lotId

theorem noneSent_of_none (h : ∀ k l, s.lot k = some l → l.summary = none) : s.NoneSent := by
  have hs : ∀ id, ¬ s.sent id := fun id ⟨k, l, hl, hn, _⟩ => hn (h k l hl)
  exact ⟨fun _ _ => hs _, fun _ _ _ => hs _, fun _ _ => hs _⟩

/-- A lot whose LOT_SUMMARY waits has no unit left (R164). -/
theorem noneSent_of_counts (h : CountsOk s) : s.NoneSent := by
  have units : ∀ id, s.sent id → s.unitsInFlight id = 0 ∧ s.unitsAwaiting id = 0 ∧ s.unitsOutstanding id = 0 := by
    rintro id ⟨k, l, hl, hn, rfl⟩
    obtain ⟨-, h1, h2, h3⟩ := h.lots k l hl
    obtain ⟨-, g1, g2, g3⟩ := h.summaries k l hl hn
    exact ⟨h1.symm.trans g1, h2.symm.trans g2, h3.symm.trans g3⟩
  refine ⟨fun n hn hs => ?_, fun r hr hk hs => ?_, fun e he hs => ?_⟩
  · have hmem : n ∈ allNests.filter fun m => (s.nest m).counts && (s.nest m).run.lotId == (s.nest n).run.lotId :=
      List.mem_filter.mpr ⟨mem_allNests n, by simp [hn]⟩
    rw [List.length_eq_zero_iff.mp (units _ hs).1] at hmem
    exact List.not_mem_nil hmem
  · have hmem : r ∈ s.mrk.records.filter fun x => x.kind != .retest && x.lotId == r.lotId :=
      List.mem_filter.mpr ⟨hr, by simp [hk]⟩
    rw [List.length_eq_zero_iff.mp (units _ hs).2.1] at hmem
    exact List.not_mem_nil hmem
  · have hmem : e ∈ s.retest.filter fun x => x.lotId == e.lotId := List.mem_filter.mpr ⟨he, by simp⟩
    rw [List.length_eq_zero_iff.mp (units _ hs).2.2] at hmem
    exact List.not_mem_nil hmem

theorem reported_label (s : State) (k : SlotId) : LabelAt k s s.reported :=
  (foldl_label (fun u n => reportVerdict_label u .aborted (s.nest n).run.lotId) _ s).trans
    (foldl_label (fun u r => reportResolution_label u r false) _ _)

theorem reported_retest (s : State) : s.reported.retest = s.retest := by
  unfold State.reported
  refine foldl_keeps (P := fun t => t.retest = s.retest) (fun t r h => ?_) _ _
    (foldl_keeps (P := fun t => t.retest = s.retest) (fun t n h => ?_) _ _ rfl)
  · rw [← h]; simp
  · rw [← h]; simp

theorem softFilled_lots (s : State) (tag : BitVec 8) : LotsBut s.sent s (s.softFilled 15#4 tag) where
  lot k := (softFilled_lot s 15#4 tag k).imp_right fun ⟨hn, l, hl, hs⟩ => ⟨hn, l, hl, ⟨k, l, hl, hs, rfl⟩, hs⟩
  tables k := (congrArg Slot.tables (softFilled_slot s 15#4 tag k) :)
  gens k := (congrArg Slot.generation (softFilled_slot s 15#4 tag k) :)

theorem cancelled_same (k : SlotId) (x : Slot) : (x.cancelled k).tables = x.tables ∧ (x.cancelled k).generation = x.generation ∧
    (x.cancelled k).loaded = x.loaded ∧ (x.cancelled k).reference = x.reference ∧ (x.cancelled k).refGen = x.refGen ∧
    (x.cancelled k).capture = .idle := by
  unfold Slot.cancelled
  cases hc : x.capture with
  | idle => exact ⟨rfl, rfl, rfl, rfl, rfl, hc⟩
  | capturing n c sums | pending n c sums => exact ⟨rfl, rfl, rfl, rfl, rfl, rfl⟩

theorem Nest.Unbound.counts {x y : Nest} (h : x.Unbound y) : y.counts = x.counts ∧ y.run.lotId = x.run.lotId := by
  have hr := SameButBound.unboundRun h.same
  have hk : y.run.kind = x.run.kind := (congrArg Run.kind hr :)
  exact ⟨by rw [Nest.counts, Nest.counts, h.phase, hk], (congrArg Run.lotId hr :)⟩

theorem beforeLabels_lots {G : Word → Prop} {o : State} (h : LotsBut G o u)
    (hn : ∀ n, (u.nest n).counts = (o.nest n).counts ∧ (u.nest n).run.lotId = (o.nest n).run.lotId)
    (hg : ∀ n, (o.nest n).counts = true → ¬ G (o.nest n).run.lotId) :
    LotsBut G ((allNests.filter fun n => (o.nest n).counts).foldl (fun u n => u.reportVerdict .aborted (o.nest n).run.lotId) o)
      u.beforeLabels := by
  have ht : LotsBut G o u.softResetTables := by
    refine ⟨fun k => ?_, fun k => ?_, fun k => ?_⟩
    · rw [lot_congr (softResetTables_frame u).2.2.2.2.2.2.1]; exact h.lot k
    · rw [softResetTables_slot, (cancelled_same k _).1]; exact h.tables k
    · rw [softResetTables_slot, (cancelled_same k _).2.1]; exact h.gens k
  have hunbound : ∀ n, (u.softResetTables.nest n).counts = (o.nest n).counts ∧
      (u.softResetTables.nest n).run.lotId = (o.nest n).run.lotId := fun n => by
    obtain ⟨h1, h2⟩ := (softResetTables_unbinds u n).counts
    obtain ⟨h3, h4⟩ := hn n
    exact ⟨h1.trans h3, h2.trans h4⟩
  have hb := LotsBut.resetNests allNests (by decide) ht (fun n _ => hunbound n) fun n _ => hg n
  have hc := clearOccupancy_slot (allNests.foldl State.softResetNest u.softResetTables)
  have hl := (clearOccupancy_frame (allNests.foldl State.softResetNest u.softResetTables)).2.2.2.2.2.2.2.1
  rw [State.beforeLabels]
  generalize (allNests.foldl State.softResetNest u.softResetTables).clearOccupancy = b at *
  generalize allNests.foldl State.softResetNest u.softResetTables = a at *
  refine ⟨fun k => ?_, fun k => ?_, fun k => ?_⟩
  · have hk := hb.lot k
    rw [← lot_congr hl k] at hk
    exact hk
  · have hk := hb.tables k
    have hs : (b.slot k).tables = (a.slot k).tables := by rw [hc k]
    exact hs.trans hk
  · have hk := hb.gens k
    have hs : (b.slot k).generation = (a.slot k).generation := by rw [hc k]
    exact hs.trans hk

theorem LotsBut.softResetMarking {G : Word → Prop} {o : State} (h : LotsBut G o u)
    (hg : ∀ r ∈ u.mrk.records, r.kind ≠ .retest → ¬ G r.lotId) :
    LotsBut G (u.mrk.records.foldl (fun u r => u.reportResolution r false) o) u.softResetMarking :=
  (LotsBut.resetLabels u.mrk.records h rfl hg).congr ⟨rfl, rfl⟩ ⟨rfl, rfl⟩

/-- The lots that the reset's own reports leave are those of the reports alone, but for lots already gone. -/
theorem softBlocks_lots (hs : s.NoneSent) (tag : BitVec 8) :
    LotsBut s.sent s.reported (s.softFilled 15#4 tag).softResetBlocks ∧
      EntriesBut s.sent s.reported (s.softFilled 15#4 tag).softResetBlocks := by
  obtain ⟨-, -, -, hr, hm, -⟩ := softFilled_parts s 15#4 tag
  have hb := beforeLabels_lots (softFilled_lots s tag) (fun n => by rw [softFilled_nest]; exact ⟨rfl, rfl⟩) hs.runs
  have hrec : (s.softFilled 15#4 tag).beforeLabels.mrk = s.mrk := ((beforeLabels_frame _).2.2.2.2.2.1).trans hm
  have hl := hb.softResetMarking (by rw [hrec]; exact hs.labels)
  rw [hrec] at hl
  refine ⟨hl, ((softResetBlocks_reset _).retest.trans hr).trans (reported_retest s).symm, ?_⟩
  rw [reported_retest]
  exact hs.entries

end Sys2Proof.Machine
end

section
/-! PROOFS. The order of the messages that a soft reset leaves waiting (R14, R16, R126, R169). -/

namespace Sys2Proof.Machine

variable {s t u v w : State} {first : Msg} {ps : List (Producer × Event)} {lk : Link} {c : Notices} {k : SlotId}

/-! ### What the close of a soft reset leaves -/

/-- From v to t an event closes in which no nest has a message, and the NOTICE kept back is offered. -/
structure Closed (v t : State) : Prop where
  nests : ∀ n, t.nest n = v.nest n
  slots : ∀ k, (v.slot k).Served (t.slot k)
  lots : ∀ k, t.lot k = v.completeLots.lot k ∨ (t.lot k = none ∧ ∃ l, v.completeLots.lot k = some l ∧ l.summary ≠ none)
  retest : t.retest = v.completeLots.retest
  still : t.lnk.still = v.lnk.still
  lost : t.lnk.traceLost = v.lnk.traceLost
  events : ∃ more, t.lnk.eventQ = v.lnk.eventQ ++ more
  buffers : t.buffers = v.buffers
  prot : t.prot = v.prot
  amb : t.amb = v.amb
  mrk : t.mrk = v.mrk
  pending : t.pending = v.pending

theorem completeLots_quiet (h : v.NestsQuiet) : v.completeLots.NestsQuiet := by
  have hn : ∀ n, v.completeLots.nest n = v.nest n := nest_congr (by simp)
  exact ⟨fun n => by rw [hn]; exact h.steps n, fun n => by rw [hn]; exact h.verdicts n⟩

theorem settleNotice_events (s : State) : ∃ more, s.settleNotice.lnk.eventQ = s.lnk.eventQ ++ more := by
  have same : ∀ x : State, x.lnk.eventQ = s.lnk.eventQ → ∃ more, x.lnk.eventQ = s.lnk.eventQ ++ more :=
    fun x hx => ⟨[], by rw [hx, List.append_nil]⟩
  simp only [State.settleNotice]
  (repeat' split)
  · exact (askNotice_reports (.refl (s.modNtc fun c => { c with outbox := .empty }))).events
  · exact same _ rfl
  · exact same _ rfl
  · exact same _ rfl

theorem closed_of_quiet (h : v.NestsQuiet) : Closed v v.endEvent.settleNotice := by
  obtain ⟨f1, f2, f3, f4, f5, f6, f7, f8, f9, f10⟩ := settleNotice_frame v.endEvent
  obtain ⟨g1, g2, g3, g4, g5, g6⟩ := endEvent_frame v
  have hf := makeOffers_frees (completeLots_quiet h)
  rw [← endEvent_eq] at hf
  have hw := makeOffers_frame v.completeLots
  obtain ⟨more, hm⟩ := (endEvent_reports (.refl v)).events
  obtain ⟨last, hl⟩ := settleNotice_events v.endEvent
  refine ⟨fun n => ?_, fun k => ?_, fun k => ?_, f7.trans hw.2.2.2.2.1, f1.trans g1, ?_, ⟨more ++ last, ?_⟩, f3.trans g2,
    f4.trans g3, f6.trans g4, f8.trans g5, f10.trans g6⟩
  · rw [nest_congr f5]
    exact (hf.nests n).trans (nest_congr (completeLots_frame v).2.2.2.2.1 n)
  · rw [slot_congr f2, ← completeLots_slot]
    exact hf.slots k
  · rw [lot_congr f9]
    exact hf.lots k
  · rw [settleNotice_lost]
    rw [hf.lost, (completeLots_asks (lossy := false) v).lost rfl]
  · rw [hl, hm, List.append_assoc]

theorem Resetting.completeLots (h : Resetting lk c v) : Resetting lk c v.completeLots := by
  unfold State.completeLots
  exact foldl_keeps (P := Resetting lk c) (fun _ k h => h.completeLot k) allSlots v h

/-- NTC after the close, and the NOTICE. -/
theorem Resetting.settled (h : Resetting lk c v) (hq : v.NestsQuiet) : c.Restarted v.endEvent.settleNotice.ntc ∧
    v.endEvent.settleNotice.ntc.flags = v.completeLots.ntc.flags ∧
    v.endEvent.settleNotice.ntc.bitmap = v.completeLots.ntc.bitmap := by
  have hn : v.endEvent.ntc = v.completeLots.ntc := (makeOffers_frees (completeLots_quiet hq)).ntc
  rw [← hn]
  exact settleNotice_ntc (by rw [hn]; exact h.completeLots.ntc)

/-- The messages of the close, and the NOTICE of the reset's own LOW_YIELD. -/
theorem Resetting.queued (h : Resetting lk c v) (hq : v.NestsQuiet) (hps : Queued first v ps) (ha : v.amb.loud = false)
    (h1 : lk.linkErr = 0) (h2 : lk.overrun = 0) (h3 : lk.slip = 0) (h4 : lk.traceLost = 0) :
    Queued first v.endEvent.settleNotice (ps ++ v.completeLots.offersMade ++
      if v.endEvent.settleNotice.ntc.flags.getLsbD 4 && c.enables.getLsbD 4 then
        [(.ntc, ⟨0x82#8, 15#4, [0x10#32 ||| v.endEvent.settleNotice.ntc.bitmap.setWidth 32 <<< 8, 0#32, 0#32]⟩)] else []) := by
  have hw := h.completeLots
  have hqw := completeLots_quiet hq
  have hf := makeOffers_frees hqw
  have hoff := makeOffers_queued hqw (hps.congr (hw.lnk.trans h.lnk.symm))
  obtain ⟨-, -, -, -, -, -, -, -, -, -, -, e1, e2, e3, -⟩ := Link.still_fields (makeOffers_frame v.completeLots).1
  have hamb : v.endEvent.amb.loud = false := by rw [(endEvent_frame v).2.2.2.1]; exact ha
  obtain ⟨-, hflags, hbits⟩ := h.settled hq
  rw [hw.lnk] at e1 e2 e3
  have e4 := hf.lost.trans (congrArg Link.traceLost hw.lnk)
  have hn := hf.ntc
  rw [hflags, hbits, ← hn]
  rw [← endEvent_eq] at hoff e1 e2 e3 e4 hn ⊢
  exact settleNotice_queued hoff (by rw [hn]; exact hw.ntc) hamb (e1.trans h1) (e2.trans h2) (e3.trans h3) (e4.trans h4)

/-! ### Who has a message to offer (R126, R164, R169) -/

theorem softResetTables_lot (s : State) (k : SlotId) : s.softResetTables.lot k = s.lot k :=
  lot_congr (softResetTables_frame s).2.2.2.2.2.2.1 k

theorem softResetNest_label (s : State) (n : NestId) : LabelAt k s (s.softResetNest n) := by
  rw [State.softResetNest]
  refine LabelAt.trans ?_ (labelAt_of_lot (lot_congr (modNest_frame _ n Nest.softReset).2.2.2.2.2.2.2.1 k))
  split
  · exact reportVerdict_label s _ _
  · rfl

theorem resolveReset_label (s : State) : LabelAt k s (s.resolveLabel 0 false false) := by
  cases hr : s.mrk.records[0]? with
  | none => simp only [State.resolveLabel, hr]; rfl
  | some r =>
    have hm : LabelAt k s (s.modMrk fun m => { m with records := m.records.eraseIdx 0 }) := labelAt_of_lot rfl
    simp only [State.resolveLabel, hr, Bool.false_and]
    rw [if_neg (by decide)]
    exact hm.trans (reportResolution_label _ r false)

theorem resetLabels_label (fuel : Nat) (s : State) : LabelAt k s (State.resetLabels fuel s) := by
  induction fuel generalizing s with
  | zero => rfl
  | succ fuel ih => exact (resolveReset_label s).trans (ih _)

theorem beforeLabels_label (s : State) : LabelAt k s s.beforeLabels := by
  have h1 : LabelAt k s s.softResetTables := labelAt_of_lot (softResetTables_lot s k)
  have h2 : LabelAt k s.softResetTables (allNests.foldl State.softResetNest s.softResetTables) :=
    foldl_label softResetNest_label _ _
  have h3 : (allNests.foldl State.softResetNest s.softResetTables).clearOccupancy.lot k =
      (allNests.foldl State.softResetNest s.softResetTables).lot k :=
    lot_congr (clearOccupancy_frame _).2.2.2.2.2.2.2.1 k
  have h := (h1.trans h2).trans (labelAt_of_lot h3)
  rw [State.beforeLabels]
  generalize (allNests.foldl State.softResetNest s.softResetTables).clearOccupancy = b at *
  exact h

theorem softResetMarking_label (s : State) : LabelAt k s s.softResetMarking :=
  (resetLabels_label s.mrk.records.length s).trans (labelAt_of_lot rfl)

theorem softResetBlocks_label (s : State) : LabelAt k s s.softResetBlocks := by
  rw [softResetBlocks_eq]
  exact (beforeLabels_label s).trans (softResetMarking_label s.beforeLabels)

/-- The REF_DONE of a slot's capture that a soft reset cancels. -/
def Slot.cancelDone (k : SlotId) (x : Slot) : Option Event := match x.capture with
  | .idle => none
  | .capturing n c _ | .pending n c _ => some (refDoneEvent k x .softReset n c)

theorem cancelDone_served {x y : Slot} (h : x.Served y) (k : SlotId) : y.cancelDone k = x.cancelDone k := by
  rw [h]
  rfl

theorem cancelDone_ne_none {x : Slot} (h : x.capture ≠ .idle) (k : SlotId) : x.cancelDone k ≠ none := by
  unfold Slot.cancelDone
  cases hc : x.capture with
  | idle => exact absurd hc h
  | capturing n c sums | pending n c sums => simp

theorem cancelled_refDone (k : SlotId) (x : Slot) :
    (x.cancelled k).refDone = if x.capture = .idle then x.refDone else x.cancelDone k := by
  unfold Slot.cancelled Slot.cancelDone
  cases hc : x.capture with
  | idle => rfl
  | capturing n c sums | pending n c sums => rfl

/-- After the blocks' own actions the slots with a message to offer are those whose capture was cancelled. -/
theorem ready_tbs (h : LineIn true true u) (hw : ∀ k, (w.slot k).refDone = ((u.slot k).cancelled k).refDone)
    (hl : w.lnk = u.lnk) (k : SlotId) : w.ready (.tbs k) = ((u.slot k).capture != .idle) := by
  have hheld : w.held (.tbs k) = ((u.slot k).cancelled k).refDone := hw k
  rw [cancelled_refDone] at hheld
  rw [Bool.eq_iff_iff, ready_iff, hheld, hl, bne_iff_ne]
  by_cases hc : (u.slot k).capture = .idle
  · rw [if_pos hc]
    exact ⟨fun ⟨h1, h2⟩ => absurd (h.offers rfl (.tbs k) h1) h2, fun h1 => absurd hc h1⟩
  · rw [if_neg hc]
    exact ⟨fun _ => hc, fun _ => ⟨cancelDone_ne_none hc k, fun hm => hc (h.captures k (h.waits _ hm (by simp)))⟩⟩

/-- After the completions the lots with a message to offer are those that were due. -/
theorem ready_yld (h : LineIn true true u) (hv : LabelAt k u v) (hl : v.completeLots.lnk = u.lnk) :
    v.completeLots.ready (.yld k) = v.lotDue k := by
  cases hd : v.lotDue k with
  | false =>
    have hheld : v.completeLots.held (.yld k) = u.held (.yld k) := (hv.trans (foldl_completeLot_label allSlots v hd)).held
    rw [← Bool.not_eq_true, ready_iff, hheld, hl]
    exact fun ⟨h1, h2⟩ => h2 (h.offers rfl _ h1)
  | true =>
    obtain ⟨l, hvl, hdue⟩ := (lotDue_iff v k).mp hd
    obtain ⟨-, x, hx, hs, -⟩ := foldl_completeLot_due allSlots v (mem_allSlots k) hvl hdue
    have hx' : v.completeLots.lot k = some x := hx
    have hnone : u.held (.yld k) = none := by
      rw [← hv.held]
      simp [State.held, hvl, ((due_iff l).mp hdue).2.1]
    rw [ready_iff, hl]
    refine ⟨?_, fun hm => h.waits _ hm (by simp) hnone⟩
    simp only [State.held, hx', Option.bind_some]
    exact hs

/-! ### The wait line before the reset's own actions (R126, R141, R169) -/

theorem softCleared_held (s : State) (tag : BitVec 8) {p : Producer} :
    (s.softCleared 15#4 tag).held p = if p.survives then s.held p else none := by
  cases p with
  | ntc => rfl
  | vrd n =>
    simp only [State.held, softCleared_nest]
    split <;> rfl
  | tbs k => rfl
  | yld k => rfl

/-- The wait line that a soft reset starts from: the producers that survive, each with its message. -/
structure State.Surviving (s : State) : Prop where
  distinct : (s.lnk.waitLine.filter Producer.survives).Nodup
  waits : ∀ p ∈ s.lnk.waitLine, p.survives = true → s.held p ≠ none
  offers : ∀ p, p.survives = true → s.held p ≠ none → p ∈ s.lnk.waitLine
  captures : ∀ k, (s.slot k).refDone ≠ none → (s.slot k).capture = .idle

theorem softCleared_line (h : s.Surviving) (tag : BitVec 8) : LineIn false true (s.softCleared 15#4 tag) where
  distinct := h.distinct
  mode := rfl
  notice := ⟨fun hm => (by cases hm), fun hm => absurd (softCleared_survives s 15#4 tag _ hm) (by decide)⟩
  waits p hm _ := by
    obtain ⟨h1, h2⟩ := List.mem_filter.mp hm
    rw [softCleared_held, if_pos h2]
    exact h.waits p h1 h2
  verdictPhases n hn := by
    rw [softCleared_nest] at hn
    exact absurd rfl hn
  captures := h.captures
  offers _ p hp := by
    rw [softCleared_held] at hp
    cases hs : p.survives with
    | false => rw [hs] at hp; exact absurd rfl hp
    | true =>
      rw [hs] at hp
      exact List.mem_filter.mpr ⟨h.offers p hs hp, hs⟩
  results _ n := by rw [softCleared_nest]

theorem softFilled_line (h : s.Surviving) (tag : BitVec 8) : LineIn true true (s.softFilled 15#4 tag) := by
  have hn : .ntc ∉ (s.softCleared 15#4 tag).lnk.waitLine := fun hm => absurd (softCleared_survives s 15#4 tag _ hm) (by decide)
  have hf := fillPlaces_lineIn (admitNotice_lineIn (softCleared_line h tag) hn)
  have hn' : .ntc ∉ (s.softCleared 15#4 tag).admitNotice.fillPlaces.lnk.waitLine := fun hm =>
    hn ((drainWaitLine_waitLine _ (s.softCleared 15#4 tag).admitNotice).subset hm)
  exact { hf with mode := rfl, notice := by simpa [State.softFilled] using hn' }

/-- The producers that survive with their messages. -/
def State.survivors (s : State) : List (Producer × Event) :=
  (s.lnk.waitLine.filter Producer.survives).map fun p => (p, s.heldEvent p)

theorem survivors_held (h : s.Surviving) {x : Producer × Event} (hx : x ∈ s.survivors) :
    x.1.survives = true ∧ s.held x.1 = some x.2 := by
  obtain ⟨p, hp, rfl⟩ := List.mem_map.mp hx
  obtain ⟨hm, hs⟩ := List.mem_filter.mp hp
  obtain ⟨e, he⟩ := Option.ne_none_iff_exists'.mp (h.waits p hm hs)
  refine ⟨hs, ?_⟩
  simp only [State.heldEvent, he]
  rfl

theorem survivors_fst (s : State) : s.survivors.map Prod.fst = s.lnk.waitLine.filter Producer.survives := by
  rw [State.survivors, List.map_map]
  exact List.map_id _

theorem softFilled_survivors (h : s.Surviving) (tag : BitVec 8) : Queued s.resetNotice (s.softFilled 15#4 tag) s.survivors := by
  refine softFilled_queued (by rw [survivors_fst]; exact h.distinct) (fun x hx => ?_) (survivors_fst s).symm
  obtain ⟨h1, h2⟩ := survivors_held h hx
  rw [softCleared_held, if_pos h1, h2]

end Sys2Proof.Machine
end

section
/-! PROOFS. SOFT_RESET, clause by clause (R16, R126, R142, R164, R169, R176), and O12. -/

namespace Sys2Proof.Machine

variable {s t u v w : State} {first : Msg} {ps : List (Producer × Event)} {tag : BitVec 8} {k : SlotId}

/-- The state once the blocks have acted; the close and the NOTICE kept back are all that is left of the reset. -/
def State.softActed (s : State) (tag : BitVec 8) : State := (s.softFilled 15#4 tag).softResetBlocks

theorem takeSoftReset_acted (s : State) (tag : BitVec 8) :
    takeSoftReset 15#4 tag s = (s.softActed tag).endEvent.settleNotice := rfl

theorem exec_softReset (s : State) (tag : BitVec 8) :
    exec (.softReset 15#4 tag) s = .next (takeSoftReset 15#4 tag s) := by
  change Host.Outcome.next (s.complete .softReset 15#4 tag 0 true (takeSoftReset 15#4 tag)) = _
  rw [complete_softReset]

theorem softActed_quiet (s : State) (tag : BitVec 8) : (s.softActed tag).NestsQuiet := softBlocks_quiet s tag

theorem softActed_reset (s : State) (tag : BitVec 8) : BlocksReset (s.softFilled 15#4 tag) (s.softActed tag) :=
  softResetBlocks_reset _

theorem softActed_resetting (s : State) (tag : BitVec 8) :
    Resetting (s.softFilled 15#4 tag).lnk s.ntc (s.softActed tag) :=
  Resetting.softResetBlocks ⟨rfl, .inl (softFilled_ntc s 15#4 tag)⟩

theorem softReset_closed (s : State) (tag : BitVec 8) : Closed (s.softActed tag) (takeSoftReset 15#4 tag s) := by
  rw [takeSoftReset_acted]
  exact closed_of_quiet (softActed_quiet s tag)

/-! ### LNK, NTC, the nests and the slots -/

theorem softReset_still (s : State) (tag : BitVec 8) : (takeSoftReset 15#4 tag s).lnk.still =
    ((s.modLnk Link.softReset).reply .softReset 15#4 tag .ok []).lnk.still := by
  rw [(softReset_closed s tag).still, (softActed_resetting s tag).lnk]
  exact (softFilled_parts s 15#4 tag).2.2.2.2.2.2.2

theorem softReset_reply (tag : BitVec 8) : replyMsg 15#4 tag (replyWord Kind.softReset.code .ok 0 0) [] =
    ⟨0x81#8, 15#4, tag, [0x04000000#32]⟩ := by
  have h : replyWord Kind.softReset.code .ok 0 0 = 0x04000000#32 := by decide
  rw [replyMsg, h]

theorem softReset_first (s : State) (tag : BitVec 8) :
    ∃ rest, (takeSoftReset 15#4 tag s).lnk.eventQ = s.resetNotice :: rest := by
  obtain ⟨more, hm⟩ := (softReset_closed s tag).events
  obtain ⟨rest, hr⟩ := softFilled_first s 15#4 tag
  exact ⟨rest ++ more, by rw [hm, (softActed_resetting s tag).lnk, hr]; rfl⟩

theorem softReset_ntc (s : State) (tag : BitVec 8) : s.ntc.Restarted (takeSoftReset 15#4 tag s).ntc :=
  ((softActed_resetting s tag).settled (softActed_quiet s tag)).1

theorem softReset_nest (s : State) (tag : BitVec 8) (n : NestId) :
    (s.nest n).Restarted ((takeSoftReset 15#4 tag s).nest n) := by
  rw [(softReset_closed s tag).nests]
  exact softBlocks_nest s tag n

/-- A slot after a soft reset: no occupancy, no capture, all else but the REF_DONE kept. -/
structure Slot.Restarted (x y : Slot) : Prop where
  occupancy : y.occupancy = 0
  capture : y.capture = .idle
  loaded : y.loaded = x.loaded
  tables : y.tables = x.tables
  generation : y.generation = x.generation
  reference : y.reference = x.reference
  refGen : y.refGen = x.refGen

theorem softReset_slot (s : State) (tag : BitVec 8) (k : SlotId) :
    (s.slot k).Restarted ((takeSoftReset 15#4 tag s).slot k) := by
  have h : (takeSoftReset 15#4 tag s).slot k = { (s.softActed tag).slot k with
    refDone := ((takeSoftReset 15#4 tag s).slot k).refDone } := (softReset_closed s tag).slots k
  have hu : (s.softFilled 15#4 tag).slot k = { s.slot k with
    refDone := ((s.softFilled 15#4 tag).slot k).refDone } := softFilled_slot s 15#4 tag k
  rw [(softActed_reset s tag).slots k, hu] at h
  generalize ((s.softFilled 15#4 tag).slot k).refDone = r at h
  obtain ⟨h1, h2, h3, h4, h5, h6⟩ := cancelled_same k { s.slot k with refDone := r }
  rw [h]
  exact ⟨rfl, h6, h3, h1, h2, h4, h5⟩

/-! ### The lots (R142, R164, R169) -/

theorem softActed_label (s : State) (tag : BitVec 8) : LabelAt k (s.softFilled 15#4 tag) (s.softActed tag) :=
  softResetBlocks_label _

/-- A summary that waited goes with its lot, or waits on. -/
theorem softReset_summary {l : Lot} {e : Event} (hl : s.lot k = some l) (he : l.summary = some e) :
    (takeSoftReset 15#4 tag s).lot k = none ∨ ∃ x, (takeSoftReset 15#4 tag s).lot k = some x ∧ x.summary = some e := by
  have hc := (softReset_closed s tag).lots k
  have hv := softActed_label (k := k) s tag
  generalize s.softActed tag = v at *
  rcases softFilled_lot s 15#4 tag k with hu | ⟨hu, -⟩
  · rw [hl] at hu
    obtain ⟨y, hy, -, hys⟩ := hv.some hu
    have hd : v.lotDue k = false := by
      rw [← Bool.not_eq_true, lotDue_iff]
      rintro ⟨z, hz, hdue⟩
      obtain rfl := Option.some.inj (hy.symm.trans hz)
      rw [((due_iff y).mp hdue).2.1, he] at hys
      cases hys
    obtain ⟨x, hx, -, hxs⟩ := (foldl_completeLot_label allSlots v hd).some hy
    have hx' : v.completeLots.lot k = some x := hx
    rcases hc with h | ⟨h, -⟩
    · exact .inr ⟨x, h.trans hx', by rw [hxs, hys, he]⟩
    · exact .inl h
  · have hd : v.lotDue k = false := by rw [State.lotDue, hv.none hu]
    have hx : v.completeLots.lot k = none := ((foldl_completeLot_label allSlots v hd)).none (hv.none hu)
    rcases hc with h | ⟨h, -⟩
    · exact .inl (h.trans hx)
    · exact .inl h

/-- With no summary waiting the lots show the reports, and those then due have completed. -/
theorem softReset_lots (hn : ∀ k l, s.lot k = some l → l.summary = none) :
    ((∀ k, s.reported.lotDue k = false) →
      (takeSoftReset 15#4 tag s).lots = s.reported.lots ∧ (takeSoftReset 15#4 tag s).retest = s.retest) ∧
    ∀ k l, s.reported.lot k = some l → s.reported.lotDue k = true →
      (∀ e ∈ (takeSoftReset 15#4 tag s).retest, e.lotId ≠ l.id) ∧ ((takeSoftReset 15#4 tag s).lot k = none ∨
        ∃ x, (takeSoftReset 15#4 tag s).lot k = some x ∧ x.summary ≠ none ∧ x.id = l.id) := by
  obtain ⟨hb, hent⟩ := softBlocks_lots (noneSent_of_none hn) tag
  have hsum : ∀ k l, s.reported.lot k = some l → l.summary = none := fun k l hl => by
    cases hs : s.lot k with
    | none => rw [(reported_label s k).none hs] at hl; cases hl
    | some m =>
      obtain ⟨x, hx, -, hxs⟩ := (reported_label s k).some hs
      obtain rfl := Option.some.inj (hx.symm.trans hl)
      rw [hxs, hn k m hs]
  have hlot : ∀ k, (s.softActed tag).lot k = s.reported.lot k := fun k =>
    (hb.lot k).resolve_right fun ⟨_, l, hl, _, hne⟩ => hne (hsum k l hl)
  have hdue : ∀ k, (s.softActed tag).lotDue k = s.reported.lotDue k := hb.due
  have hret : (s.softActed tag).retest = s.retest := hent.same.trans (reported_retest s)
  obtain ⟨-, -, hl, hr, -⟩ := softReset_closed s tag
  generalize s.softActed tag = v at *
  refine ⟨fun hd => ?_, fun k l hk hd => ?_⟩
  · have hw : v.completeLots = v := completeLots_of_notDue fun k => (hdue k).trans (hd k)
    rw [hw] at hl hr
    refine ⟨Vector.ext fun i hi => ?_, hr.trans hret⟩
    have hi' := (hl ⟨i, hi⟩).resolve_right fun ⟨_, x, hx, hne⟩ => hne (hsum _ x ((hlot _).symm.trans hx))
    exact hi'.trans (hlot ⟨i, hi⟩)
  · obtain ⟨x, hx, hxd⟩ := (lotDue_iff _ k).mp hd
    obtain rfl := Option.some.inj (hk.symm.trans hx)
    obtain ⟨h1, y, hy, hys, hyi⟩ := foldl_completeLot_due allSlots v (mem_allSlots k) ((hlot k).trans hk) hxd
    refine ⟨by rw [hr]; exact h1, ?_⟩
    rcases hl k with h | ⟨h, -⟩
    · exact .inr ⟨y, h.trans hy, hys, hyi⟩
    · exact .inl h

/-! ### The messages in order (R14, R16, R126, R169) -/

theorem softFilled_clean (s : State) (tag : BitVec 8) : (s.softFilled 15#4 tag).lnk.linkErr = 0 ∧
    (s.softFilled 15#4 tag).lnk.overrun = 0 ∧ (s.softFilled 15#4 tag).lnk.slip = 0 ∧
    (s.softFilled 15#4 tag).lnk.traceLost = 0 := by
  obtain ⟨-, -, -, -, -, -, h, hs⟩ := softFilled_parts s 15#4 tag
  obtain ⟨-, -, -, -, -, -, -, -, -, -, -, h1, h2, h3, -⟩ := Link.still_fields hs
  exact ⟨h1, h2, h3, h⟩

/-- The message of the reset's own LOW_YIELD, where it is enabled. -/
def lowYieldNotice (d e : Notices) : List (Producer × Event) :=
  if d.flags.getLsbD 4 && e.enables.getLsbD 4 then
    [(.ntc, ⟨0x82#8, 15#4, [0x10#32 ||| d.bitmap.setWidth 32 <<< 8, 0#32, 0#32]⟩)] else []

/-- All the messages that a soft reset leaves behind its NOTICE. -/
def State.softOffers (s : State) (tag : BitVec 8) : List (Producer × Event) :=
  s.survivors ++ (s.softActed tag).completeLots.offersMade ++ lowYieldNotice (takeSoftReset 15#4 tag s).ntc s.ntc

theorem softReset_queued (h : s.Surviving) (tag : BitVec 8) :
    Queued s.resetNotice (takeSoftReset 15#4 tag s) (s.softOffers tag) := by
  obtain ⟨h1, h2, h3, h4⟩ := softFilled_clean s tag
  have hr := softActed_resetting s tag
  have ha : (s.softActed tag).amb.loud = false := by rw [(softActed_reset s tag).amb]; rfl
  have hq := hr.queued (softActed_quiet s tag) ((softFilled_survivors h tag).congr hr.lnk) ha h1 h2 h3 h4
  rw [← takeSoftReset_acted] at hq
  rw [State.softOffers, lowYieldNotice]
  exact hq

theorem completed_refDone (s : State) (tag : BitVec 8) (k : SlotId) :
    ((s.softActed tag).completeLots.slot k).refDone = (((s.softFilled 15#4 tag).slot k).cancelled k).refDone := by
  rw [completeLots_slot, (softActed_reset s tag).slots k]

theorem softFilled_capture (s : State) (tag : BitVec 8) (k : SlotId) :
    ((s.softFilled 15#4 tag).slot k).capture = (s.slot k).capture :=
  (congrArg Slot.capture (softFilled_slot s 15#4 tag k) :)

theorem completed_tbs (h : s.Surviving) (tag : BitVec 8) (k : SlotId) :
    (s.softActed tag).completeLots.ready (.tbs k) = ((s.slot k).capture != .idle) := by
  rw [ready_tbs (softFilled_line h tag) (completed_refDone s tag) (softActed_resetting s tag).completeLots.lnk,
    softFilled_capture]

theorem completed_tbs_held (s : State) (tag : BitVec 8) (hc : (s.slot k).capture ≠ .idle) :
    (s.softActed tag).completeLots.held (.tbs k) = (s.slot k).cancelDone k := by
  have h : (s.softActed tag).completeLots.held (.tbs k) = _ := completed_refDone s tag k
  rw [h, cancelled_refDone, softFilled_capture, if_neg hc, cancelDone_served (softFilled_slot s 15#4 tag k)]

theorem completed_yld (h : s.Surviving) (tag : BitVec 8) (k : SlotId) :
    (s.softActed tag).completeLots.ready (.yld k) = (s.softActed tag).lotDue k :=
  ready_yld (softFilled_line h tag) (softActed_label s tag) (softActed_resetting s tag).completeLots.lnk

theorem completed_tbs_event (h : s.Surviving) {x : Producer × Event}
    (hx : x ∈ (allSlots.filter fun k => (s.softActed tag).completeLots.ready (.tbs k)).map fun k =>
      ((.tbs k : Producer), (s.softActed tag).completeLots.heldEvent (.tbs k))) :
    ∃ k, x.1 = .tbs k ∧ (s.slot k).capture ≠ .idle ∧ (s.slot k).cancelDone k = some x.2 := by
  obtain ⟨k, hk, rfl⟩ := List.mem_map.mp hx
  have hr : (s.softActed tag).completeLots.ready (.tbs k) = true := (List.mem_filter.mp hk).2
  have hc : (s.slot k).capture ≠ .idle := by rwa [completed_tbs h, bne_iff_ne] at hr
  have he := held_of_ready hr
  rw [completed_tbs_held s tag hc] at he
  refine ⟨k, rfl, hc, ?_⟩
  dsimp only
  exact he

end Sys2Proof.Machine
end

section
/-! PROOFS. The messages that a soft reset leaves, in wait-line order (R14, R16, R126, R169), and O12. -/

namespace Sys2Proof.Machine

variable {s t u v w : State} {first : Msg} {ps : List (Producer × Event)} {tag : BitVec 8} {k : SlotId}

/-- The messages in the event queue and the producers in the wait line, read off the list of offers. -/
theorem Queued.order (hq : Queued first t ps) {order : List Producer} (ho : ps.map Prod.fst = order)
    {message : Producer → Option Event} (hm : ∀ x ∈ ps, message x.1 = some x.2) :
    t.lnk.waitLine = order.drop 15 ∧ t.lnk.eventQ.length = 1 + min 15 order.length ∧
      ∀ i p, i < 15 → order[i]? = some p → ∃ e, message p = some e ∧
        t.lnk.eventQ[i + 1]? = some ⟨e.kind, e.scope, BitVec.ofNat 8 (i + 1), e.body⟩ := by
  subst ho
  refine ⟨by rw [hq.line, List.map_drop], by rw [hq.length, List.length_map], fun i p hi hp => ?_⟩
  rw [List.getElem?_map, Option.map_eq_some_iff] at hp
  obtain ⟨x, hx, rfl⟩ := hp
  exact ⟨x.2, hm x (List.mem_of_getElem? hx), hq.getElem? hi hx⟩

theorem surviving_of_lineOk (h : LineOk s) : s.Surviving where
  distinct := h.distinct.filter _
  waits p hp hs := by
    cases p with
    | ntc => cases hs
    | vrd n => cases hs
    | tbs k => exact (h.refDones k).mp hp
    | yld k => exact (h.summaries k).mp hp
  offers p hs hp := by
    cases p with
    | ntc => cases hs
    | vrd n => cases hs
    | tbs k => exact (h.refDones k).mpr hp
    | yld k => exact (h.summaries k).mpr hp
  captures := h.captures

/-- The lots once the reports are made and the lots then due have completed. -/
def State.reportedDone (s : State) : State := allSlots.foldl State.completeLot s.reported

/-- A summary that waited stands in its lot after the reports and the completions. -/
theorem reportedDone_held (h : s.held (.yld k) ≠ none) : s.reportedDone.held (.yld k) = s.held (.yld k) := by
  have hl := reported_label s k
  have hd : s.reported.lotDue k = false := by
    rw [← Bool.not_eq_true, lotDue_iff]
    rintro ⟨l, hk, hdue⟩
    rw [← hl.held] at h
    simp [State.held, hk, ((due_iff l).mp hdue).2.1] at h
  exact (hl.trans (foldl_completeLot_label allSlots s.reported hd)).held

theorem LotsBut.held {G : Word → Prop} (h : LotsBut G s t) {e : Event} (he : t.held (.yld k) = some e) :
    s.held (.yld k) = some e := by
  rw [← he]
  rcases h.lot k with hk | ⟨hk, -⟩
  · simp only [State.held, hk]
  · rw [State.held, hk] at he
    cases he

theorem completed_lots (hs : s.NoneSent) (tag : BitVec 8) : LotsBut s.sent s.reportedDone (s.softActed tag).completeLots := by
  obtain ⟨hb, hent⟩ := softBlocks_lots hs tag
  rw [State.reportedDone, State.completeLots]
  exact LotsBut.foldl_completeLot allSlots hb hent

/-- The producers of a soft reset's messages. -/
def State.softOrder (s : State) (d : Notices) : List Producer :=
  s.lnk.waitLine.filter Producer.survives ++ (allSlots.filter fun k => (s.slot k).capture != .idle).map .tbs ++
    (allSlots.filter s.reported.lotDue).map .yld ++ if d.flags.getLsbD 4 && s.ntc.enables.getLsbD 4 then [.ntc] else []

/-- The message of each. -/
def State.softMessage (s : State) (d : Notices) : Producer → Option Event
  | .ntc => some ⟨0x82#8, 15#4, [0x10#32 ||| d.bitmap.setWidth 32 <<< 8, 0#32, 0#32]⟩
  | .vrd _ => none
  | .tbs k => if (s.slot k).capture = .idle then (s.slot k).refDone else (s.slot k).cancelDone k
  | .yld k => s.reportedDone.held (.yld k)

theorem softMessage_yld (s : State) (d : Notices) (k : SlotId) :
    s.softMessage d (.yld k) = s.reportedDone.held (.yld k) := rfl

theorem softOffers_order (h : s.Surviving) (hs : s.NoneSent) (tag : BitVec 8) :
    (s.softOffers tag).map Prod.fst = s.softOrder (takeSoftReset 15#4 tag s).ntc := by
  have hdue : ∀ k, (s.softActed tag).lotDue k = s.reported.lotDue k := (softBlocks_lots hs tag).1.due
  have ht : (allSlots.filter fun k => (s.softActed tag).completeLots.ready (.tbs k)) =
      allSlots.filter fun k => (s.slot k).capture != .idle := List.filter_congr fun k _ => completed_tbs h tag k
  have hy : (allSlots.filter fun k => (s.softActed tag).completeLots.ready (.yld k)) = allSlots.filter s.reported.lotDue :=
    List.filter_congr fun k _ => (completed_yld h tag k).trans (hdue k)
  rw [State.softOffers, State.softOrder, State.offersMade, ht, hy, lowYieldNotice]
  simp only [List.map_append, List.map_map, survivors_fst, List.append_assoc]
  split <;> rfl

theorem softOffers_message (h : s.Surviving) (hs : s.NoneSent) (tag : BitVec 8) :
    ∀ x ∈ s.softOffers tag, s.softMessage (takeSoftReset 15#4 tag s).ntc x.1 = some x.2 := by
  intro x hx
  rw [State.softOffers, List.mem_append, List.mem_append, State.offersMade, List.mem_append] at hx
  generalize (takeSoftReset 15#4 tag s).ntc = d at *
  rcases hx with (hx | hx | hx) | hx
  · obtain ⟨h1, h2⟩ := survivors_held h hx
    obtain ⟨p, e⟩ := x
    cases p with
    | ntc => cases h1
    | vrd n => cases h1
    | tbs k =>
      have hr : (s.slot k).refDone = some e := h2
      exact (if_pos (h.captures k (by rw [hr]; exact Option.some_ne_none e))).trans hr
    | yld k =>
      have hy := reportedDone_held (s := s) (k := k) (by rw [h2]; exact Option.some_ne_none e)
      exact hy.trans h2
  · obtain ⟨k, hp, hc, he⟩ := completed_tbs_event h hx
    rw [hp]
    exact (if_neg hc).trans he
  · obtain ⟨k, hk, rfl⟩ := List.mem_map.mp hx
    have hb := completed_lots hs tag
    generalize (s.softActed tag).completeLots = w at *
    have he := hb.held (held_of_ready (List.mem_filter.mp hk).2)
    rw [← softMessage_yld s d k] at he
    exact he
  · rw [lowYieldNotice] at hx
    split at hx
    · rw [List.mem_singleton] at hx
      rw [hx]
      rfl
    · cases hx

/-! ### With no lot and no producer waiting (R126) -/

theorem lotSlot_none (h : ∀ k, s.lot k = none) (id : Word) : s.lotSlot id = none := by
  refine List.find?_eq_none.mpr fun k _ => ?_
  simp [h k]

/-- With no lot a resolution is reported to nobody. -/
theorem resolveReset_ntc (h : ∀ k, s.lot k = none) :
    (s.resolveLabel 0 false false).ntc = s.ntc ∧ ∀ k, (s.resolveLabel 0 false false).lot k = none := by
  cases hr : s.mrk.records[0]? with
  | none =>
    have he : s.resolveLabel 0 false false = s := by simp only [State.resolveLabel, hr]
    rw [he]
    exact ⟨rfl, h⟩
  | some r =>
    have hl : (s.modMrk fun m => { m with records := m.records.eraseIdx 0 }).lotSlot r.lotId = none := lotSlot_none h _
    have he : (s.modMrk fun m => { m with records := m.records.eraseIdx 0 }).reportResolution r false =
        s.modMrk fun m => { m with records := m.records.eraseIdx 0 } := by
      simp only [State.reportResolution, hl]
      cases r.kind <;> rfl
    simp only [State.resolveLabel, hr, Bool.false_and]
    rw [if_neg (by decide), he]
    exact ⟨rfl, h⟩

theorem resetLabels_ntc (fuel : Nat) (s : State) (h : ∀ k, s.lot k = none) : (State.resetLabels fuel s).ntc = s.ntc := by
  induction fuel generalizing s with
  | zero => rfl
  | succ fuel ih => exact (ih _ (resolveReset_ntc h).2).trans (resolveReset_ntc h).1

theorem softResetMarking_ntc (h : ∀ k, s.lot k = none) : s.softResetMarking.ntc = s.ntc := resetLabels_ntc _ s h

/-- With no lot no flag rises in a soft reset. -/
theorem softReset_flags (h : ∀ k, s.lot k = none) (tag : BitVec 8) :
    (takeSoftReset 15#4 tag s).ntc.flags = 0#8 ∧ ∀ k, (s.softActed tag).lotDue k = false := by
  have hu : ∀ k, (s.softFilled 15#4 tag).lot k = none := fun k => by
    rcases softFilled_lot s 15#4 tag k with e | ⟨e, -⟩
    · exact e.trans (h k)
    · exact e
  have hb : ∀ k, (s.softFilled 15#4 tag).beforeLabels.lot k = none := fun k => (beforeLabels_label _).none (hu k)
  have hv : ∀ k, (s.softActed tag).lot k = none := fun k => (softActed_label s tag).none (hu k)
  have hd : ∀ k, (s.softActed tag).lotDue k = false := fun k => by rw [State.lotDue, hv k]
  have hn : (s.softActed tag).ntc = s.ntc.restarted := by
    rw [State.softActed, softResetBlocks_eq, softResetMarking_ntc hb, (beforeLabels_frame _).2.2.2.2.2.2.1, softFilled_ntc]
  refine ⟨?_, hd⟩
  rw [takeSoftReset_acted, ((softActed_resetting s tag).settled (softActed_quiet s tag)).2.1, completeLots_of_notDue hd, hn]
  rfl

theorem filterMap_of_filter {α β : Type} {p : α → Bool} {f : α → β} {g : α → Option β} : ∀ l : List α,
    (∀ x ∈ l, g x = if p x then some (f x) else none) → l.filterMap g = (l.filter p).map f
  | [], _ => rfl
  | x :: l, h => by
    have ih := filterMap_of_filter l fun y hy => h y (List.mem_cons_of_mem _ hy)
    rw [List.filterMap_cons, h x (List.mem_cons_self ..), List.filter_cons, ih]
    cases p x <;> rfl

theorem surviving_of_none (hw : ∀ p ∈ s.lnk.waitLine, p.survives = false)
    (hn : ∀ k, s.lot k = none ∧ (s.slot k).refDone = none) : s.Surviving where
  distinct := by
    rw [List.filter_eq_nil_iff.mpr fun p hp => by rw [hw p hp]; decide]
    exact List.nodup_nil
  waits p hp hs := by rw [hw p hp] at hs; cases hs
  offers p hs hp := by
    cases p with
    | ntc => cases hs
    | vrd n => cases hs
    | tbs k => exact absurd (hn k).2 hp
    | yld k => exact absurd (by simp [State.held, (hn k).1]) hp
  captures k hk := absurd (hn k).2 hk

/-- Then the REF_DONEs of the captures cancelled are all that follows the NOTICE. -/
theorem softOffers_bare (hw : ∀ p ∈ s.lnk.waitLine, p.survives = false)
    (hn : ∀ k, s.lot k = none ∧ (s.slot k).refDone = none) (tag : BitVec 8) :
    (s.softOffers tag).map Prod.snd = allSlots.filterMap fun k => (s.slot k).cancelDone k := by
  have h := surviving_of_none hw hn
  obtain ⟨hf, hd⟩ := softReset_flags (fun k => (hn k).1) tag
  have hs : s.survivors = [] := by
    rw [State.survivors, List.filter_eq_nil_iff.mpr fun p hp => by rw [hw p hp]; decide]
    rfl
  have hy : (allSlots.filter fun k => (s.softActed tag).completeLots.ready (.yld k)) = [] :=
    List.filter_eq_nil_iff.mpr fun k _ => by rw [completed_yld h, hd k]; decide
  have hl : lowYieldNotice (takeSoftReset 15#4 tag s).ntc s.ntc = [] := by rw [lowYieldNotice, hf]; rfl
  have hm : allSlots.filterMap (fun k => (s.slot k).cancelDone k) =
      (allSlots.filter fun k => (s.softActed tag).completeLots.ready (.tbs k)).map fun k =>
        (s.softActed tag).completeLots.heldEvent (.tbs k) := filterMap_of_filter allSlots fun k _ => by
    have hr := completed_tbs h tag k
    by_cases hc : (s.slot k).capture = .idle
    · rw [hr, hc, Slot.cancelDone, hc]
      rfl
    · have ht : (s.softActed tag).completeLots.ready (.tbs k) = true := by rw [hr, bne_iff_ne]; exact hc
      rw [if_pos ht, ← completed_tbs_held s tag hc]
      exact held_of_ready ht
  rw [State.softOffers, State.offersMade, hs, hy, hl, hm]
  generalize (s.softActed tag).completeLots = w
  simp only [List.map_nil, List.append_nil, List.nil_append, List.map_map]
  rfl

theorem softReset_bare (hw : ∀ p ∈ s.lnk.waitLine, p.survives = false)
    (hn : ∀ k, s.lot k = none ∧ (s.slot k).refDone = none) (tag : BitVec 8) :
    (takeSoftReset 15#4 tag s).lnk.waitLine = [] ∧ (∀ k, ((takeSoftReset 15#4 tag s).slot k).refDone = none) ∧
      (takeSoftReset 15#4 tag s).lnk.eventQ.drop 1 = tagged 1#8 (allSlots.filterMap fun k => (s.slot k).cancelDone k) := by
  have h := surviving_of_none hw hn
  have hq := softReset_queued h tag
  have hb := softOffers_bare hw hn tag
  have hlen : (s.softOffers tag).length ≤ 15 := by
    rw [← List.length_map (f := Prod.snd), hb]
    exact (List.length_filterMap_le _ _).trans (by decide)
  have hline := hq.line_nil hlen
  refine ⟨hline, fun k => ?_, ?_⟩
  · have hu := softFilled_line h tag
    have hv : (s.softFilled 15#4 tag).NoVerdicts := fun n => by rw [softFilled_nest]
    have ha : LineIn true false (s.softActed tag) := softResetBlocks_lineIn hu hv
    have ht : LineIn false true (takeSoftReset 15#4 tag s) := by
      rw [takeSoftReset_acted]
      exact settleNotice_lineIn (endEvent_lineIn ha)
    by_contra hk
    have hm := ht.offers rfl (.tbs k) hk
    rw [hline] at hm
    exact List.not_mem_nil hm
  · rw [hq.events, List.take_of_length_le hlen, hb]
    rfl

end Sys2Proof.Machine
end

section
/-! PROOFS. O12: what SOFT_RESET leaves. -/

namespace Sys2Proof.Machine

variable {s : State} {tag : BitVec 8}

theorem survives_eq : Producer.survives = fun p => match p with
    | .tbs _ | .yld _ => true
    | .ntc | .vrd _ => false := funext fun p => by cases p <;> rfl

/-- With `LineOk` and `CountsOk` the messages stand in R14's order. -/
theorem softReset_order (hl : LineOk s) (hc : CountsOk s) (tag : BitVec 8) :
    let t := takeSoftReset 15#4 tag s
    t.lnk.waitLine = (s.softOrder t.ntc).drop 15 ∧ t.lnk.eventQ.length = 1 + min 15 (s.softOrder t.ntc).length ∧
      ∀ i p, i < 15 → (s.softOrder t.ntc)[i]? = some p → ∃ e, s.softMessage t.ntc p = some e ∧
        t.lnk.eventQ[i + 1]? = some ⟨e.kind, e.scope, BitVec.ofNat 8 (i + 1), e.body⟩ := by
  have h := surviving_of_lineOk hl
  have hs := noneSent_of_counts hc
  exact (softReset_queued h tag).order (softOffers_order h hs tag) (softOffers_message h hs tag)

theorem softMessage_eq (s : State) (d : Notices) :
    s.softMessage d = fun p => match p with
      | .ntc => some ⟨0x82#8, 15#4, [0x10#32 ||| d.bitmap.setWidth 32 <<< 8, 0#32, 0#32]⟩
      | .vrd _ => none
      | .tbs k => match (s.slot k).capture with
        | .idle => (s.slot k).refDone
        | .capturing n c _ | .pending n c _ => some (refDoneEvent k (s.slot k) .softReset n c)
      | .yld k => ((allSlots.foldl State.completeLot s.reported).lot k).bind (·.summary) := by
  funext p
  cases p with
  | tbs k =>
    simp only [State.softMessage, Slot.cancelDone]
    cases hc : (s.slot k).capture <;> simp
  | _ => rfl

theorem softReset_link (s : State) (tag : BitVec 8) :
    let t := takeSoftReset 15#4 tag s
    t.lnk.replyQ = [⟨0x81#8, 15#4, tag, [0x04000000#32]⟩] ∧ (∃ rest, t.lnk.eventQ = s.resetNotice :: rest) ∧
      t.lnk.linkErr = 0 ∧ t.lnk.overrun = 0 ∧ t.lnk.slip = 0 ∧ t.lnk.traceLost = 0 ∧ t.lnk.asm = .hunt ∧
      t.lnk.expect = s.lnk.expect ∧ t.lnk.presence = s.lnk.presence ∧ t.lnk.store = s.lnk.store ∧
      t.lnk.auxToLine = s.lnk.auxToLine ∧ t.lnk.auxToHead = s.lnk.auxToHead ∧ t.lnk.tap0 = s.lnk.tap0 ∧
      t.lnk.tap1 = s.lnk.tap1 ∧ t.lnk.tx = s.lnk.tx := by
  have hfirst := softReset_first s tag
  have hlost := (softReset_closed s tag).lost
  rw [(softActed_resetting s tag).lnk, (softFilled_clean s tag).2.2.2] at hlost
  have hstill := softReset_still s tag
  generalize takeSoftReset 15#4 tag s = t at *
  obtain ⟨e1, e2, -, e4, e5, e6, e7, e8, e9, e10, e11, e12, e13, e14, -⟩ := Link.still_fields hstill
  refine ⟨e10.trans ?_, hfirst, e12, e13, e14, hlost, e9, e1, e2, e4, e5, e6, e7, e8, e11⟩
  exact congrArg (fun m : Msg => [m]) (softReset_reply tag)

/-- The parts that a soft reset keeps or sets outright. -/
theorem softReset_parts (s : State) (tag : BitVec 8) :
    let t := takeSoftReset 15#4 tag s
    (∀ b, t.buffer b = none) ∧ t.prot = s.prot ∧ t.amb = s.amb.softReset ∧ t.mrk = s.mrk.restarted ∧ t.pending = s.pending := by
  obtain ⟨-, -, -, -, -, -, -, hb, hp, ha, hm, hq⟩ := softReset_closed s tag
  obtain ⟨-, -, rb, rp, ra, -, rm, rq⟩ := softActed_reset s tag
  obtain ⟨-, fp, fa, -, fm, fq, -, -⟩ := softFilled_parts s 15#4 tag
  refine ⟨fun b => (buffer_congr hb b).trans (rb b), hp.trans (rp.trans fp), ha.trans (ra.trans ?_), hm.trans (rm.trans ?_),
    hq.trans (rq.trans fq)⟩
  · rw [fa]
  · rw [fm]

/-- The REF_DONEs of the captures cancelled, each at its place with its tag. -/
theorem tagged_cancelDone (s : State) : tagged 1#8 (allSlots.filterMap fun k => (s.slot k).cancelDone k) =
    (allSlots.filterMap fun k => match (s.slot k).capture with
      | .idle => none
      | .capturing n c _ | .pending n c _ => some (refDoneEvent k (s.slot k) .softReset n c)).zipIdx.map
        fun (e, i) => ⟨e.kind, e.scope, BitVec.ofNat 8 (i + 1), e.body⟩ := by
  have ht : ∀ i, 1#8 + BitVec.ofNat 8 i = BitVec.ofNat 8 (i + 1) := fun i => by rw [BitVec.add_comm, BitVec.ofNat_add]
  simp only [tagged, ht]
  rfl

/-- Settles O12: the blocks' parts by `softResetBlocks_reset`, the close and the last NOTICE by `closed_of_quiet`, the order of the
messages by `Queued`, the list of offers that each part lengthens. -/
theorem softResetLeaves : Obligations.SoftResetLeaves := by
  unfold Obligations.SoftResetLeaves
  intro tag s
  have hex := exec_softReset s tag
  have hlink := softReset_link s tag
  have hntc := softReset_ntc s tag
  have hnest := softReset_nest s tag
  have hslot := softReset_slot s tag
  have hparts := softReset_parts s tag
  have hlots := fun hn => softReset_lots (s := s) (tag := tag) hn
  have hsum := fun k l e h1 h2 => softReset_summary (s := s) (tag := tag) (k := k) (l := l) (e := e) h1 h2
  have hbare := fun h1 h2 => softReset_bare (s := s) h1 h2 tag
  have horder := fun h1 h2 => softReset_order (s := s) h1 h2 tag
  generalize takeSoftReset 15#4 tag s = t at *
  obtain ⟨hbuf, hprot, hamb, hmrk, hpend⟩ := hparts
  refine ⟨t, hex, hlink, ?_, fun n => ?_, fun k => ?_, hbuf, hprot, hamb, ?_, hpend, fun n => ?_, ?_, ?_, hsum, ?_, ?_⟩
  · exact ⟨hntc.cause, hntc.owed, hntc.enables, hntc.period, hntc.nonUrgent, hntc.flags, hntc.idle⟩
  · have h := hnest n
    exact ⟨h.phase, h.engine, h.analysis, h.window, h.retry, h.verdict, h.seat, h.serial⟩
  · have h := hslot k
    exact ⟨h.occupancy, h.capture, h.loaded, h.tables, h.generation, h.reference, h.refGen⟩
  · rw [hmrk]
    exact ⟨rfl, rfl, rfl, rfl, rfl, rfl⟩
  · have h := hnest n
    exact ⟨h.ended, h.kept, h.config, h.step⟩
  · rw [hmrk]
    exact ⟨rfl, rfl, rfl, rfl, rfl⟩
  · exact hlots
  · intro hw hn
    obtain ⟨h1, h2, h3⟩ := hbare (fun p hp => by rcases hw p hp with rfl | ⟨n, rfl⟩ <;> rfl) hn
    exact ⟨h1, h2, h3.trans (tagged_cancelDone s)⟩
  · intro hl hc
    obtain ⟨h1, h2, h3⟩ := horder hl hc
    rw [State.softOrder, survives_eq] at h1 h2 h3
    rw [softMessage_eq] at h3
    exact ⟨h1, h2, h3⟩

end Sys2Proof.Machine
end

section
/-! PROOFS. The unit counters of the lots (R160, R162): `Ledger` is R162 with the counters given from outside, so that a unit can
be between two holders; each report moves one unit of it. -/

namespace Sys2Proof.Machine

variable {s t u : State}

/-! ### What a lot's balance reads -/

/-- A lot without what R162 and R164 do not read. -/
def Lot.tally (l : Lot) : Lot :=
  { l with genAtOpen := 0, commits := 0, retests := 0, classes := Vector.replicate 13 0, window := [], tripped := false }

/-- Each lot keeps its id, its state and its unit counters. -/
def SameTally (s t : State) : Prop := ∀ k, (t.lot k).map Lot.tally = (s.lot k).map Lot.tally

theorem SameTally.trans (h : SameTally s t) (g : SameTally t u) : SameTally s u := fun k => (g k).trans (h k)

theorem sameTally_of_lots (h : t.lots = s.lots) : SameTally s t := fun k => by rw [lot_congr h]

theorem modLot_sameTally (s : State) (k : SlotId) {f : Lot → Lot} (hf : ∀ l, (f l).tally = l.tally) :
    SameTally s (s.modLot k f) := by
  intro j
  rw [lot_modLot]
  split
  · rename_i hk; subst hk; simp [Function.comp_def, hf]
  · rfl

theorem evaluateAlarm_sameTally (s : State) (k : SlotId) : SameTally s (s.evaluateAlarm k) := by
  have h := fun b => modLot_sameTally s k (f := fun x => { x with tripped := b }) fun _ => rfl
  simp only [State.evaluateAlarm]
  (repeat' split)
  · exact fun _ => rfl
  · exact h false
  · exact fun _ => rfl
  · exact (h true).trans (sameTally_of_lots (by simp))
  · exact fun _ => rfl

theorem finalCount_sameTally (s : State) (k : SlotId) (pass : Bool) (classes : ClassSet) :
    SameTally s (s.finalCount k pass classes) :=
  (modLot_sameTally s k (by exact fun _ => rfl)).trans (evaluateAlarm_sameTally _ k)

/-- A lot of t is a lot of s with the same id, state and unit counters. -/
theorem SameTally.lot (h : SameTally s t) {k : SlotId} {l : Lot} (hl : t.lot k = some l) :
    ∃ m, s.lot k = some m ∧ l.tally = m.tally := by
  have := h k
  rw [hl, Option.map_some] at this
  obtain ⟨m, hm, e⟩ := Option.map_eq_some_iff.mp this.symm
  exact ⟨m, hm, e.symm⟩

theorem tally_fields {l m : Lot} (h : l.tally = m.tally) :
    l.id = m.id ∧ l.closing = m.closing ∧ l.summary = m.summary ∧ l.inFlight = m.inFlight ∧ l.awaiting = m.awaiting ∧
      l.outstanding = m.outstanding ∧ (l.Balanced ↔ m.Balanced) := by
  simp only [Lot.tally, Lot.mk.injEq] at h
  obtain ⟨h1, h2, h3, -, -, h4, h5, h6, h7, h8, h9, h10, -⟩ := h
  simp only [Lot.Balanced, *, and_self, iff_self]

/-- The slot's lot stands and has this id. -/
def State.HasLot (s : State) (k : SlotId) (id : Word) : Prop := ∃ l, s.lot k = some l ∧ l.id = id

theorem SameTally.hasLot (h : SameTally s t) {k : SlotId} {id : Word} (hs : s.HasLot k id) : t.HasLot k id := by
  obtain ⟨l, hl, rfl⟩ := hs
  have := h k
  rw [hl, Option.map_some] at this
  obtain ⟨m, hm, e⟩ := Option.map_eq_some_iff.mp this
  exact ⟨m, hm, (tally_fields e).1⟩

/-! ### The lot with an id -/

theorem lotSlot_some {id : Word} {k : SlotId} (h : s.lotSlot id = some k) : s.HasLot k id := by
  have := List.find?_some h
  split at this
  · rename_i l hl; exact ⟨l, hl, by simpa using this⟩
  · cases this

theorem lotSlot_none_iff {id : Word} : s.lotSlot id = none ↔ ∀ k, ¬ s.HasLot k id := by
  have hall : ∀ k : SlotId, k ∈ allSlots := by decide
  simp only [State.lotSlot, List.find?_eq_none, State.HasLot]
  refine ⟨fun h k ⟨l, hl, hid⟩ => ?_, fun h k _ => ?_⟩
  · simpa [hl, hid] using h k (hall k)
  · have hk := h k
    cases hl : s.lot k <;> simp_all

/-- A report to the lot with an id, the change of its counters alone (R160). -/
def State.atLot (s : State) (id : Word) (f : Lot → Lot) : State :=
  match s.lotSlot id with
  | some k => s.modLot k f
  | none => s

theorem reportVerdict_eq (s : State) (v : VerdictKind) (id : Word) :
    s.reportVerdict v id = s.atLot id fun l => l.countVerdict v := rfl

/-- A unit given up is final FAIL (R160). -/
def Lot.giveUp (l : Lot) : Lot := { l with outstanding := l.outstanding - 1, failed := l.failed + 1 }

/-- A unit whose FINAL label is resolved passes or fails (R160). -/
def Lot.resolve (pass : Bool) (l : Lot) : Lot :=
  { l with awaiting := l.awaiting - 1, passed := if pass then l.passed + 1 else l.passed
           failed := if pass then l.failed else l.failed + 1 }

theorem reportGivenUp_sameTally (s : State) (e : RetestEntry) :
    SameTally (s.atLot e.lotId Lot.giveUp) (s.reportGivenUp e) := by
  simp only [State.atLot, State.reportGivenUp]
  cases s.lotSlot e.lotId with
  | none => exact fun _ => rfl
  | some k => exact finalCount_sameTally _ k _ _

/-- The resolution of a FINAL label counts its unit once, passed only where a FINAL-PASS label is marked. -/
theorem reportResolution_sameTally (s : State) {r : Label} (marked : Bool) (hr : r.kind ≠ .retest) :
    SameTally (s.atLot r.lotId (Lot.resolve (r.kind == .finalPass && marked))) (s.reportResolution r marked) := by
  simp only [State.atLot, State.reportResolution]
  cases hk : r.kind with
  | retest => exact absurd hk hr
  | finalPass =>
    cases s.lotSlot r.lotId with
    | none => exact fun _ => rfl
    | some k => cases marked <;> exact finalCount_sameTally _ k _ _
  | finalFail =>
    cases s.lotSlot r.lotId with
    | none => exact fun _ => rfl
    | some k => exact finalCount_sameTally _ k _ _

theorem reportResolution_retest (s : State) {r : Label} (marked : Bool) (hr : r.kind = .retest) :
    s.reportResolution r marked = s := by
  simp only [State.reportResolution, hr]

/-! ### A balanced lot after one report (R160, R162) -/

theorem countVerdict_balanced {l : Lot} (h : l.Balanced) (hp : 0 < l.inFlight) (v : VerdictKind) :
    (l.countVerdict v).Balanced := by
  simp only [Lot.Balanced] at h ⊢
  cases v <;> simp only [Lot.countVerdict] <;> omega

theorem giveUp_balanced {l : Lot} (h : l.Balanced) (hp : 0 < l.outstanding) : l.giveUp.Balanced := by
  simp only [Lot.Balanced, Lot.giveUp] at h ⊢
  omega

theorem resolve_balanced {l : Lot} (h : l.Balanced) (hp : 0 < l.awaiting) (pass : Bool) : (l.resolve pass).Balanced := by
  simp only [Lot.Balanced] at h ⊢
  cases pass <;> simp only [Lot.resolve, if_true, Bool.false_eq_true, if_false] <;> omega

/-- Every lot is balanced (R162). -/
def State.AllBalanced (s : State) : Prop := ∀ j l, s.lot j = some l → l.Balanced

theorem SameTally.allBalanced (h : SameTally s t) (hs : s.AllBalanced) : t.AllBalanced := by
  intro j l hl
  obtain ⟨m, hm, e⟩ := h.lot hl
  obtain ⟨-, -, -, -, -, -, hb⟩ := tally_fields e
  exact hb.mpr (hs j m hm)

/-- One lot is changed, and stays balanced. -/
theorem modLot_allBalanced (hs : s.AllBalanced) {k : SlotId} {f : Lot → Lot}
    (hf : ∀ l, s.lot k = some l → l.Balanced → (f l).Balanced) : (s.modLot k f).AllBalanced := by
  intro j l hl
  rw [lot_modLot] at hl
  split at hl
  · obtain ⟨m, hm, rfl⟩ := Option.map_eq_some_iff.mp hl
    exact hf m hm (hs k m hm)
  · exact hs j l hl

theorem atLot_allBalanced (hs : s.AllBalanced) {k : SlotId} {id : Word} (hk : s.lotSlot id = some k) {f : Lot → Lot}
    (hf : ∀ l, s.lot k = some l → l.Balanced → (f l).Balanced) : (s.atLot id f).AllBalanced := by
  simpa only [State.atLot, hk] using modLot_allBalanced hs hf

/-- The first part of O41, report by report. -/
theorem reports_allBalanced (k : SlotId) (hs : s.AllBalanced) :
    (s.reportFirst k).AllBalanced ∧
    ((∀ l, s.lot k = some l → 0 < l.outstanding) → (s.reportReturn k).AllBalanced) ∧
    (∀ v id, (∀ l, s.lot k = some l → 0 < l.inFlight) → s.lotSlot id = some k → (s.reportVerdict v id).AllBalanced) ∧
    (∀ (r : Label) (marked : Bool), (∀ l, s.lot k = some l → 0 < l.awaiting) → s.lotSlot r.lotId = some k →
      (s.reportResolution r marked).AllBalanced) ∧
    (∀ e : RetestEntry, (∀ l, s.lot k = some l → 0 < l.outstanding) → s.lotSlot e.lotId = some k →
      (s.reportGivenUp e).AllBalanced) := by
  refine ⟨modLot_allBalanced hs fun l _ hb => ?_, fun hp => modLot_allBalanced hs fun l hl hb => ?_, fun v id hp hk => ?_,
    fun r marked hp hk => ?_, fun e hp hk => ?_⟩
  · simp only [Lot.Balanced] at hb ⊢
    omega
  · have := hp l hl
    simp only [Lot.Balanced] at hb ⊢
    omega
  · exact atLot_allBalanced hs hk fun l hl hb => countVerdict_balanced hb (hp l hl) v
  · by_cases hr : r.kind = .retest
    · rw [reportResolution_retest s marked hr]
      exact hs
    · exact (reportResolution_sameTally s marked hr).allBalanced
        (atLot_allBalanced hs hk fun l hl hb => resolve_balanced hb (hp l hl) _)
  · exact (reportGivenUp_sameTally s e).allBalanced (atLot_allBalanced hs hk fun l hl hb => giveUp_balanced hb (hp l hl))

/-! ### The ledger of all lots -/

/-- One unit of one lot. -/
def oneUnit (id : Word) : Word → Nat := fun x => if id = x then 1 else 0

@[simp] theorem oneUnit_self (id : Word) : oneUnit id id = 1 := if_pos rfl

theorem oneUnit_ne {x id : Word} (h : x ≠ id) : oneUnit id x = 0 := if_neg (Ne.symm h)

/-- R162 for every lot, its units in flight, awaiting their mark and outstanding given by lot id; a lot whose LOT_SUMMARY waits
has none (R164), and no two lots have one id (R158). -/
structure Ledger (fl aw out : Word → Nat) (s : State) : Prop where
  counts : ∀ k l, s.lot k = some l → l.Balanced ∧ l.inFlight = fl l.id ∧ l.awaiting = aw l.id ∧ l.outstanding = out l.id
  summaries : ∀ k l, s.lot k = some l → l.summary ≠ none →
    l.closing = true ∧ l.inFlight = 0 ∧ l.awaiting = 0 ∧ l.outstanding = 0
  ids : ∀ j k l m, s.lot j = some l → s.lot k = some m → l.id = m.id → j = k

variable {fl aw out fl' aw' out' : Word → Nat} {id : Word}

theorem Ledger.of_eq (h : Ledger fl aw out s) (h1 : ∀ x, fl' x = fl x) (h2 : ∀ x, aw' x = aw x) (h3 : ∀ x, out' x = out x) :
    Ledger fl' aw' out' s := by
  obtain rfl : fl' = fl := funext h1
  obtain rfl : aw' = aw := funext h2
  obtain rfl : out' = out := funext h3
  exact h

theorem Ledger.congr (h : Ledger fl aw out s) (g : SameTally s t) : Ledger fl aw out t where
  counts k l hl := by
    obtain ⟨m, hm, e⟩ := g.lot hl
    obtain ⟨e1, -, -, e4, e5, e6, e7⟩ := tally_fields e
    rw [e1, e4, e5, e6, e7]
    exact h.counts k m hm
  summaries k l hl hs := by
    obtain ⟨m, hm, e⟩ := g.lot hl
    obtain ⟨-, e2, e3, e4, e5, e6, -⟩ := tally_fields e
    rw [e2, e4, e5, e6]
    exact h.summaries k m hm (e3 ▸ hs)
  ids j k l m hl hm hid := by
    obtain ⟨l', hl', e⟩ := g.lot hl
    obtain ⟨m', hm', e'⟩ := g.lot hm
    exact h.ids j k l' m' hl' hm' (by rw [← (tally_fields e).1, hid, (tally_fields e').1])

/-- A lot that has a unit left has no LOT_SUMMARY waiting (R164). -/
theorem Ledger.no_summary (h : Ledger fl aw out s) {k : SlotId} {l : Lot} (hl : s.lot k = some l)
    (hp : 0 < fl l.id + aw l.id + out l.id) : l.summary = none := by
  by_contra hs
  obtain ⟨-, h1, h2, h3⟩ := h.summaries k l hl hs
  obtain ⟨-, g1, g2, g3⟩ := h.counts k l hl
  omega

/-- The lot of a slot moves a unit: its counters follow those given from outside. -/
theorem Ledger.modLot (h : Ledger fl aw out s) {k : SlotId} {l : Lot} (hl : s.lot k = some l) (hs : l.summary = none)
    {f : Lot → Lot} (hid : (f l).id = l.id) (hsum : (f l).summary = l.summary) (hb : (f l).Balanced)
    (h1 : (f l).inFlight = fl' l.id) (h2 : (f l).awaiting = aw' l.id) (h3 : (f l).outstanding = out' l.id)
    (hne : ∀ x, x ≠ l.id → fl' x = fl x ∧ aw' x = aw x ∧ out' x = out x) : Ledger fl' aw' out' (s.modLot k f) := by
  have hlot : ∀ j m, (s.modLot k f).lot j = some m → (j = k ∧ m = f l) ∨ (j ≠ k ∧ s.lot j = some m) := by
    intro j m hm
    rw [lot_modLot, hl] at hm
    split at hm
    · rename_i hj
      exact .inl ⟨hj.symm, (Option.some.inj hm).symm⟩
    · rename_i hj
      exact .inr ⟨fun e => hj e.symm, hm⟩
  have hother : ∀ j m, j ≠ k → s.lot j = some m → m.id ≠ l.id := fun j m hj hm e => hj (h.ids j k m l hm hl e)
  refine ⟨fun j m hm => ?_, fun j m hm hne' => ?_, fun i j m m' hm hm' e => ?_⟩
  · rcases hlot j m hm with ⟨-, rfl⟩ | ⟨hj, hm⟩
    · rw [hid]
      exact ⟨hb, h1, h2, h3⟩
    · obtain ⟨g1, g2, g3⟩ := hne m.id (hother j m hj hm)
      rw [g1, g2, g3]
      exact h.counts j m hm
  · rcases hlot j m hm with ⟨-, rfl⟩ | ⟨-, hm⟩
    · exact absurd (hsum.trans hs) hne'
    · exact h.summaries j m hm hne'
  · rcases hlot i m hm with ⟨hi, rfl⟩ | ⟨hi, hm⟩ <;> rcases hlot j m' hm' with ⟨hj, rfl⟩ | ⟨hj, hm'⟩
    · exact hi.trans hj.symm
    · exact absurd (e.symm.trans hid) (hother j m' hj hm')
    · exact absurd (e.trans hid) (hother i m hi hm)
    · exact h.ids i j m m' hm hm' e

/-- The lot with an id, where it stands, moves a unit that it has. -/
theorem Ledger.atLot (h : Ledger fl aw out s) {id : Word} {f : Lot → Lot} (hp : 0 < fl id + aw id + out id)
    (hf : ∀ l, (f l).id = l.id ∧ (f l).summary = l.summary)
    (hc : ∀ l : Lot, l.Balanced → l.inFlight = fl id → l.awaiting = aw id → l.outstanding = out id →
      (f l).Balanced ∧ (f l).inFlight = fl' id ∧ (f l).awaiting = aw' id ∧ (f l).outstanding = out' id)
    (hne : ∀ x, x ≠ id → fl' x = fl x ∧ aw' x = aw x ∧ out' x = out x) : Ledger fl' aw' out' (s.atLot id f) := by
  simp only [State.atLot]
  split
  · rename_i k hk
    obtain ⟨l, hl, rfl⟩ := lotSlot_some hk
    obtain ⟨hb, c1, c2, c3⟩ := h.counts k l hl
    obtain ⟨g, g1, g2, g3⟩ := hc l hb c1 c2 c3
    exact h.modLot hl (h.no_summary hl hp) (hf l).1 (hf l).2 g g1 g2 g3 hne
  · rename_i hk
    have hid : ∀ k l, s.lot k = some l → l.id ≠ id := fun k l hl e => lotSlot_none_iff.mp hk k ⟨l, hl, e⟩
    refine ⟨fun k l hl => ?_, h.summaries, h.ids⟩
    obtain ⟨g1, g2, g3⟩ := hne l.id (hid k l hl)
    rw [g1, g2, g3]
    exact h.counts k l hl

/-! ### Each report moves one unit (R160) -/

/-- A counted PASS or FAIL: the unit waits for its mark. -/
theorem Ledger.reportLabelled (h : Ledger (fun x => fl x + oneUnit id x) aw out s) {v : VerdictKind}
    (hv : v = .pass ∨ v = .fail) : Ledger fl (fun x => aw x + oneUnit id x) out (s.reportVerdict v id) := by
  rw [reportVerdict_eq]
  refine h.atLot (by simp) (fun l => by cases v <;> exact ⟨rfl, rfl⟩) (fun l hb h1 h2 h3 => ?_)
    fun x hx => ⟨by simp [oneUnit_ne hx], by simp [oneUnit_ne hx], rfl⟩
  have := countVerdict_balanced hb (by simp [h1]) v
  rcases hv with rfl | rfl <;> exact ⟨this, by simp [Lot.countVerdict, h1], by simp [Lot.countVerdict, h2], h3⟩

/-- A counted RETEST: the unit is outstanding. -/
theorem Ledger.reportRetest (h : Ledger (fun x => fl x + oneUnit id x) aw out s) :
    Ledger fl aw (fun x => out x + oneUnit id x) (s.reportVerdict .retest id) := by
  rw [reportVerdict_eq]
  exact h.atLot (by simp) (fun l => ⟨rfl, rfl⟩)
    (fun l hb h1 h2 h3 => ⟨countVerdict_balanced hb (by simp [h1]) .retest, by simp [Lot.countVerdict, h1], h2,
      by simp [Lot.countVerdict, h3]⟩)
    fun x hx => ⟨by simp [oneUnit_ne hx], rfl, by simp [oneUnit_ne hx]⟩

/-- A counted ABORTED: the unit has left. -/
theorem Ledger.reportAborted (h : Ledger (fun x => fl x + oneUnit id x) aw out s) :
    Ledger fl aw out (s.reportVerdict .aborted id) := by
  rw [reportVerdict_eq]
  exact h.atLot (by simp) (fun l => ⟨rfl, rfl⟩)
    (fun l hb h1 h2 h3 => ⟨countVerdict_balanced hb (by simp [h1]) .aborted, by simp [Lot.countVerdict, h1], h2, h3⟩)
    fun x hx => ⟨by simp [oneUnit_ne hx], rfl, rfl⟩

/-- An entry given up: the unit is final. -/
theorem Ledger.reportGivenUp (e : RetestEntry) (h : Ledger fl aw (fun x => out x + oneUnit e.lotId x) s) :
    Ledger fl aw out (s.reportGivenUp e) := by
  refine Ledger.congr (h.atLot (id := e.lotId) (f := Lot.giveUp) (by simp) (fun l => ⟨rfl, rfl⟩) (fun l hb h1 h2 h3 => ?_)
    fun x hx => ⟨rfl, rfl, by simp [oneUnit_ne hx]⟩) (reportGivenUp_sameTally s e)
  exact ⟨giveUp_balanced hb (by simp [h3]), h1, h2, by simp [Lot.giveUp, h3]⟩

/-- A FINAL label resolved: the unit is final. -/
theorem Ledger.reportResolution {r : Label} (hr : r.kind ≠ .retest) (marked : Bool)
    (h : Ledger fl (fun x => aw x + oneUnit r.lotId x) out s) : Ledger fl aw out (s.reportResolution r marked) := by
  refine Ledger.congr (h.atLot (f := Lot.resolve (r.kind == .finalPass && marked)) (id := r.lotId) (by simp) (fun l => ⟨rfl, rfl⟩) (fun l hb h1 h2 h3 => ?_)
    fun x hx => ⟨rfl, by simp [oneUnit_ne hx], rfl⟩) (reportResolution_sameTally s marked hr)
  exact ⟨resolve_balanced hb (by simp [h2]) _, h1, by simp [Lot.resolve, h2], h3⟩

/-- A counted START as a first attempt, in an OPEN lot. -/
theorem Ledger.reportFirst (h : Ledger fl aw out s) {k : SlotId} {l : Lot} (hl : s.lot k = some l) (ho : l.closing = false) :
    Ledger (fun x => fl x + oneUnit l.id x) aw out (s.reportFirst k) := by
  obtain ⟨hb, h1, h2, h3⟩ := h.counts k l hl
  have hs : l.summary = none := by
    by_contra hs
    simp [(h.summaries k l hl hs).1] at ho
  refine h.modLot hl hs (by rfl) (by rfl) ?_ (by simp [h1]) h2 h3 fun x hx => ⟨by simp [oneUnit_ne hx], rfl, rfl⟩
  simp only [Lot.Balanced] at hb ⊢
  omega

/-- A counted START as a retest return. -/
theorem Ledger.reportReturn {k : SlotId} {l : Lot} (h : Ledger fl aw (fun x => out x + oneUnit l.id x) s)
    (hl : s.lot k = some l) : Ledger (fun x => fl x + oneUnit l.id x) aw out (s.reportReturn k) := by
  obtain ⟨hb, h1, h2, h3⟩ := h.counts k l hl
  rw [oneUnit_self] at h3
  refine h.modLot hl (h.no_summary hl (by simp)) (by rfl) (by rfl) ?_ (by simp [h1]) h2 (by simp [h3])
    fun x hx => ⟨by simp [oneUnit_ne hx], rfl, by simp [oneUnit_ne hx]⟩
  simp only [Lot.Balanced] at hb ⊢
  omega

end Sys2Proof.Machine
end

section
/-! PROOFS. The units of the lots and what holds them (R135, R136, R146, R157, R162): `Units` is `CountsOk` but for occupancies and
VERDICTs, with the nests given from outside and with loose units, those that are between two holders inside one event. -/

namespace Sys2Proof.Machine

variable {s t : State}

/-! ### The units that nests, labels and entries hold -/

/-- The units of a lot id in label records (R157). -/
def labelUnits (rs : List Label) (id : Word) : Nat := rs.countP fun r => r.kind != .retest && r.lotId == id

/-- The units of a lot id in retest entries (R157). -/
def entryUnits (es : List RetestEntry) (id : Word) : Nat := es.countP fun e => e.lotId == id

/-- The units of a lot id in flight at the nests (R157). -/
def flight (N : NestId → Nest) (id : Word) : Nat :=
  allNests.countP fun n => (N n).counts && (N n).run.lotId == id

/-- The unit that a nest holds. -/
def Nest.units (x : Nest) (id : Word) : Nat := if x.counts && x.run.lotId == id then 1 else 0

/-- The unit that a label record holds. -/
def Label.units (r : Label) (id : Word) : Nat := if r.kind != .retest && r.lotId == id then 1 else 0

theorem labelUnits_append (rs : List Label) (r : Label) (x : Word) : labelUnits (rs ++ [r]) x = labelUnits rs x + r.units x := by
  simp [labelUnits, Label.units, List.countP_cons]

theorem labelUnits_eraseIdx {rs : List Label} {i : Nat} {r : Label} (h : rs[i]? = some r) (x : Word) :
    labelUnits (rs.eraseIdx i) x + r.units x = labelUnits rs x := by
  obtain ⟨hi, rfl⟩ := List.getElem?_eq_some_iff.mp h
  rw [labelUnits, labelUnits, ← (List.getElem_cons_eraseIdx_perm hi).countP_eq, List.countP_cons, Label.units]

theorem entryUnits_append (es : List RetestEntry) (e : RetestEntry) (x : Word) :
    entryUnits (es ++ [e]) x = entryUnits es x + oneUnit e.lotId x := by
  simp [entryUnits, oneUnit, List.countP_cons]

theorem entryUnits_cons (es : List RetestEntry) (e : RetestEntry) (x : Word) :
    entryUnits (e :: es) x = entryUnits es x + oneUnit e.lotId x := by
  simp [entryUnits, oneUnit, List.countP_cons]

theorem entryUnits_filter (es : List RetestEntry) (p : RetestEntry → Bool) (x : Word) :
    entryUnits (es.filter fun e => !p e) x + entryUnits (es.filter p) x = entryUnits es x := by
  induction es with
  | nil => rfl
  | cons e es ih =>
    cases hp : p e <;> simp only [List.filter_cons, hp, Bool.not_true, Bool.not_false, Bool.false_eq_true, if_true, if_false,
      entryUnits_cons] <;> omega

theorem units_of_final {r : Label} (h : r.kind ≠ .retest) : r.units = oneUnit r.lotId := by
  funext x
  simp [Label.units, oneUnit, h]

theorem units_of_retest {r : Label} (h : r.kind = .retest) : r.units = 0 := by
  funext x
  simp [Label.units, h]

theorem units_of_counts {x : Nest} (h : x.counts = true) : x.units = oneUnit x.run.lotId := by
  funext y
  simp [Nest.units, oneUnit, h]

theorem units_of_not_counts {x : Nest} (h : x.counts = false) : x.units = 0 := by
  funext y
  simp [Nest.units, h]

/-- A count over the nests when one nest's answer changes. -/
theorem countP_nests_update (p q : NestId → Bool) (n : NestId) (h : ∀ m, m ≠ n → q m = p m) :
    allNests.countP q + (if p n then 1 else 0) = allNests.countP p + (if q n then 1 else 0) := by
  have hm : ∀ m, q m = if m = n then q n else p m := fun m => by
    split
    · rename_i e; rw [e]
    · rename_i e; exact h m e
  simp only [allNests, List.countP_cons, List.countP_nil, hm 0, hm 1, hm 2, hm 3]
  fin_cases n <;> simp <;> omega

theorem flight_update (N : NestId → Nest) (n : NestId) (y : Nest) (x : Word) :
    flight (Function.update N n y) x + (N n).units x = flight N x + y.units x := by
  have := countP_nests_update (fun m => (N m).counts && (N m).run.lotId == x)
    (fun m => (Function.update N n y m).counts && (Function.update N n y m).run.lotId == x) n
    (fun m hm => by simp only [Function.update_of_ne hm])
  simpa only [flight, Nest.units, Function.update_self] using this

/-! ### Units held and loose -/

/-- Every unit is counted once, the nests being `N`, and `lf`, `la`, `lo` the units that count in flight, awaiting and outstanding
while no nest, label and entry holds them. -/
structure Units (lf la lo : Word → Nat) (N : NestId → Nest) (s : State) : Prop where
  ledger : Ledger (fun x => flight N x + lf x) (fun x => labelUnits s.mrk.records x + la x)
    (fun x => entryUnits s.retest x + lo x) s
  runs : ∀ n, (N n).counts = true → s.HasLot (N n).run.slot (N n).run.lotId
  labels : ∀ r ∈ s.mrk.records, r.kind ≠ .retest → ∃ k, s.HasLot k r.lotId
  entries : ∀ e ∈ s.retest, s.HasLot e.slot e.lotId
  entrySerials : (s.retest.map (·.serial)).Nodup
  runSerials : ∀ m n, m ≠ n → (N m).phase.active = true → (N n).phase.active = true → (N m).run.serial ≠ (N n).run.serial
  runEntries : ∀ n, (N n).counts = true → ∀ e ∈ s.retest, e.serial ≠ (N n).run.serial
  room : s.retest.length ≤ Config.retestCap ∧ s.mrk.records.length ≤ Config.labelCap
  issued : s.mrk.records.countP (·.issued) ≤ 1

/-- The counting invariant is `Units` with the nests of the state, R19 and R141. -/
theorem countsOk_iff : CountsOk s ↔ Units 0 0 0 s.nest s ∧ (∀ k, (s.slot k).occupancy = s.occupants k) ∧
    ∀ n, (s.nest n).verdictOut ≠ none → (s.nest n).phase = .closing ∨ (s.nest n).phase = .reporting := by
  have hu : ∀ x, s.unitsInFlight x = flight s.nest x ∧ s.unitsAwaiting x = labelUnits s.mrk.records x ∧
      s.unitsOutstanding x = entryUnits s.retest x := fun x => by
    simp only [State.unitsInFlight, State.unitsAwaiting, State.unitsOutstanding, flight, labelUnits, entryUnits,
      List.countP_eq_length_filter, and_self]
  constructor
  · intro h
    obtain ⟨c1, c2, c3⟩ := h.capacities
    refine ⟨⟨⟨fun k l hl => ?_, h.summaries, h.ids⟩, h.runs, fun r hr hk => ?_, h.entries, h.entrySerials, h.runSerials,
      h.runEntries, ⟨c1, c2⟩, by rw [List.countP_eq_length_filter]; exact c3⟩, h.occupancy, h.verdicts⟩
    · obtain ⟨u1, u2, u3⟩ := hu l.id
      rw [← u1, ← u2, ← u3]
      exact h.lots k l hl
    · obtain ⟨k, l, hl⟩ := h.labels r hr hk
      exact ⟨k, l, hl⟩
  · rintro ⟨h, ho, hv⟩
    refine ⟨fun k l hl => ?_, h.ledger.summaries, h.ledger.ids, h.runs, fun r hr hk => ?_, h.entries, h.entrySerials,
      h.runSerials, h.runEntries, ho, hv, h.room.1, h.room.2, by rw [← List.countP_eq_length_filter]; exact h.issued⟩
    · obtain ⟨u1, u2, u3⟩ := hu l.id
      rw [u1, u2, u3]
      exact h.ledger.counts k l hl
    · obtain ⟨k, l, hl⟩ := h.labels r hr hk
      exact ⟨k, l, hl⟩

variable {lf la lo lf' la' lo' : Word → Nat} {N N' : NestId → Nest}

/-- Lots keep their ids, both lists stay, and the ledger is given anew. -/
theorem Units.withLedger (h : Units lf la lo N s) (hid : ∀ {k id}, s.HasLot k id → t.HasLot k id) (hr : t.retest = s.retest)
    (hm : t.mrk.records = s.mrk.records)
    (hl : Ledger (fun x => flight N x + lf' x) (fun x => labelUnits s.mrk.records x + la' x)
      (fun x => entryUnits s.retest x + lo' x) t) : Units lf' la' lo' N t where
  ledger := by rw [hr, hm]; exact hl
  runs n hn := hid (h.runs n hn)
  labels r hr' hk := by
    obtain ⟨k, hk⟩ := h.labels r (hm ▸ hr') hk
    exact ⟨k, hid hk⟩
  entries e he := hid (h.entries e (hr ▸ he))
  entrySerials := by rw [hr]; exact h.entrySerials
  runSerials := h.runSerials
  runEntries n hn e he := h.runEntries n hn e (hr ▸ he)
  room := by rw [hr, hm]; exact h.room
  issued := by rw [hm]; exact h.issued

theorem Units.congr (h : Units lf la lo N s) (g : SameTally s t) (hr : t.retest = s.retest)
    (hm : t.mrk.records = s.mrk.records) : Units lf la lo N t :=
  h.withLedger g.hasLot hr hm (h.ledger.congr g)

theorem Units.of_parts (h : Units lf la lo N s) (hl : t.lots = s.lots) (hr : t.retest = s.retest) (hm : t.mrk = s.mrk) :
    Units lf la lo N t :=
  h.congr (sameTally_of_lots hl) hr (by rw [hm])

theorem setFlag_units (h : Units lf la lo N s) (f : Flag) : Units lf la lo N (s.setFlag f) :=
  h.of_parts (by simp) (by simp) (by simp)

theorem Units.of_loose (h : Units lf la lo N s) (h1 : ∀ x, lf' x = lf x) (h2 : ∀ x, la' x = la x) (h3 : ∀ x, lo' x = lo x) :
    Units lf' la' lo' N s := by
  obtain rfl : lf' = lf := funext h1
  obtain rfl : la' = la := funext h2
  obtain rfl : lo' = lo := funext h3
  exact h

/-! ### Reports take loose units over -/

theorem hasLot_of_lots (h : t.lots = s.lots) {k : SlotId} {id : Word} (hs : s.HasLot k id) : t.HasLot k id :=
  (sameTally_of_lots h).hasLot hs

theorem setFlag_hasLot (s : State) (f : Flag) {k : SlotId} {id : Word} (h : s.HasLot k id) : (s.setFlag f).HasLot k id :=
  hasLot_of_lots (by simp) h

theorem atLot_hasLot (s : State) (i : Word) {f : Lot → Lot} (hf : ∀ l, (f l).id = l.id) {k : SlotId} {id : Word}
    (h : s.HasLot k id) : (s.atLot i f).HasLot k id := by
  obtain ⟨l, hl, rfl⟩ := h
  simp only [State.atLot]
  split
  · simp only [State.HasLot, lot_modLot]
    split
    · rename_i e; subst e; exact ⟨f l, by rw [hl]; rfl, hf l⟩
    · exact ⟨l, hl, rfl⟩
  · exact ⟨l, hl, rfl⟩

theorem reportGivenUp_hasLot (s : State) (e : RetestEntry) {k : SlotId} {id : Word} (h : s.HasLot k id) :
    (s.reportGivenUp e).HasLot k id :=
  (reportGivenUp_sameTally s e).hasLot (atLot_hasLot s e.lotId (f := Lot.giveUp) (fun _ => rfl) h)

theorem reportVerdict_hasLot (s : State) (v : VerdictKind) (i : Word) {k : SlotId} {id : Word} (h : s.HasLot k id) :
    (s.reportVerdict v i).HasLot k id :=
  atLot_hasLot s i (fun l => by cases v <;> rfl) h

theorem reportResolution_hasLot (s : State) (r : Label) (marked : Bool) {k : SlotId} {id : Word} (h : s.HasLot k id) :
    (s.reportResolution r marked).HasLot k id := by
  by_cases hr : r.kind = .retest
  · rw [reportResolution_retest s marked hr]; exact h
  · exact (reportResolution_sameTally s marked hr).hasLot (atLot_hasLot s r.lotId (f := Lot.resolve _) (fun _ => rfl) h)

/-- A given-up entry, taken off the list before, is reported. -/
theorem reportGivenUp_units {e : RetestEntry} (h : Units lf la (fun x => lo x + oneUnit e.lotId x) N s) :
    Units lf la lo N (s.reportGivenUp e) :=
  h.withLedger (reportGivenUp_hasLot s e) (by simp) (by simp)
    (Ledger.reportGivenUp e (h.ledger.of_eq (fun _ => rfl) (fun _ => rfl) fun x => by omega))

/-- A resolved label, taken off the list before, is reported. -/
theorem reportResolution_units {r : Label} (marked : Bool) (h : Units lf (fun x => la x + r.units x) lo N s) :
    Units lf la lo N (s.reportResolution r marked) := by
  by_cases hr : r.kind = .retest
  · rw [reportResolution_retest s marked hr]
    exact h.of_loose (fun _ => rfl) (fun x => by simp [units_of_retest hr]) fun _ => rfl
  · refine h.withLedger (reportResolution_hasLot s r marked) (by simp) (by simp) (Ledger.reportResolution hr marked ?_)
    exact h.ledger.of_eq (fun _ => rfl) (fun x => by rw [units_of_final hr]; omega) fun _ => rfl

/-- A counted PASS or FAIL is reported: the unit of the run now waits for its mark. -/
theorem reportLabelled_units {id : Word} {v : VerdictKind} (hv : v = .pass ∨ v = .fail)
    (h : Units (fun x => lf x + oneUnit id x) la lo N s) :
    Units lf (fun x => la x + oneUnit id x) lo N (s.reportVerdict v id) :=
  h.withLedger (reportVerdict_hasLot s v id) (by simp) (by simp)
    (((h.ledger.of_eq (fun x => by omega) (fun _ => rfl) fun _ => rfl).reportLabelled hv).of_eq (fun _ => rfl)
      (fun x => by omega) fun _ => rfl)

theorem reportRetest_units {id : Word} (h : Units (fun x => lf x + oneUnit id x) la lo N s) :
    Units lf la (fun x => lo x + oneUnit id x) N (s.reportVerdict .retest id) :=
  h.withLedger (reportVerdict_hasLot s .retest id) (by simp) (by simp)
    ((Ledger.reportRetest (h.ledger.of_eq (fun x => by omega) (fun _ => rfl) fun _ => rfl)).of_eq (fun _ => rfl)
      (fun _ => rfl) fun x => by omega)

theorem reportAborted_units {id : Word} (h : Units (fun x => lf x + oneUnit id x) la lo N s) :
    Units lf la lo N (s.reportVerdict .aborted id) :=
  h.withLedger (reportVerdict_hasLot s .aborted id) (by simp) (by simp)
    (Ledger.reportAborted (h.ledger.of_eq (fun x => by omega) (fun _ => rfl) fun _ => rfl))

/-! ### Labels (R146–R148) -/

/-- A label record leaves the list, and its unit is loose. -/
theorem eraseLabel_units (h : Units lf la lo N s) {i : Nat} {r : Label} (hr : s.mrk.records[i]? = some r) :
    Units lf (fun x => la x + r.units x) lo N (s.modMrk fun m => { m with records := m.records.eraseIdx i }) where
  ledger := by
    refine (h.ledger.congr (sameTally_of_lots (by simp))).of_eq (fun _ => rfl) (fun x => ?_) fun _ => rfl
    have := labelUnits_eraseIdx hr x
    simp only [modMrk_mrk]
    omega
  runs := h.runs
  labels r' hr' := h.labels r' (List.mem_of_mem_eraseIdx hr')
  entries := h.entries
  entrySerials := h.entrySerials
  runSerials := h.runSerials
  runEntries := h.runEntries
  room := ⟨h.room.1, (List.length_eraseIdx_le _ _).trans h.room.2⟩
  issued := ((List.eraseIdx_sublist _ i).countP_le).trans h.issued

theorem resolveLabel_units (h : Units lf la lo N s) (i : Nat) (marked fault : Bool) :
    Units lf la lo N (s.resolveLabel i marked fault) := by
  simp only [State.resolveLabel]
  split
  · exact h
  · rename_i r hr
    have ht := reportResolution_units marked (eraseLabel_units h hr)
    split
    · exact setFlag_units ht _
    · exact ht

/-- The list after a resolution at a position of it. -/
theorem resolveLabel_list (s : State) (i : Nat) (marked fault : Bool) :
    (s.resolveLabel i marked fault).mrk.records = s.mrk.records.eraseIdx i := by
  cases hr : s.mrk.records[i]? with
  | some r => rw [resolveLabel_records hr]
  | none => simp only [State.resolveLabel, hr, List.eraseIdx_of_length_le (List.getElem?_eq_none_iff.mp hr)]

/-- Once the ISSUED record is resolved no record is ISSUED. -/
theorem resolveIssued_none (h : s.mrk.records.countP (·.issued) ≤ 1) (marked : Bool) :
    (s.resolveIssued marked).mrk.records.countP (·.issued) = 0 := by
  simp only [State.resolveIssued]
  split
  · rename_i i hi
    obtain ⟨hlt, hp, -⟩ := List.findIdx?_eq_some_iff_getElem.mp hi
    have := (List.getElem_cons_eraseIdx_perm hlt).countP_eq (·.issued)
    rw [List.countP_cons, if_pos hp] at this
    rw [resolveLabel_list]
    omega
  · rename_i hi
    rw [List.countP_eq_zero]
    exact fun r hr => by simpa using List.findIdx?_eq_none_iff.mp hi r hr

/-- After R148's displacement the list has room for one more record. -/
theorem makeRoom_units (h : Units lf la lo N s) :
    Units lf la lo N s.makeRoom ∧ s.makeRoom.mrk.records.length + 1 ≤ Config.labelCap := by
  simp only [State.makeRoom]
  split
  · rename_i hfull
    split
    · rename_i i hi
      refine ⟨resolveLabel_units h _ _ _, ?_⟩
      obtain ⟨hlt, -, -⟩ := List.findIdx?_eq_some_iff_getElem.mp hi
      have := h.room.2
      rw [resolveLabel_list, List.length_eraseIdx_of_lt hlt]
      omega
    · rename_i hi
      have hall : s.mrk.records.countP (·.issued) = s.mrk.records.length :=
        List.countP_eq_length.mpr fun r hr => by simpa using List.findIdx?_eq_none_iff.mp hi r hr
      have := h.issued
      simp only [Config.labelCap] at hfull
      omega
  · exact ⟨h, by omega⟩

/-- A new record takes its unit over. -/
theorem createLabel_units {r : Label} (h : Units lf (fun x => la x + r.units x) lo N s)
    (hk : r.kind ≠ .retest → ∃ k, s.makeRoom.HasLot k r.lotId) : Units lf la lo N (s.createLabel r) := by
  obtain ⟨hu, hroom⟩ := makeRoom_units h
  have hq : ∀ x, Label.units { r with issued := false, age := 0 } x = r.units x := fun _ => rfl
  exact
    { ledger := (hu.ledger.congr (sameTally_of_lots (by rfl))).of_eq (fun _ => rfl)
        (fun x => by
          simp only [State.createLabel, modMrk_mrk, labelUnits_append, hq]
          omega)
        fun _ => rfl
      runs := hu.runs
      labels := fun r' hr' hk' => by
        rcases List.mem_append.mp hr' with hr' | hr'
        · exact hu.labels r' hr' hk'
        · obtain rfl := List.mem_singleton.mp hr'
          exact hk hk'
      entries := hu.entries
      entrySerials := hu.entrySerials
      runSerials := hu.runSerials
      runEntries := hu.runEntries
      room := ⟨hu.room.1, by simpa [State.createLabel] using hroom⟩
      issued := by simpa [State.createLabel, List.countP_append] using hu.issued }

theorem resolveLabel_hasLot (s : State) (i : Nat) (marked fault : Bool) {k : SlotId} {id : Word} (h : s.HasLot k id) :
    (s.resolveLabel i marked fault).HasLot k id := by
  simp only [State.resolveLabel]
  split
  · exact h
  · have ht := fun r => reportResolution_hasLot (s.modMrk fun m => { m with records := m.records.eraseIdx i }) r marked h
    split
    · exact setFlag_hasLot _ _ (ht _)
    · exact ht _

theorem makeRoom_hasLot {k : SlotId} {id : Word} (h : s.HasLot k id) : s.makeRoom.HasLot k id := by
  simp only [State.makeRoom]
  (repeat' split)
  · exact resolveLabel_hasLot s _ _ _ h
  · exact h
  · exact h

/-! ### Retest entries (R135–R138) -/

/-- Entries leave the list, and their units are loose. -/
theorem dropEntries_units (h : Units lf la lo N s) {es : List RetestEntry} (hs : es.Sublist s.retest)
    (hlo : ∀ x, entryUnits es x + lo' x = entryUnits s.retest x + lo x) : Units lf la lo' N { s with retest := es } where
  ledger := (h.ledger.congr (t := { s with retest := es }) (sameTally_of_lots rfl)).of_eq (fun _ => rfl) (fun _ => rfl) hlo
  runs := h.runs
  labels := h.labels
  entries e he := h.entries e (hs.subset he)
  entrySerials := h.entrySerials.sublist (hs.map _)
  runSerials := h.runSerials
  runEntries n hn e he := h.runEntries n hn e (hs.subset he)
  room := ⟨hs.length_le.trans h.room.1, h.room.2⟩
  issued := h.issued

/-- A new entry takes its unit over. -/
theorem appendEntry_units {e : RetestEntry} (h : Units lf la (fun x => lo x + oneUnit e.lotId x) N s)
    (hlot : s.HasLot e.slot e.lotId) (hnew : ∀ e' ∈ s.retest, e'.serial ≠ e.serial)
    (hrun : ∀ n, (N n).counts = true → e.serial ≠ (N n).run.serial) (hroom : s.retest.length + 1 ≤ Config.retestCap) :
    Units lf la lo N { s with retest := s.retest ++ [e] } where
  ledger := (h.ledger.congr (t := { s with retest := s.retest ++ [e] }) (sameTally_of_lots rfl)).of_eq (fun _ => rfl)
    (fun _ => rfl) fun x => by
      simp only [entryUnits_append]; omega
  runs := h.runs
  labels := h.labels
  entries e' he := by
    rcases List.mem_append.mp he with he | he
    · exact h.entries e' he
    · obtain rfl := List.mem_singleton.mp he
      exact hlot
  entrySerials := by
    rw [List.map_append, List.nodup_append]
    refine ⟨h.entrySerials, by simp, fun a ha b hb => ?_⟩
    obtain ⟨e', he', rfl⟩ := List.mem_map.mp ha
    obtain rfl : b = e.serial := by simpa using hb
    exact hnew e' he'
  runSerials := h.runSerials
  runEntries n hn e' he := by
    rcases List.mem_append.mp he with he | he
    · exact h.runEntries n hn e' he
    · obtain rfl := List.mem_singleton.mp he
      exact hrun n hn
  room := ⟨by simpa using hroom, h.room.2⟩
  issued := h.issued

/-- R137's eviction: room for one more entry, and no entry is new. -/
theorem evictRetest_units (h : Units lf la lo N s) :
    Units lf la lo N s.evictRetest ∧ s.evictRetest.retest.length + 1 ≤ Config.retestCap ∧
      s.evictRetest.retest.Sublist s.retest := by
  simp only [State.evictRetest]
  split
  · split
    · rename_i e rest he
      have hroom := h.room.1
      rw [he, List.length_cons] at hroom
      refine ⟨setFlag_units (reportGivenUp_units (dropEntries_units h (by rw [he]; exact List.sublist_cons_self _ _) fun x => ?_)) _, by simpa using hroom,
        by simp [he]⟩
      rw [he, entryUnits_cons]
      omega
    · rename_i hfull _ he
      simp [he, Config.retestCap] at hfull
  · exact ⟨h, by omega, List.Sublist.refl _⟩

theorem evictRetest_hasLot {k : SlotId} {id : Word} (h : s.HasLot k id) : s.evictRetest.HasLot k id := by
  simp only [State.evictRetest]
  (repeat' split)
  · exact setFlag_hasLot _ _ (reportGivenUp_hasLot _ _ (hasLot_of_lots (s := s) rfl h))
  · exact h
  · exact h

/-- The entries of a lot are given up one after the other (R138). -/
theorem foldGivenUp_units : ∀ (es : List RetestEntry) {s : State},
    Units lf la (fun x => lo x + entryUnits es x) N s → Units lf la lo N (es.foldl State.reportGivenUp s)
  | [], _, h => h
  | e :: es, _, h => foldGivenUp_units es (reportGivenUp_units (h.of_loose (fun _ => rfl) (fun _ => rfl) fun x => by
      rw [entryUnits_cons]; omega))

theorem giveUpLot_units (h : Units lf la lo N s) (id : Word) : Units lf la lo N (s.giveUpLot id) := by
  refine foldGivenUp_units _ (dropEntries_units h List.filter_sublist fun x => ?_)
  have := entryUnits_filter s.retest (fun e => e.lotId == id) x
  simp only [bne] at this ⊢
  omega

end Sys2Proof.Machine
end

section
/-! PROOFS. The counting invariant under one change of a block (R19, R141, R157): what it reads of a nest, a nest that leaves or
takes a unit, the state's parts that it does not read, and the captures and swaps of TBS. -/

namespace Sys2Proof.Machine

variable {s t : State} {lf la lo : Word → Nat} {N N' : NestId → Nest}

/-! ### What counts of a nest -/

/-- Two nests count alike: both hold their slot and their unit, or neither. -/
structure SameUnit (x y : Nest) : Prop where
  active : y.phase.active = x.phase.active
  kind : y.run.kind = x.run.kind
  slot : y.run.slot = x.run.slot
  lotId : y.run.lotId = x.run.lotId
  serial : y.run.serial = x.run.serial

theorem SameUnit.refl (x : Nest) : SameUnit x x := ⟨rfl, rfl, rfl, rfl, rfl⟩

theorem SameUnit.trans {x y z : Nest} (h : SameUnit x y) (g : SameUnit y z) : SameUnit x z :=
  ⟨g.active.trans h.active, g.kind.trans h.kind, g.slot.trans h.slot, g.lotId.trans h.lotId, g.serial.trans h.serial⟩

theorem SameUnit.counts {x y : Nest} (h : SameUnit x y) : y.counts = x.counts := by
  simp only [Nest.counts, h.active, h.kind]

theorem sameUnit_of_run {x y : Nest} (hp : y.phase = x.phase) (hr : y.run = x.run) : SameUnit x y := by
  constructor <;> simp only [hp, hr]

theorem Nest.SameButBound.sameUnit {x y : Nest} (h : x.SameButBound y) : SameUnit y x := by
  rw [← h]
  exact ⟨rfl, rfl, rfl, rfl, rfl⟩

/-- R141 for one nest: a VERDICT stands only once the run has ended. -/
def Nest.VerdictPlaced (x : Nest) : Prop := x.verdictOut ≠ none → x.phase = .closing ∨ x.phase = .reporting

theorem verdictPlaced_congr {x y : Nest} (h : x.VerdictPlaced) (hv : y.verdictOut = x.verdictOut) (hp : y.phase = x.phase) :
    y.VerdictPlaced := by
  rw [Nest.VerdictPlaced, hv, hp]
  exact h

theorem Nest.SameButBound.verdictPlaced {x y : Nest} (h : x.SameButBound y) (hy : y.VerdictPlaced) : x.VerdictPlaced := by
  rw [← h] at hy
  exact hy

theorem Nest.VerdictPlaced.of_active {x : Nest} (h : x.VerdictPlaced) (ha : x.phase.active = true) : x.verdictOut = none := by
  by_contra hv
  rcases h hv with hp | hp <;> simp [hp, Phase.active] at ha

theorem Nest.counts_active {x : Nest} (h : x.counts = true) : x.phase.active = true := by
  simp only [Nest.counts, Bool.and_eq_true] at h
  exact h.1

theorem not_counts_of_inactive {x : Nest} (h : x.phase.active = false) : x.counts = false := by
  simp [Nest.counts, h]

/-! ### Nests that leave or take a unit -/

theorem Units.nests (h : Units lf la lo N s) (hN : ∀ n, SameUnit (N n) (N' n)) : Units lf la lo N' s where
  ledger := h.ledger.of_eq (fun x => by simp only [flight, (hN _).counts, (hN _).lotId]) (fun _ => rfl) fun _ => rfl
  runs n hn := by
    rw [(hN n).slot, (hN n).lotId]
    exact h.runs n ((hN n).counts ▸ hn)
  labels := h.labels
  entries := h.entries
  entrySerials := h.entrySerials
  runSerials m n hne hm hn := by
    rw [(hN m).serial, (hN n).serial]
    exact h.runSerials m n hne ((hN m).active ▸ hm) ((hN n).active ▸ hn)
  runEntries n hn e he := by
    rw [(hN n).serial]
    exact h.runEntries n ((hN n).counts ▸ hn) e he
  room := h.room
  issued := h.issued

/-- A nest's run is over, and its unit is loose. -/
theorem Units.leave (h : Units lf la lo N s) (n : NestId) {x : Nest} (hx : x.phase.active = false) :
    Units (fun y => lf y + (N n).units y) la lo (Function.update N n x) s := by
  have hact : ∀ m, (Function.update N n x m).phase.active = true → m ≠ n ∧ Function.update N n x m = N m := by
    intro m hm
    by_cases e : m = n
    · subst e; simp [hx] at hm
    · exact ⟨e, Function.update_of_ne e _ _⟩
  have hc : ∀ m, (Function.update N n x m).counts = true → Function.update N n x m = N m :=
    fun m hm => (hact m (Nest.counts_active hm)).2
  exact
    { ledger := h.ledger.of_eq
        (fun y => by
          have h1 := flight_update N n x y
          have h2 : x.units y = 0 := by rw [units_of_not_counts (not_counts_of_inactive hx)]; rfl
          omega)
        (fun _ => rfl) fun _ => rfl
      runs := fun m hm => by have e := hc m hm; rw [e] at hm ⊢; exact h.runs m hm
      labels := h.labels
      entries := h.entries
      entrySerials := h.entrySerials
      runSerials := fun i j hij hi hj => by
        have ei := (hact i hi).2
        have ej := (hact j hj).2
        rw [ei] at hi ⊢
        rw [ej] at hj ⊢
        exact h.runSerials i j hij hi hj
      runEntries := fun m hm => by have e := hc m hm; rw [e] at hm ⊢; exact h.runEntries m hm
      room := h.room
      issued := h.issued }

/-- A nest without a unit takes its run's unit over. -/
theorem Units.join {n : NestId} {x : Nest} (h : Units (fun y => lf y + x.units y) la lo N s)
    (hn : (N n).phase.active = false) (hlot : x.counts = true → s.HasLot x.run.slot x.run.lotId)
    (hserial : ∀ m, m ≠ n → (N m).phase.active = true → (N m).run.serial ≠ x.run.serial)
    (hentry : x.counts = true → ∀ e ∈ s.retest, e.serial ≠ x.run.serial) :
    Units lf la lo (Function.update N n x) s := by
  have hself : Function.update N n x n = x := Function.update_self ..
  have hne : ∀ {m}, m ≠ n → Function.update N n x m = N m := fun e => Function.update_of_ne e _ _
  exact
    { ledger := h.ledger.of_eq
        (fun y => by
          have h1 := flight_update N n x y
          have h2 : (N n).units y = 0 := by rw [units_of_not_counts (not_counts_of_inactive hn)]; rfl
          omega)
        (fun _ => rfl) fun _ => rfl
      runs := fun m hm => by
        by_cases e : m = n
        · subst e; rw [hself] at hm ⊢; exact hlot hm
        · rw [hne e] at hm ⊢; exact h.runs m hm
      labels := h.labels
      entries := h.entries
      entrySerials := h.entrySerials
      runSerials := fun i j hij hi hj => by
        by_cases ei : i = n
        · subst ei
          rw [hself, hne hij.symm]
          rw [hne hij.symm] at hj
          exact (hserial j hij.symm hj).symm
        · rw [hne ei] at hi ⊢
          by_cases ej : j = n
          · subst ej; rw [hself]; exact hserial i hij hi
          · rw [hne ej] at hj ⊢; exact h.runSerials i j hij hi hj
      runEntries := fun m hm => by
        by_cases e : m = n
        · subst e; rw [hself] at hm ⊢; exact hentry hm
        · rw [hne e] at hm ⊢; exact h.runEntries m hm
      room := h.room
      issued := h.issued }

/-! ### Changes that the counting does not see -/

theorem occupants_congr (hn : ∀ n, SameUnit (s.nest n) (t.nest n)) (k : SlotId) : t.occupants k = s.occupants k := by
  simp only [State.occupants, (hn _).active, (hn _).slot]

/-- Nests and occupancies count alike, and the units stay in order. -/
theorem CountsOk.congr (h : CountsOk s) (hu : Units 0 0 0 s.nest s → Units 0 0 0 s.nest t)
    (hn : ∀ n, SameUnit (s.nest n) (t.nest n)) (hv : ∀ n, (s.nest n).VerdictPlaced → (t.nest n).VerdictPlaced)
    (ho : ∀ k, (t.slot k).occupancy = (s.slot k).occupancy) : CountsOk t := by
  obtain ⟨h1, h2, h3⟩ := countsOk_iff.mp h
  exact countsOk_iff.mpr ⟨(hu h1).nests hn, fun k => by rw [ho, h2, occupants_congr hn], fun n => hv n (h3 n)⟩

/-- Neither a nest nor a slot changes. -/
theorem CountsOk.lists (h : CountsOk s) (hn : t.nests = s.nests) (hs : t.slots = s.slots)
    (hu : Units 0 0 0 s.nest s → Units 0 0 0 s.nest t) : CountsOk t :=
  h.congr hu (fun n => by rw [nest_congr hn]; exact .refl _) (fun n hv => by rw [nest_congr hn]; exact hv)
    fun k => by rw [slot_congr hs]

/-- Nothing that the counting reads changes. -/
theorem CountsOk.of_parts (h : CountsOk s) (hn : t.nests = s.nests) (hs : t.slots = s.slots) (hl : t.lots = s.lots)
    (hr : t.retest = s.retest) (hm : t.mrk = s.mrk) : CountsOk t :=
  h.lists hn hs fun hu => hu.of_parts hl hr hm

theorem setFlag_counts (h : CountsOk s) (f : Flag) : CountsOk (s.setFlag f) :=
  h.of_parts (by simp) (by simp) (by simp) (by simp) (by simp)

theorem queueReply_counts (h : CountsOk s) (m : Msg) : CountsOk (s.queueReply m) :=
  h.of_parts rfl rfl rfl rfl rfl

theorem reply_counts (h : CountsOk s) (k : Kind) (scope : BitVec 4) (tag : BitVec 8) (code : ResultCode) (data : List Word) :
    CountsOk (s.reply k scope tag code data) := queueReply_counts h _

theorem modLnk_counts (h : CountsOk s) (f : Link → Link) : CountsOk (s.modLnk f) := h.of_parts rfl rfl rfl rfl rfl

theorem modNtc_counts (h : CountsOk s) (f : Notices → Notices) : CountsOk (s.modNtc f) := h.of_parts rfl rfl rfl rfl rfl

theorem setBuffer_counts (h : CountsOk s) (b : Fin 2) (v : Option Session) : CountsOk (s.setBuffer b v) :=
  h.of_parts rfl rfl rfl rfl rfl

theorem linkError_counts (h : CountsOk s) : CountsOk s.linkError := setFlag_counts (modLnk_counts h _) _

/-- The marking unit but for its records. -/
theorem modMrk_counts (h : CountsOk s) (f : Marking → Marking) (hf : (f s.mrk).records = s.mrk.records) :
    CountsOk (s.modMrk f) :=
  h.lists rfl rfl fun hu => hu.congr (sameTally_of_lots rfl) rfl hf

/-- A nest that counts as before. -/
theorem modNest_counts (h : CountsOk s) (n : NestId) (f : Nest → Nest) (hf : SameUnit (s.nest n) (f (s.nest n)))
    (hv : (s.nest n).VerdictPlaced → (f (s.nest n)).VerdictPlaced) : CountsOk (s.modNest n f) := by
  refine h.congr (fun hu => hu.of_parts rfl rfl rfl) (fun m => ?_) (fun m hm => ?_) fun k => by simp
  · rw [nest_modNest]
    split
    · rename_i e; subst e; exact hf
    · exact .refl _
  · rw [nest_modNest]
    split
    · rename_i e; subst e; exact hv hm
    · exact hm

/-- A nest that keeps its phase and what the counting reads of its run. -/
theorem modNest_counts_run (h : CountsOk s) (n : NestId) (f : Nest → Nest)
    (hf : ∀ x, (f x).phase = x.phase ∧ (f x).verdictOut = x.verdictOut ∧ (f x).run.kind = x.run.kind ∧
      (f x).run.slot = x.run.slot ∧ (f x).run.lotId = x.run.lotId ∧ (f x).run.serial = x.run.serial) :
    CountsOk (s.modNest n f) := by
  obtain ⟨h1, h2, h3, h4, h5, h6⟩ := hf (s.nest n)
  exact modNest_counts h n f ⟨by rw [h1], h3, h4, h5, h6⟩ fun hv => verdictPlaced_congr hv h2 h1

/-- A nest that keeps its phase, its run and its VERDICT. -/
theorem modNest_counts_rest (h : CountsOk s) (n : NestId) (f : Nest → Nest)
    (hf : ∀ x, (f x).phase = x.phase ∧ (f x).verdictOut = x.verdictOut ∧ (f x).run = x.run) : CountsOk (s.modNest n f) :=
  modNest_counts_run h n f fun x => by
    obtain ⟨h1, h2, h3⟩ := hf x
    exact ⟨h1, h2, by rw [h3], by rw [h3], by rw [h3], by rw [h3]⟩

theorem modEngine_counts (h : CountsOk s) (n : NestId) (f : Engine → Engine) : CountsOk (s.modEngine n f) :=
  modNest_counts_rest h n _ fun _ => by exact ⟨rfl, rfl, rfl⟩

theorem modRun_counts (h : CountsOk s) (n : NestId) (f : Run → Run)
    (hf : ∀ r, (f r).kind = r.kind ∧ (f r).slot = r.slot ∧ (f r).lotId = r.lotId ∧ (f r).serial = r.serial) :
    CountsOk (s.modRun n f) :=
  modNest_counts_run h n _ fun x => by exact ⟨rfl, rfl, hf x.run⟩

/-- A slot that keeps its occupancy. -/
theorem modSlot_counts (h : CountsOk s) (k : SlotId) (f : Slot → Slot) (hf : ∀ x, (f x).occupancy = x.occupancy) :
    CountsOk (s.modSlot k f) :=
  h.congr (fun hu => hu.of_parts rfl rfl rfl) (fun n => .refl _) (fun _ hv => hv) fun j => by
    rw [slot_modSlot]
    split
    · rename_i e; subst e; exact hf _
    · rfl

/-! ### TBS -/

theorem cancelCapture_counts (h : CountsOk s) (k : SlotId) (o : RefOutcome) : CountsOk (s.cancelCapture k o) :=
  h.congr (fun hu => hu.of_parts (by simp) (by simp) (by simp)) (fun n => (cancelCapture_nest s k o n).sameUnit)
    (fun n => (cancelCapture_nest s k o n).verdictPlaced) (cancelCapture_occupancy s k o)

theorem swap_sameTally (s : State) (k : SlotId) : SameTally s (s.swap k) := by
  have hc : ∀ u : State, SameTally u (u.modLot k fun l => { l with commits := satInc l.commits }) := fun u =>
    modLot_sameTally u k (by exact fun _ => rfl)
  simp only [State.swap]
  (repeat' split)
  · exact fun _ => rfl
  · exact fun _ => rfl
  · exact (sameTally_of_lots (by simp)).trans (hc _)
  · exact (sameTally_of_lots (by simp)).trans (hc _)

theorem releaseSlot_sameTally (s : State) (k : SlotId) : SameTally s (s.releaseSlot k) := by
  have hd : SameTally s (s.deferredSwap k) := by
    simp only [State.deferredSwap]
    split
    · exact swap_sameTally s k
    · exact fun _ => rfl
  have hp : SameTally (s.deferredSwap k) (s.releaseSlot k) := sameTally_of_lots (by simp [State.releaseSlot])
  exact hd.trans hp

theorem depart_sameTally (s : State) (k : SlotId) : SameTally s (s.depart k) :=
  (sameTally_of_lots (t := s.modSlot k fun x => { x with occupancy := x.occupancy - 1 }) rfl).trans
    (releaseSlot_sameTally _ k)

theorem swap_counts (h : CountsOk s) (k : SlotId) : CountsOk (s.swap k) :=
  h.congr (fun hu => hu.congr (swap_sameTally s k) (by simp) (by simp)) (fun n => (swap_nest s k n).sameUnit)
    (fun n => (swap_nest s k n).verdictPlaced) (swap_occupancy s k)

theorem releaseSlot_counts (h : CountsOk s) (k : SlotId) : CountsOk (s.releaseSlot k) :=
  h.congr (fun hu => hu.congr (releaseSlot_sameTally s k) (by simp) (by simp)) (fun n => (releaseSlot_nest s k n).sameUnit)
    (fun n => (releaseSlot_nest s k n).verdictPlaced) (releaseSlot_occupancy s k)

end Sys2Proof.Machine
end

section
/-! PROOFS. The counting invariant at a run end and at a run's begin (R67, R73, R134, R136, R157, R160): the unit of a run leaves its
nest for an entry, a label or the lot's final counts, and a run takes its unit from its lot or from an entry. -/

namespace Sys2Proof.Machine

variable {s t : State} {lf la lo : Word → Nat} {N N' : NestId → Nest}

/-! ### The records of a verdict (R134) -/

theorem reportVerdict_withRetest (s : State) (es : List RetestEntry) (v : VerdictKind) (id : Word) :
    State.reportVerdict { s with retest := es } v id = { s.reportVerdict v id with retest := es } := by
  have hk : State.lotSlot { s with retest := es } id = s.lotSlot id := rfl
  simp only [State.reportVerdict, hk]
  split <;> rfl

/-- Steps 3 to 5 of R134: the loose unit of a counted run is outstanding, awaits its mark or has left. -/
theorem recordVerdict_units {r : Run} (h : Units (fun x => lf x + oneUnit r.lotId x) la lo N s)
    (hlot : s.HasLot r.slot r.lotId) (hrun : ∀ m, (N m).counts = true → r.serial ≠ (N m).run.serial)
    (hentry : ∀ e ∈ s.retest, e.serial ≠ r.serial) (n : NestId) (v : VerdictKind) (classes : ClassSet) (g : LabelField) :
    Units lf la lo N (s.recordVerdict n r v classes g) := by
  have labelled : v = .pass ∨ v = .fail → ∀ l : Label, l.lotId = r.lotId → l.kind ≠ .retest →
      Units lf la lo N ((s.reportVerdict v r.lotId).createLabel l) := fun hv l hl hk =>
    createLabel_units ((reportLabelled_units hv h).of_loose (fun _ => rfl) (fun x => by rw [units_of_final hk, hl]) fun _ => rfl)
      fun _ => ⟨r.slot, by rw [hl]; exact makeRoom_hasLot (reportVerdict_hasLot s v _ hlot)⟩
  cases v with
  | pass => exact labelled (.inl rfl) _ rfl (by simp)
  | fail => exact labelled (.inr rfl) _ rfl (by simp)
  | aborted => exact reportAborted_units h
  | retest =>
    obtain ⟨hu, hroom, hsub⟩ := evictRetest_units h
    have hr : (s.evictRetest.reportVerdict .retest r.lotId).retest = s.evictRetest.retest := by simp
    have hv := appendEntry_units (e := ⟨r.serial, r.slot, r.lotId, r.attempt, classes⟩) (reportRetest_units hu)
      (reportVerdict_hasLot _ _ _ (evictRetest_hasLot hlot)) (fun e he => hentry e (hsub.subset (hr ▸ he))) hrun (by rwa [hr])
    have ha : (s.addRetest r classes).reportVerdict .retest r.lotId = _ := reportVerdict_withRetest s.evictRetest _ _ _
    rw [hr, ← ha] at hv
    exact createLabel_units (r := ⟨n, r.lotId, .retest, _, _, classes, false, 0⟩) (by rw [units_of_retest rfl]; exact hv)
      fun hk => absurd rfl hk

/-! ### A run ends (R73) -/

/-- The lots, the labels and the entries after a run end, with the nest whose run it was out of its run. -/
theorem endRun_units (h : Units 0 0 0 s.nest s) {n : NestId} (ha : (s.nest n).phase.active = true) (cause : EndCause) {x : Nest}
    (hx : x.phase.active = false) : Units 0 0 0 (Function.update s.nest n x) (s.endRun n cause) := by
  have hleft := h.leave n hx
  have hv : Units 0 0 0 (Function.update s.nest n x) (s.verdictRecords n cause) := by
    simp only [State.verdictRecords]
    split
    · rename_i hk
      have hc : (s.nest n).counts = true := by simp [Nest.counts, ha, hk]
      rw [units_of_counts hc] at hleft
      refine recordVerdict_units (hleft.of_loose (fun _ => rfl) (fun _ => rfl) fun _ => rfl) (h.runs n hc) (fun m hm => ?_)
        (h.runEntries n hc) n _ _ _
      by_cases e : m = n
      · subst e
        rw [Function.update_self, not_counts_of_inactive hx] at hm
        cases hm
      · rw [Function.update_of_ne e] at hm ⊢
        exact h.runSerials n m (Ne.symm e) ha (Nest.counts_active hm)
    · rename_i hk
      rw [units_of_not_counts (by simp [Nest.counts, hk])] at hleft
      exact hleft
  obtain ⟨hr, hm, -⟩ := endRun_records s n cause
  obtain ⟨-, -, hl⟩ := endLeft_records s n cause
  refine hv.congr ?_ hr (by rw [hm])
  rw [endRun_endLeft]
  exact (sameTally_of_lots hl).trans (depart_sameTally _ _)

theorem endRun_counts (h : CountsOk s) (n : NestId) (cause : EndCause) (ha : (s.nest n).phase.active = true) :
    CountsOk (s.endRun n cause) := by
  obtain ⟨h1, h2, h3⟩ := countsOk_iff.mp h
  obtain ⟨x, hx, hself⟩ := endRun_nest_self s n cause
  have hx' := leave_inactive (s.endEngine n cause) (s.endMessage n cause) x
  rw [← hself] at hx'
  have hother : ∀ m, n ≠ m → SameUnit (s.nest m) ((s.endRun n cause).nest m) := fun m hm =>
    (endRun_nest_other s hm cause).same.sameUnit
  refine countsOk_iff.mpr ⟨(endRun_units h1 ha cause hx').nests fun m => ?_, fun k => ?_, fun m => ?_⟩
  · by_cases e : m = n
    · subst e; rw [Function.update_self]; exact .refl _
    · rw [Function.update_of_ne e]; exact hother m (Ne.symm e)
  · have hocc : (s.endRun n cause).occupants k + (if (s.nest n).run.slot == k then 1 else 0) = s.occupants k := by
      have := countP_nests_update (fun m => (s.nest m).phase.active && (s.nest m).run.slot == k)
        (fun m => ((s.endRun n cause).nest m).phase.active && ((s.endRun n cause).nest m).run.slot == k) n
        (fun m hm => by simp only [(hother m (Ne.symm hm)).active, (hother m (Ne.symm hm)).slot])
      simpa only [State.occupants, ← List.countP_eq_length_filter, ha, hx', Bool.true_and, Bool.false_and,
        Bool.false_eq_true, if_false, Nat.add_zero] using this
    have hk := h2 k
    by_cases e : k = (s.nest n).run.slot
    · subst e
      rw [beq_self_eq_true, if_pos rfl] at hocc
      rw [endRun_occupancy]
      omega
    · rw [endRun_slot_other s n cause e, hk, ← hocc]
      simp [Ne.symm e]
  · by_cases e : n = m
    · subst e
      intro _
      rw [hself, Nest.leave]
      by_cases hm : (s.endEngine n cause).mode = .silent <;> simp [hm]
    · exact (endRun_nest_other s e cause).same.verdictPlaced (h3 m)

end Sys2Proof.Machine
end

section
/-! PROOFS. START (R28, R66, R67, R110, R135): what each of its ten checks reads, their order, and O28. -/

namespace Sys2Proof.Machine

variable {s : State} {n : NestId} {k : SlotId} {r : StartRequest}

/-! ### What the checks read -/

theorem promotionPending_iff (x : Slot) :
    x.promotionPending = true ↔ ∃ target count values, x.capture = .pending target count values := by
  simp only [Slot.promotionPending]
  cases x.capture <;> simp

theorem isCapturing_iff (x : Slot) :
    x.isCapturing = true ↔ ∃ target count sums, x.capture = .capturing target count sums := by
  simp only [Slot.isCapturing]
  cases x.capture <;> simp

theorem runKindOf_counted {golden bench : Bool} :
    runKindOf golden bench = .counted ↔ golden = false ∧ bench = false := by
  cases golden <;> cases bench <;> simp [runKindOf]

/-- The run START asks for at a nest is counted. -/
abbrev StartRequest.Counted (r : StartRequest) (x : Nest) : Prop := r.golden = false ∧ x.config.bench = false

theorem openLot_eq {l : Lot} : s.openLot k = some l ↔ s.lot k = some l ∧ l.closing = false := by
  simp [State.openLot, Option.filter_eq_some_iff]

theorem openLot_none : s.openLot k = none ↔ ∀ l, s.lot k = some l → l.closing = true := by
  simp [State.openLot, Option.filter_eq_none_iff]

theorem serialBusy_iff {serial : BitVec 48} : s.serialBusy n serial = true ↔
    ∃ m, m ≠ n ∧ ((s.nest m).phase = .armed ∨ (s.nest m).phase = .running) ∧ (s.nest m).run.serial = serial := by
  simp only [State.serialBusy, List.any_eq_true, mem_allNests, true_and, Bool.and_eq_true, bne_iff_ne, beq_iff_eq, active_iff,
    and_assoc]

theorem returning_iff {serial : BitVec 48} :
    s.returning k serial = true ↔ ∃ e, s.retestEntry serial = some e ∧ e.slot = k := by
  simp only [State.returning]
  cases s.retestEntry serial <;> simp

theorem not_returning_iff {serial : BitVec 48} :
    s.returning k serial = false ↔ ∀ e, s.retestEntry serial = some e → e.slot ≠ k := by
  rw [← Bool.not_eq_true, returning_iff]
  simp

/-- An OPEN lot that has started all the units it can count. -/
def State.lotFull (s : State) (k : SlotId) : Bool :=
  match s.openLot k with
  | some l => Config.lotCounterMax ≤ l.started
  | none => false

theorem lotFull_iff : s.lotFull k = true ↔ ∃ l, s.openLot k = some l ∧ 16777215 ≤ l.started := by
  simp only [State.lotFull]
  cases s.openLot k with
  | none => simp
  | some l =>
    rw [decide_eq_true_iff]
    exact ⟨fun h => ⟨l, rfl, h⟩, fun ⟨_, e, h⟩ => Option.some.inj e ▸ h⟩

/-! ### The checks in their order -/

/-- Orders 3 to 10 as conditions, one for each check. -/
theorem startSlotCheck_eq : startSlotCheck s n k r =
    if (s.slot k).loaded = false then .notReady
    else if (s.commitPending k || (s.slot k).promotionPending) = true then .held
    else if (r.golden && (s.nest n).config.bench) = true then .refused
    else if (r.golden && !(s.slot k).isCapturing) = true then .notReady
    else if (runKindOf r.golden (s.nest n).config.bench == .counted && (s.slot k).tables.hasRel &&
      (s.slot k).reference.isNone) = true then .notReady
    else if (runKindOf r.golden (s.nest n).config.bench == .counted && (s.openLot k).isNone) = true then .noLot
    else if s.serialBusy n r.serial = true then .duplicate
    else if (runKindOf r.golden (s.nest n).config.bench == .counted && !s.returning k r.serial && s.lotFull k) = true then .lotFull
    else .ok := by
  simp only [startSlotCheck, Bool.not_eq_true']
  rfl

theorem startCheck_busy (h : (s.nest n).phase ≠ .idle) : startCheck s n r = .busy := by
  simp [startCheck, h]

theorem startCheck_range (h : (s.nest n).phase = .idle) (hr : 7 < r.slot) : startCheck s n r = .range := by
  simp [startCheck, h, hr]

theorem ofNat_slot : ∀ k : SlotId, Fin.ofNat 8 k.val = k := by decide

theorem startCheck_slot (h : (s.nest n).phase = .idle) (hk : r.slot = k.val) : startCheck s n r = startSlotCheck s n k r := by
  simp only [startCheck, h, bne_self_eq_false, Bool.false_eq_true, if_false, hk, ofNat_slot,
    if_neg (Nat.not_lt.mpr (Nat.le_of_lt_succ k.isLt))]

/-- The conditions of orders 3 to 10 in the terms of R66. -/
structure SlotChecks (s : State) (n : NestId) (k : SlotId) (r : StartRequest) : Prop where
  held : (s.commitPending k || (s.slot k).promotionPending) = true ↔
    (s.commitPending k = true ∨ ∃ target count values, (s.slot k).capture = .pending target count values)
  goldenBench : (r.golden && (s.nest n).config.bench) = true ↔ (r.golden = true ∧ (s.nest n).config.bench = true)
  noCapture : (r.golden && !(s.slot k).isCapturing) = true ↔
    (r.golden = true ∧ ∀ target count sums, (s.slot k).capture ≠ .capturing target count sums)
  noReference : (runKindOf r.golden (s.nest n).config.bench == .counted && (s.slot k).tables.hasRel &&
      (s.slot k).reference.isNone) = true ↔
    (r.Counted (s.nest n) ∧ (s.slot k).tables.hasRel = true ∧ (s.slot k).reference = none)
  noLot : (runKindOf r.golden (s.nest n).config.bench == .counted && (s.openLot k).isNone) = true ↔
    (r.Counted (s.nest n) ∧ ∀ l, s.lot k = some l → l.closing = true)
  full : (∃ l, s.openLot k = some l) ∨ ¬ r.Counted (s.nest n) →
    ((runKindOf r.golden (s.nest n).config.bench == .counted && !s.returning k r.serial && s.lotFull k) = true ↔
      (r.Counted (s.nest n) ∧ (∀ e, s.retestEntry r.serial = some e → e.slot ≠ k) ∧
        ∃ l, s.lot k = some l ∧ 16777215 ≤ l.started))

theorem slotChecks (s : State) (n : NestId) (k : SlotId) (r : StartRequest) : SlotChecks s n k r where
  held := by rw [Bool.or_eq_true, promotionPending_iff]
  goldenBench := by rw [Bool.and_eq_true]
  noCapture := by
    rw [Bool.and_eq_true, Bool.not_eq_true', ← Bool.not_eq_true, isCapturing_iff]
    simp
  noReference := by
    rw [Bool.and_eq_true, Bool.and_eq_true, beq_iff_eq, runKindOf_counted, Option.isNone_iff_eq_none, and_assoc]
  noLot := by rw [Bool.and_eq_true, beq_iff_eq, runKindOf_counted, Option.isNone_iff_eq_none, openLot_none]
  full ho := by
    rw [Bool.and_eq_true, Bool.and_eq_true, beq_iff_eq, runKindOf_counted, Bool.not_eq_true', not_returning_iff, lotFull_iff,
      and_assoc]
    refine and_congr_right fun hc => and_congr_right fun _ => ?_
    obtain ⟨m, hm⟩ := ho.resolve_right (not_not.mpr hc)
    obtain ⟨hl, hcl⟩ := openLot_eq.mp hm
    rw [hm, hl]

/-- What a START that is taken has passed (R66). -/
theorem startCheck_ok (hk : r.slot = k.val) : startCheck s n r = .ok ↔
    (s.nest n).phase = .idle ∧ (s.slot k).loaded = true ∧ (s.commitPending k || (s.slot k).promotionPending) = false ∧
    (r.golden && (s.nest n).config.bench) = false ∧ (r.golden && !(s.slot k).isCapturing) = false ∧
    (runKindOf r.golden (s.nest n).config.bench == .counted && (s.slot k).tables.hasRel &&
      (s.slot k).reference.isNone) = false ∧
    (runKindOf r.golden (s.nest n).config.bench == .counted && (s.openLot k).isNone) = false ∧
    s.serialBusy n r.serial = false ∧
    (runKindOf r.golden (s.nest n).config.bench == .counted && !s.returning k r.serial && s.lotFull k) = false := by
  have hite : ∀ {c : Prop} [Decidable c] {a b : ResultCode}, a ≠ .ok → ((if c then a else b) = .ok ↔ ¬ c ∧ b = .ok) := by
    intro c _ a b ha
    by_cases hc : c <;> simp [hc, ha]
  by_cases hp : (s.nest n).phase = .idle
  · rw [startCheck_slot hp hk, startSlotCheck_eq, hite (by decide), hite (by decide), hite (by decide), hite (by decide),
      hite (by decide), hite (by decide), hite (by decide), hite (by decide)]
    simp only [hp, true_and, Bool.not_eq_true, Bool.not_eq_false, and_true]
  · simp [startCheck_busy hp, hp]

/-- What a START that is taken has passed, in the terms of R66. -/
theorem startCheck_ok_iff (hk : r.slot = k.val) : startCheck s n r = .ok ↔
    (s.nest n).phase = .idle ∧ (s.slot k).loaded = true ∧ s.commitPending k = false ∧
    (∀ target count values, (s.slot k).capture ≠ .pending target count values) ∧
    (r.golden = true → (s.nest n).config.bench = false ∧
      ∃ target count sums, (s.slot k).capture = .capturing target count sums) ∧
    (r.Counted (s.nest n) → (s.slot k).tables.hasRel = true → (s.slot k).reference ≠ none) ∧
    (r.Counted (s.nest n) → ∃ l, s.lot k = some l ∧ l.closing = false ∧
      ((∃ e, s.retestEntry r.serial = some e ∧ e.slot = k) ∨ l.started < 16777215)) ∧
    ∀ m, m ≠ n → (s.nest m).phase.active = true → (s.nest m).run.serial ≠ r.serial := by
  have c := slotChecks s n k r
  rw [startCheck_ok hk]
  simp only [← Bool.not_eq_true, c.held, c.goldenBench, c.noCapture, c.noReference, c.noLot, serialBusy_iff]
  constructor
  · rintro ⟨hp, hl, hheld, hgold, hcap, href, hlot, hbusy, hfull⟩
    refine ⟨hp, by simpa using hl, fun h => hheld (.inl h), fun t c v h => hheld (.inr ⟨t, c, v, h⟩), fun hg => ⟨fun hb => hgold ⟨hg, hb⟩, ?_⟩,
      fun hc hrel hn => href ⟨hc, hrel, hn⟩, fun hc => ?_, fun m hm ha e => hbusy ⟨m, hm, (active_iff _).mp ha, e⟩⟩
    · by_contra hn
      exact hcap ⟨hg, fun t c v h => hn ⟨t, c, v, h⟩⟩
    · have hne : s.openLot k ≠ none := fun e => hlot ⟨hc, openLot_none.mp e⟩
      obtain ⟨l, ho⟩ := Option.ne_none_iff_exists'.mp hne
      obtain ⟨hl', hcl⟩ := openLot_eq.mp ho
      refine ⟨l, hl', (Bool.not_eq_true _).mpr hcl, ?_⟩
      by_contra hn
      rw [not_or, not_lt] at hn
      exact hfull ((c.full (.inl ⟨l, ho⟩)).mpr ⟨hc, fun e he hs => hn.1 ⟨e, he, hs⟩, l, hl', hn.2⟩)
  · rintro ⟨hp, hl, hpend, hcap, hgold, href, hlot, hserial⟩
    have hopen : (∃ l, s.openLot k = some l) ∨ ¬ r.Counted (s.nest n) := by
      by_cases hc : r.Counted (s.nest n)
      · obtain ⟨l, hl', hcl, -⟩ := hlot hc
        exact .inl ⟨l, openLot_eq.mpr ⟨hl', (Bool.not_eq_true _).mp hcl⟩⟩
      · exact .inr hc
    refine ⟨hp, by simpa using hl, ?_, fun ⟨hg, hb⟩ => (hgold hg).1 hb, fun ⟨hg, hno⟩ => ?_, fun ⟨hc, hrel, hn⟩ => href hc hrel hn,
      fun ⟨hc, hno⟩ => ?_, fun ⟨m, hm, ha, e⟩ => hserial m hm ((active_iff _).mpr ha) e, ?_⟩
    · rintro (h | ⟨t, c, v, h⟩)
      · exact hpend h
      · exact hcap t c v h
    · obtain ⟨t, c, v, h⟩ := (hgold hg).2
      exact hno t c v h
    · obtain ⟨l, hl', hcl, -⟩ := hlot hc
      rw [hno l hl'] at hcl
      exact hcl rfl
    · rw [c.full hopen]
      rintro ⟨hc, hno, l, hl', hs⟩
      obtain ⟨l', hl'', -, hor⟩ := hlot hc
      obtain rfl : l' = l := Option.some.inj (hl''.symm.trans hl')
      rcases hor with ⟨e, he, hk'⟩ | hlt
      · exact hno e he hk'
      · omega

theorem tablesHasRel_iff (x : Tables) : x.hasRel = true ↔ ∃ i m, i < x.plan.length ∧
    x.maskRow (x.step i).mask = some m ∧ ((m.lower ≠ none ∧ m.lowerRel = true) ∨ (m.upper ≠ none ∧ m.upperRel = true)) := by
  have hrow : ∀ st : Step, (match x.maskRow st.mask with | some m => m.hasRel | none => false) = true ↔
      ∃ m, x.maskRow st.mask = some m ∧ m.hasRel = true := fun st => by
    cases x.maskRow st.mask <;> simp
  rw [Tables.hasRel, List.any_eq_true]
  constructor
  · rintro ⟨st, hst, h⟩
    obtain ⟨m, hm, hrel⟩ := (hrow st).mp h
    obtain ⟨row, hrow', rfl⟩ := List.mem_map.mp hst
    obtain ⟨i, hi, rfl⟩ := List.mem_iff_getElem.mp hrow'
    exact ⟨i, m, hi, by rw [Tables.step, List.getD_eq_getElem _ _ hi]; exact hm, m.hasRel_iff.mp hrel⟩
  · rintro ⟨i, m, hi, hm, hrel⟩
    refine ⟨x.step i, List.mem_map.mpr ⟨_, List.getElem_mem hi, ?_⟩, (hrow _).mpr ⟨m, hm, m.hasRel_iff.mpr hrel⟩⟩
    rw [Tables.step, List.getD_eq_getElem _ _ hi]

theorem retestEntry_iff {serial : BitVec 48} {e : RetestEntry} : s.retestEntry serial = some e ↔
    ∃ before after, s.retest = before ++ e :: after ∧ e.serial = serial ∧ ∀ x ∈ before, x.serial ≠ serial := by
  rw [State.retestEntry, List.find?_eq_some_iff_append]
  simp only [beq_iff_eq, Bool.not_eq_true', beq_eq_false_iff_ne]
  constructor
  · rintro ⟨h, before, after, hs, hb⟩
    exact ⟨before, after, hs, h, hb⟩
  · rintro ⟨before, after, hs, h, hb⟩
    exact ⟨h, before, after, hs, hb⟩

theorem exec_start (tag : BitVec 8) (w0 w1 : Word) (hr : s.ReplyRoom) :
    exec (.start (nestScope n) tag w0 w1) s = .next (takeStart (nestScope n) tag w0 w1 s).endEvent :=
  exec_taken rfl hr rfl (by revert n; decide) rfl

/-- Settles O28: the checks in their order by `startSlotCheck_eq`, each read in R66's terms by `slotChecks`. -/
theorem startCommand : Obligations.StartCommand := by
  unfold Obligations.StartCommand
  refine ⟨fun s n r => ⟨startCheck_busy, startCheck_range, fun k hi hk => ?_⟩, fun s n r k => ?_, fun n tag w0 w1 s hr => ?_,
    tablesHasRel_iff, fun s serial e => retestEntry_iff⟩
  · intro counted empty held goldenBench noCapture noReference noLot duplicate full
    have c := slotChecks s n k r
    have hdup : s.serialBusy n r.serial = true ↔ duplicate := serialBusy_iff
    have hfull := fun h : ¬ noLot => c.full (by
      by_cases hc : counted
      · left
        have : s.openLot k ≠ none := fun e => h ⟨hc, openLot_none.mp e⟩
        exact Option.ne_none_iff_exists'.mp this
      · exact .inr hc)
    rw [startCheck_slot hi hk, startSlotCheck_eq]
    refine ⟨fun h1 => if_pos h1, fun h1 h2 => ?_, fun h1 h2 h3 => ?_, fun h1 h2 h3 h4 => ?_, fun h1 h2 h3 h4 h5 => ?_,
      fun h1 h2 h3 h4 h5 h6 => ?_, fun h1 h2 h3 h4 h5 h6 h7 => ?_, fun h1 h2 h3 h4 h5 h6 h7 h8 => ?_,
      fun h1 h2 h3 h4 h5 h6 h7 h8 => ?_⟩
    all_goals rw [if_neg h1]
    · rw [if_pos (c.held.mpr h2)]
    all_goals rw [if_neg (mt c.held.mp h2)]
    · rw [if_pos (c.goldenBench.mpr h3)]
    all_goals rw [if_neg (mt c.goldenBench.mp h3)]
    · rw [if_pos (c.noCapture.mpr h4)]
    all_goals rw [if_neg (mt c.noCapture.mp h4)]
    · rw [if_pos (c.noReference.mpr h5)]
    all_goals rw [if_neg (mt c.noReference.mp h5)]
    · rw [if_pos (c.noLot.mpr h6)]
    all_goals rw [if_neg (mt c.noLot.mp h6)]
    · rw [if_pos (hdup.mpr h7)]
    all_goals rw [if_neg (mt hdup.mp h7)]
    · rw [if_pos ((hfull h6).mpr h8)]
    · rw [if_neg (mt (hfull h6).mp h8)]
  · intro counted returning
    rw [and_comm]
    exact and_congr_right fun hk => startCheck_ok_iff hk
  · intro r
    have hreq : startRequest w0 w1 = r := rfl
    refine ⟨fun k hok hk => ?_, fun hno => ?_⟩
    · have : Fin.ofNat 8 r.slot = k := by rw [hk, ofNat_slot]
      rw [exec_start tag w0 w1 hr, takeStart]
      simp only [nestOf_nestScope, hreq, hok, this, beq_self_eq_true, if_true]
    · rw [exec_start tag w0 w1 hr, takeStart]
      simp only [nestOf_nestScope, hreq, beq_eq_false_iff_ne.mpr hno, Bool.false_eq_true, if_false]

end Sys2Proof.Machine
end

section
/-! PROOFS. The counting invariant when a run begins (R19, R67, R136): the unit of a counted run comes from its lot or from its retest
entry. -/

namespace Sys2Proof.Machine

variable {s t : State} {lf la lo : Word → Nat} {N N' : NestId → Nest} {k : SlotId} {l : Lot}

/-! ### The retest lookup (R136) -/

theorem modLot_hasLot {s : State} (j : SlotId) {f : Lot → Lot} (hf : ∀ l, (f l).id = l.id) {id : Word} (h : s.HasLot k id) :
    (s.modLot j f).HasLot k id := by
  obtain ⟨m, hm, rfl⟩ := h
  simp only [State.HasLot, lot_modLot]
  split
  · rename_i e; subst e; exact ⟨f m, by rw [hm]; rfl, hf m⟩
  · exact ⟨m, hm, rfl⟩

theorem reportFirst_units (h : Units lf la lo N s) (hl : s.lot k = some l) (ho : l.closing = false) :
    Units (fun x => lf x + oneUnit l.id x) la lo N (s.reportFirst k) :=
  h.withLedger (modLot_hasLot k (by exact fun _ => rfl)) (by simp) (by simp)
    ((h.ledger.reportFirst hl ho).of_eq (fun x => by omega) (fun _ => rfl) fun _ => rfl)

theorem reportReturn_units (h : Units lf la (fun x => lo x + oneUnit l.id x) N s) (hl : s.lot k = some l) :
    Units (fun x => lf x + oneUnit l.id x) la lo N (s.reportReturn k) :=
  h.withLedger (modLot_hasLot k (by exact fun _ => rfl)) (by simp) (by simp)
    ((Ledger.reportReturn (h.ledger.of_eq (fun _ => rfl) (fun _ => rfl) fun x => by omega) hl).of_eq (fun x => by omega)
      (fun _ => rfl) fun _ => rfl)

/-- A serial's entry leaves the list, and its unit is loose (R135: it is the only one). -/
theorem dropRetest_units (h : Units lf la lo N s) {serial : BitVec 48} {e : RetestEntry} (he : s.retestEntry serial = some e) :
    Units lf la (fun x => lo x + oneUnit e.lotId x) N (s.dropRetest serial) := by
  refine dropEntries_units h List.filter_sublist fun x => ?_
  obtain ⟨before, after, hs, rfl, hb⟩ := retestEntry_iff.mp he
  have hn := h.entrySerials
  rw [hs, List.map_append, List.map_cons, List.nodup_append] at hn
  have ha : ∀ e' ∈ after, e'.serial ≠ e.serial := fun e' he' heq =>
    (List.nodup_cons.mp hn.2.1).1 (heq ▸ List.mem_map_of_mem he')
  have hkeep : ∀ es : List RetestEntry, (∀ e' ∈ es, e'.serial ≠ e.serial) → es.filter (fun e' => e'.serial != e.serial) = es :=
    fun es h => List.filter_eq_self.mpr fun e' he' => by simpa using h e' he'
  have hc : entryUnits (before ++ e :: after) x = entryUnits (before ++ after) x + oneUnit e.lotId x := by
    simp only [entryUnits, List.countP_append, List.countP_cons, oneUnit, beq_iff_eq]
    omega
  rw [hs, List.filter_append, List.filter_cons_of_neg (by simp), hkeep before hb, hkeep after ha, hc]
  omega

/-- A counted START takes its unit from the slot's OPEN lot or from the serial's entry, which goes (R136, R160). -/
theorem lookupRetest_units (h : Units lf la lo N s) (hl : s.lot k = some l) (ho : l.closing = false) (serial : BitVec 48) :
    Units (fun x => lf x + oneUnit l.id x) la lo N (s.lookupRetest k serial).2 ∧
      ((s.lookupRetest k serial).2.HasLot k l.id) ∧ ∀ e ∈ (s.lookupRetest k serial).2.retest, e.serial ≠ serial := by
  have hfirst : ∀ u : State, u.HasLot k l.id → (u.reportFirst k).HasLot k l.id := fun u hu =>
    modLot_hasLot k (by exact fun _ => rfl) hu
  simp only [State.lookupRetest]
  split
  · rename_i e he
    have hd := dropRetest_units h he
    have hgone : ∀ e' ∈ (s.dropRetest serial).retest, e'.serial ≠ serial := fun e' he' => by
      simpa using (List.mem_filter.mp he').2
    have hlot : (s.dropRetest serial).HasLot k l.id := ⟨l, hl, rfl⟩
    split
    · rename_i hk
      have hid : l.id = e.lotId := by
        obtain ⟨m, hm, hid⟩ := h.entries e (by
          obtain ⟨before, after, hs, -⟩ := retestEntry_iff.mp he
          simp [hs])
        rw [beq_iff_eq.mp hk, hl] at hm
        rw [Option.some.inj hm, hid]
      exact ⟨reportReturn_units (by rw [hid]; exact hd) hl, modLot_hasLot k (by exact fun _ => rfl) hlot, by simpa using hgone⟩
    · obtain ⟨m, hm, hid, hcl⟩ := reportGivenUp_keeps (s := s.dropRetest serial) e hl
      rw [← hid]
      exact ⟨reportFirst_units (reportGivenUp_units hd) hm (hcl.trans ho), by rw [hid]; exact hfirst _ (reportGivenUp_hasLot _ e hlot),
        by simpa using hgone⟩
  · rename_i he
    refine ⟨reportFirst_units h hl ho, hfirst s ⟨l, hl, rfl⟩, fun e' he' => ?_⟩
    have := List.find?_eq_none.mp he e' (by simpa using he')
    simpa using this

/-! ### A run is entered (R67) -/

/-- The nest takes its run up: it is ARMED or RUNNING, its VERDICT outbox and its binding as they stood. -/
theorem enterRun_eq (s : State) (n : NestId) (k : SlotId) : ∃ f : Nest → Nest, s.enterRun n k = (s.occupy k).modNest n f ∧
    ∀ x, (f x).phase.active = true ∧ (f x).verdictOut = x.verdictOut ∧ (f x).run.kind = x.run.kind ∧
      (f x).run.slot = x.run.slot ∧ (f x).run.lotId = x.run.lotId ∧ (f x).run.serial = x.run.serial := by
  simp only [State.enterRun, State.becomeRunning, State.arm]
  (repeat' split)
  · exact ⟨_, rfl, fun _ => ⟨rfl, rfl, rfl, rfl, rfl, rfl⟩⟩
  · exact ⟨_, rfl, fun _ => ⟨rfl, rfl, rfl, rfl, rfl, rfl⟩⟩
  · exact ⟨_, rfl, fun _ => ⟨rfl, rfl, rfl, rfl, rfl, rfl⟩⟩

/-- The state in which a START that is taken binds its run: a counted one has its unit (R67, steps 2 and 3). -/
def State.startFound (s : State) (n : NestId) (k : SlotId) (r : StartRequest) : State :=
  if runKindOf r.golden (s.nest n).config.bench = .counted then (s.lookupRetest k r.serial).2 else s

/-- The nest with the run that START fills (R67, step 1). -/
def Nest.bind (run : Run) (x : Nest) : Nest := { x with run }

theorem occupy_modNest (s : State) (n : NestId) (f : Nest → Nest) (k : SlotId) :
    (s.modNest n f).occupy k = (s.occupy k).modNest n f := rfl

theorem startRun_eq_bind (s : State) (n : NestId) (k : SlotId) (r : StartRequest) : ∃ attempt, s.startRun n k r =
    ((s.startFound n k r).modNest n
      (Nest.bind (boundRun s k r (runKindOf r.golden (s.nest n).config.bench) attempt))).enterRun n k := by
  by_cases hc : runKindOf r.golden (s.nest n).config.bench = .counted
  · exact ⟨(s.lookupRetest k r.serial).1, by simp [State.startRun, State.startFound, hc]; rfl⟩
  · exact ⟨1, by simp [State.startRun, State.startFound, hc]; rfl⟩

/-- A taken START binds a run of its slot and serial, counts it in the slot's occupancy, and enters it. -/
theorem startRun_eq_modNest (s : State) (n : NestId) (k : SlotId) (r : StartRequest) : ∃ f : Nest → Nest,
    s.startRun n k r = ((s.startFound n k r).occupy k).modNest n f ∧
    ∀ x, (f x).phase.active = true ∧ (f x).verdictOut = x.verdictOut ∧
      (f x).run.kind = runKindOf r.golden (s.nest n).config.bench ∧ (f x).run.slot = k ∧ (f x).run.serial = r.serial ∧
      ((f x).run.kind = .counted → ∀ l, s.openLot k = some l → (f x).run.lotId = l.id) := by
  obtain ⟨attempt, he⟩ := startRun_eq_bind s n k r
  generalize hrun : boundRun s k r (runKindOf r.golden (s.nest n).config.bench) attempt = run at he
  obtain ⟨f, hf, hx⟩ := enterRun_eq ((s.startFound n k r).modNest n (Nest.bind run)) n k
  refine ⟨fun x => f (x.bind run), by rw [he, hf, occupy_modNest, modNest_modNest], fun x => ?_⟩
  obtain ⟨hact, hvo, hkind, hslot, hid, hser⟩ := hx (x.bind run)
  subst hrun
  refine ⟨hact, hvo, hkind, hslot, hser, fun hc l hl => ?_⟩
  have hk : runKindOf r.golden (s.nest n).config.bench = .counted := hkind.symm.trans hc
  rw [hid]
  simp [Nest.bind, boundRun, hk, hl]

theorem startFound_frame (s : State) (n : NestId) (k : SlotId) (r : StartRequest) :
    (s.startFound n k r).nests = s.nests ∧ (s.startFound n k r).slots = s.slots := by
  simp only [State.startFound]
  split <;> simp

/-- A START that has passed its checks (R66) keeps the counts. -/
theorem startRun_counts (h : CountsOk s) {n : NestId} {r : StartRequest} (hk : r.slot = k.val) (hok : startCheck s n r = .ok) :
    CountsOk (s.startRun n k r) := by
  obtain ⟨hidle, -, -, -, -, -, hlot, hserial⟩ := (startCheck_ok_iff hk).mp hok
  obtain ⟨hu, hocc, hv⟩ := countsOk_iff.mp h
  obtain ⟨f, hf, hx⟩ := startRun_eq_modNest s n k r
  obtain ⟨hnests, hslots⟩ := startFound_frame s n k r
  obtain ⟨hact, hvo, hkind, hslot, hser, hid⟩ := hx (s.nest n)
  have hi : (s.nest n).phase.active = false := by rw [hidle]; rfl
  have hu' : Units 0 0 0 (Function.update s.nest n (f (s.nest n))) (s.startFound n k r) := by
    by_cases hc : runKindOf r.golden (s.nest n).config.bench = .counted
    · obtain ⟨l, hl, ho, -⟩ := hlot (runKindOf_counted.mp hc)
      obtain ⟨g1, g2, g3⟩ := lookupRetest_units hu hl ho r.serial
      have hfound : s.startFound n k r = (s.lookupRetest k r.serial).2 := if_pos hc
      have hfc : (f (s.nest n)).counts = true := by simp [Nest.counts, hact, hkind, hc]
      have hfid : (f (s.nest n)).run.lotId = l.id := hid (hkind.trans hc) l (openLot_eq.mpr ⟨hl, ho⟩)
      rw [hfound]
      refine Units.join (g1.of_loose (fun x => ?_) (fun _ => rfl) fun _ => rfl) hi (fun _ => ?_)
        (fun m hm ha => by rw [hser]; exact hserial m hm ha) fun _ e he => by rw [hser]; exact g3 e he
      · rw [units_of_counts hfc, hfid]
      · rw [hslot, hfid]; exact g2
    · have hfound : s.startFound n k r = s := if_neg hc
      have hfc : (f (s.nest n)).counts = false := by simp [Nest.counts, hkind, hc]
      rw [hfound]
      refine Units.join (hu.of_loose (fun x => ?_) (fun _ => rfl) fun _ => rfl) hi (fun hc => ?_)
        (fun m hm ha => by rw [hser]; exact hserial m hm ha) fun hc => ?_
      · rw [units_of_not_counts hfc]; rfl
      · rw [hfc] at hc; cases hc
      · rw [hfc] at hc; cases hc
  have hn : ∀ m, (s.startRun n k r).nest m = if n = m then f (s.nest n) else s.nest m := fun m => by
    rw [hf, nest_modNest]
    simp only [State.occupy, modSlot_reads, nest_congr hnests]
  rw [countsOk_iff]
  refine ⟨?_, fun j => ?_, fun m => ?_⟩
  · have he : (s.startRun n k r).nest = Function.update s.nest n (f (s.nest n)) := by
      funext m
      rw [hn]
      by_cases e : n = m
      · subst e; simp
      · rw [if_neg e, Function.update_of_ne (Ne.symm e)]
    rw [he, hf]
    exact hu'.of_parts rfl rfl rfl
  · have hj : ((s.startRun n k r).slot j).occupancy = (s.slot j).occupancy + if k = j then 1 else 0 := by
      rw [hf]
      simp only [State.occupy, modNest_reads, slot_modSlot, slot_congr hslots]
      split
      · rename_i e; subst e; rfl
      · rfl
    have := countP_nests_update (fun m => (s.nest m).phase.active && (s.nest m).run.slot == j)
      (fun m => ((s.startRun n k r).nest m).phase.active && ((s.startRun n k r).nest m).run.slot == j) n
      (fun m hm => by simp only [hn, if_neg (Ne.symm hm)])
    simp only [hn n, if_true, hi, hact, hslot, Bool.false_and, Bool.true_and, Bool.false_eq_true, if_false, beq_iff_eq,
      Nat.add_zero] at this
    rw [hj, hocc, State.occupants, State.occupants, ← List.countP_eq_length_filter, ← List.countP_eq_length_filter, this]
  · rw [hn]
    split
    · intro h'
      rw [hvo, (show (s.nest n).verdictOut = none by
        by_contra hne
        rcases hv n hne with hp | hp <;> simp [hidle] at hp)] at h'
      exact absurd rfl h'
    · exact hv m

end Sys2Proof.Machine
end

section
/-! PROOFS. The counting invariant at the close of an event (R13, R14, R138, R141, R164): lots completed, opened, closed and freed,
messages admitted and offered. -/

namespace Sys2Proof.Machine

variable {s t : State} {lf la lo : Word → Nat} {N N' : NestId → Nest} {k : SlotId} {l : Lot}

/-! ### Lots closed, summarised, freed and opened -/

/-- A lot is closed or gets its LOT_SUMMARY: its id and its counters stay. -/
theorem restateLot_units (h : Units lf la lo N s) {f : Lot → Lot} (hid : ∀ l, (f l).id = l.id ∧ (f l).inFlight = l.inFlight ∧
      (f l).awaiting = l.awaiting ∧ (f l).outstanding = l.outstanding ∧ ((f l).Balanced ↔ l.Balanced))
    (hs : ∀ l, s.lot k = some l → (f l).summary ≠ none →
      (f l).closing = true ∧ l.inFlight = 0 ∧ l.awaiting = 0 ∧ l.outstanding = 0) : Units lf la lo N (s.modLot k f) := by
  have hlot : ∀ j m, (s.modLot k f).lot j = some m → ∃ l, s.lot j = some l ∧ (m = l ∨ (j = k ∧ m = f l)) := by
    intro j m hm
    rw [lot_modLot] at hm
    split at hm
    · rename_i e
      obtain ⟨l, hl, rfl⟩ := Option.map_eq_some_iff.mp hm
      exact ⟨l, e ▸ hl, .inr ⟨e.symm, rfl⟩⟩
    · exact ⟨m, hm, .inl rfl⟩
  have hids : ∀ {j m l}, (m = l ∨ (j = k ∧ m = f l)) → m.id = l.id := by
    rintro j m l (rfl | ⟨-, rfl⟩)
    · rfl
    · exact (hid l).1
  refine h.withLedger (modLot_hasLot k fun l => (hid l).1) (by simp) (by simp) ⟨fun j m hm => ?_, fun j m hm hne => ?_,
    fun i j m m' hm hm' e => ?_⟩
  · obtain ⟨l, hl, rfl | ⟨-, rfl⟩⟩ := hlot j m hm
    · exact h.ledger.counts j m hl
    · obtain ⟨h1, h2, h3, h4, h5⟩ := hid l
      rw [h1, h2, h3, h4, h5]
      exact h.ledger.counts j l hl
  · obtain ⟨l, hl, rfl | ⟨e, rfl⟩⟩ := hlot j m hm
    · exact h.ledger.summaries j m hl hne
    · subst e
      obtain ⟨-, h2, h3, h4, -⟩ := hid l
      rw [h2, h3, h4]
      exact hs l hl hne
  · obtain ⟨l, hl, hl'⟩ := hlot i m hm
    obtain ⟨l', hm', hl''⟩ := hlot j m' hm'
    exact h.ledger.ids i j l l' hl hm' (by rw [← hids hl', e, hids hl''])

/-- A due lot completes: its entries are final, and nothing of it is left (R138, R164). -/
theorem completeLot_units (h : Units lf la 0 N s) (k : SlotId) : Units lf la 0 N (s.completeLot k) := by
  cases hd : s.lotDue k with
  | false => rw [completeLot_of_notDue hd]; exact h
  | true =>
    obtain ⟨l, hl, hdue⟩ : ∃ l, s.lot k = some l ∧ l.due = true := by
      rw [lotDue_eq] at hd
      cases hl : s.lot k with
      | none => simp [hl] at hd
      | some l => exact ⟨l, rfl, by simpa [hl] using hd⟩
    rw [completeLot_of_due hl hdue]
    have hg := giveUpLot_units h l.id
    refine restateLot_units hg (fun _ => ⟨rfl, rfl, rfl, rfl, Iff.rfl⟩) fun x hx _ => ?_
    obtain ⟨hc, -, hf, ha⟩ := (due_iff l).mp hdue
    have hkey := giveUpLot_sameDue s l.id k
    rw [hx, hl] at hkey
    obtain ⟨e1, e2, e3, e4⟩ : x.closing = l.closing ∧ x.summary = l.summary ∧ x.inFlight = l.inFlight ∧ x.awaiting = l.awaiting := by
      simpa [Lot.dueKey] using hkey
    obtain ⟨y, hy, hid, -⟩ := foldGivenUp_keeps k (s.retest.filter fun e => e.lotId == l.id)
      { s with retest := s.retest.filter fun e => e.lotId != l.id } l hl
    obtain rfl : y = x := Option.some.inj (hy.symm.trans hx)
    refine ⟨e1.trans hc, e3.trans hf, e4.trans ha, ?_⟩
    obtain ⟨-, -, -, ho⟩ := hg.ledger.counts k y hx
    rw [ho, hid]
    simp [State.giveUpLot, entryUnits, List.countP_filter]

/-- No nest, label or entry holds a unit of a lot whose summary waits, so the lot can be freed (R164). -/
theorem freeLot_units (h : Units 0 0 0 N s) (hl : s.lot k = some l) (hs : l.summary ≠ none) : Units 0 0 0 N (s.setLot k none) := by
  obtain ⟨-, z1, z2, z3⟩ := h.ledger.summaries k l hl hs
  obtain ⟨-, c1, c2, c3⟩ := h.ledger.counts k l hl
  rw [z1] at c1
  rw [z2] at c2
  rw [z3] at c3
  have hne : ∀ {j id}, s.HasLot j id → id ≠ l.id → (s.setLot k none).HasLot j id := by
    rintro j id ⟨m, hm, rfl⟩ hid
    refine ⟨m, ?_, rfl⟩
    rw [lot_setLot, if_neg, hm]
    rintro rfl
    exact hid (by rw [Option.some.inj (hm.symm.trans hl)])
  have hlots : ∀ j m, (s.setLot k none).lot j = some m → s.lot j = some m := by
    intro j m hm
    rw [lot_setLot] at hm
    split at hm
    · cases hm
    · exact hm
  exact
    { ledger := ⟨fun j m hm => h.ledger.counts j m (hlots j m hm), fun j m hm => h.ledger.summaries j m (hlots j m hm),
        fun i j m m' hm hm' => h.ledger.ids i j m m' (hlots i m hm) (hlots j m' hm')⟩
      runs := fun n hn => hne (h.runs n hn) fun e => by
        have := List.countP_eq_zero.mp (by simpa using c1.symm : flight N l.id = 0) n (mem_allNests n)
        simp [hn, e] at this
      labels := fun r hr hk => by
        obtain ⟨j, hj⟩ := h.labels r hr hk
        refine ⟨j, hne hj fun e => ?_⟩
        have := List.countP_eq_zero.mp (by simpa using c2.symm : labelUnits s.mrk.records l.id = 0) r hr
        simp [hk, e] at this
      entries := fun e he => hne (h.entries e he) fun e' => by
        have := List.countP_eq_zero.mp (by simpa using c3.symm : entryUnits s.retest l.id = 0) e he
        simp [e'] at this
      entrySerials := h.entrySerials
      runSerials := h.runSerials
      runEntries := h.runEntries
      room := h.room
      issued := h.issued }

/-- A lot opened with an id that no lot has finds no unit of that id (R158). -/
theorem openLot_units (h : Units 0 0 0 N s) (hk : s.lot k = none) {id : Word} (hid : s.lotSlot id = none) (g : BitVec 16) :
    Units 0 0 0 N (s.setLot k (some (Lot.opened id g))) := by
  have hno := lotSlot_none_iff.mp hid
  have hlots : ∀ j m, (s.setLot k (some (Lot.opened id g))).lot j = some m →
      (j = k ∧ m = Lot.opened id g) ∨ (m.id ≠ id ∧ s.lot j = some m) := by
    intro j m hm
    rw [lot_setLot] at hm
    split at hm
    · rename_i e
      exact .inl ⟨e.symm, (Option.some.inj hm).symm⟩
    · exact .inr ⟨fun e => hno j ⟨m, hm, e⟩, hm⟩
  have hkeep : ∀ {j id'}, s.HasLot j id' → (s.setLot k (some (Lot.opened id g))).HasLot j id' := by
    rintro j id' ⟨m, hm, rfl⟩
    refine ⟨m, ?_, rfl⟩
    rw [lot_setLot, if_neg, hm]
    rintro rfl
    rw [hk] at hm
    cases hm
  have hzero : flight N id = 0 ∧ labelUnits s.mrk.records id = 0 ∧ entryUnits s.retest id = 0 := by
    refine ⟨List.countP_eq_zero.mpr fun n _ => ?_, List.countP_eq_zero.mpr fun r hr => ?_,
      List.countP_eq_zero.mpr fun e he => ?_⟩
    · simp only [Bool.and_eq_true, beq_iff_eq, not_and]
      exact fun hn e => hno _ (e ▸ h.runs n hn)
    · simp only [Bool.and_eq_true, beq_iff_eq, bne_iff_ne, not_and]
      intro hk e
      obtain ⟨j, hj⟩ := h.labels r hr hk
      exact hno j (e ▸ hj)
    · simp only [beq_iff_eq]
      exact fun e' => hno _ (e' ▸ h.entries e he)
  obtain ⟨z1, z2, z3⟩ := hzero
  refine h.withLedger hkeep rfl rfl ⟨fun j m hm => ?_, fun j m hm hs => ?_, fun i j m m' hm hm' e => ?_⟩
  · rcases hlots j m hm with ⟨-, rfl⟩ | ⟨-, hm⟩
    · simp [Lot.opened, Lot.Balanced, z1, z2, z3]
    · exact h.ledger.counts j m hm
  · rcases hlots j m hm with ⟨-, rfl⟩ | ⟨-, hm⟩
    · exact absurd rfl hs
    · exact h.ledger.summaries j m hm hs
  · rcases hlots i m hm with ⟨ei, rfl⟩ | ⟨ni, hm⟩ <;> rcases hlots j m' hm' with ⟨ej, rfl⟩ | ⟨nj, hm'⟩
    · exact ei.trans ej.symm
    · exact absurd e.symm nj
    · exact absurd e ni
    · exact h.ledger.ids i j m m' hm hm' e

/-! ### Messages admitted and offered -/

theorem admitProducer_units (h : Units 0 0 0 N s) (p : Producer) : Units 0 0 0 N (s.admitProducer p) := by
  cases p with
  | ntc => exact h.of_parts (by simp [State.admitProducer]) (by simp) (by simp)
  | vrd n =>
    simp only [State.admitProducer]
    split
    · exact h.of_parts rfl rfl rfl
    · exact h
  | tbs j =>
    simp only [State.admitProducer]
    split
    · exact h.of_parts rfl rfl rfl
    · exact h
  | yld j =>
    simp only [State.admitProducer]
    split
    · rename_i e he
      obtain ⟨l, hl, hs⟩ := Option.bind_eq_some_iff.mp he
      have hu : Units 0 0 0 N (s.admitEvent e) := h.of_parts rfl rfl rfl
      exact freeLot_units hu (l := l) (by simpa using hl) (by simp [hs])
    · exact h

theorem admitProducer_occupancy (s : State) (p : Producer) (j : SlotId) :
    ((s.admitProducer p).slot j).occupancy = (s.slot j).occupancy := by
  rw [slot_admitProducer]
  split <;> rfl

theorem admitProducer_nest_counts (s : State) (p : Producer) (n : NestId) (hv : (s.nest n).VerdictPlaced) :
    SameUnit (s.nest n) ((s.admitProducer p).nest n) ∧ ((s.admitProducer p).nest n).VerdictPlaced := by
  rcases nest_admitProducer s p n with ⟨h, -⟩ | ⟨-, hne, h⟩
  · rw [h]
    exact ⟨.refl _, hv⟩
  · rw [h]
    refine ⟨⟨?_, rfl, rfl, rfl, rfl⟩, fun hn => absurd rfl hn⟩
    rcases hv hne with hp | hp <;> rw [hp] <;> rfl

theorem CountsOk.verdictPlaced (h : CountsOk s) (n : NestId) : (s.nest n).VerdictPlaced := h.verdicts n

theorem admitProducer_counts (h : CountsOk s) (p : Producer) : CountsOk (s.admitProducer p) :=
  h.congr (fun hu => admitProducer_units hu p) (fun n => (admitProducer_nest_counts s p n (h.verdictPlaced n)).1)
    (fun n hv => (admitProducer_nest_counts s p n hv).2) (admitProducer_occupancy s p)

/-- What every admission and offer keeps: the counting invariant, and the units whatever the nests. -/
structure KeepsCounts (s t : State) : Prop where
  counts : CountsOk s → CountsOk t
  units : ∀ N, Units 0 0 0 N s → Units 0 0 0 N t

theorem KeepsCounts.refl (s : State) : KeepsCounts s s := ⟨id, fun _ => id⟩

theorem KeepsCounts.trans {u : State} (h : KeepsCounts s t) (g : KeepsCounts t u) : KeepsCounts s u :=
  ⟨g.counts ∘ h.counts, fun N => g.units N ∘ h.units N⟩

theorem foldl_keepsCounts {α : Type} {f : State → α → State} (hf : ∀ s x, KeepsCounts s (f s x)) :
    ∀ (l : List α) (s : State), KeepsCounts s (l.foldl f s)
  | [], s => .refl s
  | x :: l, s => (hf s x).trans (foldl_keepsCounts hf l (f s x))

theorem keepsCounts_of_parts (hn : t.nests = s.nests) (hs : t.slots = s.slots) (hl : t.lots = s.lots) (hr : t.retest = s.retest)
    (hm : t.mrk = s.mrk) : KeepsCounts s t :=
  ⟨fun h => h.of_parts hn hs hl hr hm, fun _ h => h.of_parts hl hr hm⟩

theorem admitProducer_keepsCounts (s : State) (p : Producer) : KeepsCounts s (s.admitProducer p) :=
  ⟨fun h => admitProducer_counts h p, fun _ h => admitProducer_units h p⟩

theorem modLnk_keepsCounts (s : State) (f : Link → Link) : KeepsCounts s (s.modLnk f) :=
  keepsCounts_of_parts rfl rfl rfl rfl rfl

theorem setFlag_keepsCounts (s : State) (f : Flag) : KeepsCounts s (s.setFlag f) :=
  keepsCounts_of_parts (by simp) (by simp) (by simp) (by simp) (by simp)

theorem offer_keepsCounts (s : State) (p : Producer) : KeepsCounts s (s.offer p) := by
  simp only [State.offer]
  split
  · exact admitProducer_keepsCounts s p
  · exact modLnk_keepsCounts s _

theorem admitHead_keepsCounts (s : State) : KeepsCounts s s.admitHead := by
  simp only [State.admitHead]
  split
  · exact .refl s
  · split
    · exact (modLnk_keepsCounts s _).trans (admitProducer_keepsCounts _ _)
    · exact .refl s

theorem drainWaitLine_keepsCounts (fuel : Nat) : ∀ s : State, KeepsCounts s (s.drainWaitLine fuel) := by
  induction fuel with
  | zero => exact .refl
  | succ fuel ih =>
    intro s
    simp only [State.drainWaitLine]
    split
    · exact (admitHead_keepsCounts s).trans (ih _)
    · exact .refl s

theorem fillPlaces_keepsCounts (s : State) : KeepsCounts s s.fillPlaces := drainWaitLine_keepsCounts _ s

theorem clearResult_keepsCounts (s : State) (n : NestId) : KeepsCounts s (s.modNest n fun x => { x with stepOut := none }) :=
  ⟨fun h => modNest_counts_rest h n _ fun _ => by exact ⟨rfl, rfl, rfl⟩, fun _ h => h.of_parts rfl rfl rfl⟩

theorem discardResult_keepsCounts (s : State) (n : NestId) : KeepsCounts s (s.discardResult n) :=
  (clearResult_keepsCounts s n).trans (modLnk_keepsCounts _ _)

theorem dropResults_keepsCounts (s : State) : KeepsCounts s s.dropResults := by
  simp only [State.dropResults]
  split
  · exact .refl s
  · exact (foldl_keepsCounts discardResult_keepsCounts _ s).trans (setFlag_keepsCounts _ _)

theorem offerStepResult_keepsCounts (s : State) (n : NestId) : KeepsCounts s (s.offerStepResult n) := by
  simp only [State.offerStepResult]
  split
  · exact .refl s
  · split
    · exact (clearResult_keepsCounts s n).trans (keepsCounts_of_parts rfl rfl rfl rfl rfl)
    · exact (discardResult_keepsCounts s n).trans (setFlag_keepsCounts _ _)

theorem offerReady_keepsCounts (s : State) (p : Producer) : KeepsCounts s (s.offerReady p) := by
  simp only [State.offerReady]
  split
  · exact offer_keepsCounts s p
  · exact .refl s

theorem offerNest_keepsCounts (s : State) (n : NestId) : KeepsCounts s (s.offerNest n) := by
  rw [offerNest_eq]
  exact (offerStepResult_keepsCounts s n).trans (offerReady_keepsCounts _ _)

theorem offerRefDone_keepsCounts (s : State) (k : SlotId) : KeepsCounts s (s.offerRefDone k) := by
  rw [offerRefDone_eq]
  exact offerReady_keepsCounts s _

theorem offerSummary_keepsCounts (s : State) (k : SlotId) : KeepsCounts s (s.offerSummary k) := by
  rw [offerSummary_eq]
  exact offerReady_keepsCounts s _

theorem makeOffers_keepsCounts (s : State) : KeepsCounts s s.makeOffers := by
  have h1 := (dropResults_keepsCounts s).trans (foldl_keepsCounts offerNest_keepsCounts allNests _)
  have h2 := h1.trans (foldl_keepsCounts offerRefDone_keepsCounts allSlots _)
  exact h2.trans (foldl_keepsCounts offerSummary_keepsCounts allSlots _)

theorem completeLot_keepsCounts (s : State) (k : SlotId) : KeepsCounts s (s.completeLot k) :=
  ⟨fun h => h.lists (by simp) (by simp) fun hu => completeLot_units hu k, fun _ h => completeLot_units h k⟩

theorem endEvent_keepsCounts (s : State) : KeepsCounts s s.endEvent :=
  (foldl_keepsCounts completeLot_keepsCounts allSlots s).trans (makeOffers_keepsCounts _)

theorem endEvent_counts (h : CountsOk s) : CountsOk s.endEvent := (endEvent_keepsCounts s).counts h

end Sys2Proof.Machine
end

section
/-! PROOFS. The counting invariant under the moves of the blocks (R39, R62, R68–R77, R143–R156): windows, seats, the key, head loss, the
marking port, the parts of a tick, and a soft reset (R78, R126, R142, R156). -/

namespace Sys2Proof.Machine

variable {s t : State} {lf la lo : Word → Nat} {N N' : NestId → Nest}

/-! ### Windows and dwells (R69–R72) -/

theorem decideWindow_counts (h : CountsOk s) (n : NestId) : CountsOk (s.decideWindow n) := by
  simp only [State.decideWindow]
  split
  · refine modNest_counts_rest h n _ fun x => ?_
    simp only [Nest.decideWindow]
    split <;> exact ⟨rfl, rfl, rfl⟩
  · exact h

theorem endDwell_counts (h : CountsOk s) (n : NestId) : CountsOk (s.endDwell n) := by
  simp only [State.endDwell]
  exact modNest_counts_rest h n _ fun _ => by exact ⟨rfl, rfl, rfl⟩

theorem endStepFade_counts (h : CountsOk s) (n : NestId) : CountsOk (s.endStepFade n) := by
  simp only [State.endStepFade]
  exact modNest_counts_rest h n _ fun _ => by exact ⟨rfl, rfl, rfl⟩

theorem analyseFrame_counts (h : CountsOk s) (n : NestId) (inp : FrameInput) : CountsOk (s.analyseFrame n inp) := by
  simp only [State.analyseFrame]
  exact modNest_counts_rest h n _ fun _ => by exact ⟨rfl, rfl, rfl⟩

theorem addContact_counts (h : CountsOk s) (n : NestId) : CountsOk (s.addContact n) :=
  modRun_counts h n _ fun _ => by exact ⟨rfl, rfl, rfl, rfl⟩

theorem addDisturbed_counts (h : CountsOk s) (n : NestId) : CountsOk (s.addDisturbed n) :=
  modRun_counts h n _ fun _ => by exact ⟨rfl, rfl, rfl, rfl⟩

theorem modRun_phase (s : State) (n : NestId) (f : Run → Run) : ((s.modRun n f).nest n).phase = (s.nest n).phase := by
  simp [State.modRun]

theorem traceWindow_counts (h : CountsOk s) (n : NestId) (m : Measures) (o : StepOutcome) (cause : Nat) :
    CountsOk (s.traceWindow n m o cause) := by
  simp only [State.traceWindow]
  split
  · exact modNest_counts_rest h n _ fun _ => by exact ⟨rfl, rfl, rfl⟩
  · exact h

theorem traceWindow_phase (s : State) (n : NestId) (m : Measures) (o : StepOutcome) (cause : Nat) :
    ((s.traceWindow n m o cause).nest n).phase = (s.nest n).phase := by
  obtain ⟨out, ho⟩ := traceWindow_nest s n m o cause
  rw [ho, if_pos rfl]

theorem writeGolden_unit (r : Run) (x : Tables) (step : Nat) (lfc : Level) :
    (r.writeGolden x step lfc).kind = r.kind ∧ (r.writeGolden x step lfc).slot = r.slot ∧
      (r.writeGolden x step lfc).lotId = r.lotId ∧ (r.writeGolden x step lfc).serial = r.serial := by
  simp only [Run.writeGolden]
  split <;> exact ⟨rfl, rfl, rfl, rfl⟩

theorem judgeWindow_counts (h : CountsOk s) (n : NestId) (m : Measures) (ha : (s.nest n).phase.active = true) :
    CountsOk (s.judgeWindow n m) := by
  have hj : ∀ step j x lfc, CountsOk (s.modRun n fun r => (r.enter step j).writeGolden x step lfc) := fun step j x lfc =>
    modRun_counts h n _ fun r => by
      obtain ⟨h1, h2, h3, h4⟩ := writeGolden_unit (r.enter step j) x step lfc
      exact ⟨h1, h2, h3, h4⟩
  simp only [State.judgeWindow]
  split
  · exact endRun_counts (traceWindow_counts (hj _ _ _ _) n _ _ _) n _ (by rw [traceWindow_phase, modRun_phase]; exact ha)
  · exact traceWindow_counts (hj _ _ _ _) n _ _ _

theorem disturbWindow_counts (h : CountsOk s) (n : NestId) (m : Measures) (d : Disturbance)
    (ha : (s.nest n).phase.active = true) : CountsOk (s.disturbWindow n m d) := by
  have ht := traceWindow_counts h n m .disturbed d.value
  simp only [State.disturbWindow]
  split
  · exact modNest_counts_rest ht n _ fun _ => by exact ⟨rfl, rfl, rfl⟩
  · refine endRun_counts (addDisturbed_counts ht n) n _ ?_
    rw [State.addDisturbed, modRun_phase, traceWindow_phase]
    exact ha

theorem closeWindow_counts (h : CountsOk s) (n : NestId) (ha : (s.nest n).phase.active = true) : CountsOk (s.closeWindow n) := by
  have hc : ∀ clip, CountsOk (s.modNest n fun x =>
      { x with window := .closed, run := { x.run with clipSeen := x.run.clipSeen || clip } }) := fun clip =>
    modNest_counts_run h n _ fun _ => by exact ⟨rfl, rfl, rfl, rfl, rfl, rfl⟩
  have hp : ∀ clip, ((s.modNest n fun x =>
      { x with window := .closed, run := { x.run with clipSeen := x.run.clipSeen || clip } }).nest n).phase.active = true :=
    fun clip => by simpa using ha
  simp only [State.closeWindow]
  split
  · exact disturbWindow_counts (hc _) n _ _ (hp _)
  · split
    · refine endRun_counts (addContact_counts (traceWindow_counts (hc _) n _ _ _) n) n _ ?_
      rw [State.addContact, modRun_phase, traceWindow_phase]
      exact hp _
    · exact judgeWindow_counts (hc _) n _ (hp _)

theorem windowEndDue_active {n : NestId} (h : s.windowEndDue n = true) : (s.nest n).phase.active = true := by
  simp only [State.windowEndDue, Bool.and_eq_true, beq_iff_eq] at h
  simp [h, Phase.active]

theorem fadeEnded_counts (h : CountsOk s) (n : NestId) : CountsOk (s.fadeEnded n) := by
  simp only [State.fadeEnded]
  split
  · rename_i hp
    refine modNest_counts h n _ ⟨?_, rfl, rfl, rfl, rfl⟩ fun _ _ => .inr rfl
    rw [eq_of_beq hp]
    rfl
  · exact h

theorem moveStep_counts (h : CountsOk s) (n : NestId) : CountsOk (s.moveStep n) := by
  have ha : CountsOk (if s.windowEndDue n then s.closeWindow n else s) := by
    split
    · rename_i hw
      exact closeWindow_counts h n (windowEndDue_active hw)
    · exact h
  generalize he : (if s.windowEndDue n then s.closeWindow n else s) = a at ha
  simp only [State.moveStep, he]
  (repeat' split)
  · exact h
  · exact endDwell_counts ha n
  · exact modEngine_counts ha n _
  · exact ha

theorem moveOn_counts (h : CountsOk s) (n : NestId) : CountsOk (s.moveOn n) := by
  simp only [State.moveOn]
  (repeat' split)
  · exact h
  · exact moveStep_counts h n
  · exact endStepFade_counts h n
  · exact modEngine_counts h n _
  · exact fadeEnded_counts h n
  · exact modEngine_counts h n _

theorem nestFrame_counts (h : CountsOk s) (n : NestId) (inp : FrameInput) : CountsOk (s.nestFrame n inp) :=
  moveOn_counts (modEngine_counts (analyseFrame_counts h n inp) n _) n

/-! ### Seats, key, head loss (R39, R68, R74, R77, R79) -/

theorem seat_counts (h : CountsOk s) (n : NestId) (d : Debounce) : CountsOk (s.modNest n fun x => { x with seat := d }) :=
  modNest_counts_rest h n _ fun _ => by exact ⟨rfl, rfl, rfl⟩

theorem seatClosed_counts (h : CountsOk s) (n : NestId) : CountsOk (s.seatClosed n) := by
  have ht := seat_counts h n (.settled true)
  simp only [State.seatClosed, State.becomeRunning]
  split
  · rename_i hp
    have ha := eq_of_beq hp
    refine modNest_counts ht n _ ⟨by rw [ha]; rfl, rfl, rfl, rfl, rfl⟩ fun hv hn => absurd (hv.of_active ?_) hn
    rw [ha]; rfl
  · exact ht

theorem seatOpened_counts (h : CountsOk s) (n : NestId) : CountsOk (s.seatOpened n) := by
  have ht := seat_counts h n (.settled false)
  simp only [State.seatOpened]
  split
  · rename_i hp
    refine endRun_counts (addContact_counts ht n) n _ ?_
    rw [State.addContact, modRun_phase, eq_of_beq hp]
    rfl
  · exact ht

theorem seatTimedOut_counts (h : CountsOk s) (n : NestId) : CountsOk (s.seatTimedOut n) := by
  simp only [State.seatTimedOut]
  split
  · rename_i hp
    refine endRun_counts (addContact_counts (modRun_counts h n _ fun _ => by exact ⟨rfl, rfl, rfl, rfl⟩) n) n _ ?_
    rw [State.addContact, modRun_phase, modRun_phase, eq_of_beq hp]
    rfl
  · exact h

theorem setProt_counts (h : CountsOk s) (p : Protection) : CountsOk { s with prot := p } := h.of_parts rfl rfl rfl rfl rfl

theorem setAmb_counts (h : CountsOk s) (a : Ambient) : CountsOk { s with amb := a } := h.of_parts rfl rfl rfl rfl rfl

theorem keyTurnedOff_counts (h : CountsOk s) : CountsOk s.keyTurnedOff := by
  refine foldl_keeps (P := CountsOk) (fun u n hu => modNest_counts_rest hu n _ fun x => ?_) allNests _ (setProt_counts h _)
  simp only [Nest.keyTurnedOff]
  split <;> exact ⟨rfl, rfl, rfl⟩

theorem loseNest_counts (h : CountsOk s) (n : NestId) : CountsOk (s.loseNest n) := by
  simp only [State.loseNest]
  split
  · rename_i hp
    exact endRun_counts h n _ (by rw [hp]; rfl)
  · rename_i hp
    exact endRun_counts h n _ (by rw [hp]; rfl)
  · rename_i hp
    exact modNest_counts h n _ ⟨by rw [hp]; rfl, rfl, rfl, rfl, rfl⟩ fun _ _ => .inr rfl
  · exact h
  · exact h

theorem loseHead_counts (h : CountsOk s) : CountsOk s.loseHead :=
  foldl_keeps (P := CountsOk) (fun _ n hu => loseNest_counts hu n) allNests _ (setFlag_counts (modLnk_counts h _) _)

/-! ### The marking port (R146–R155) -/

theorem resolveLabel_counts (h : CountsOk s) (i : Nat) (marked fault : Bool) : CountsOk (s.resolveLabel i marked fault) :=
  h.lists (by simp) (by simp) fun hu => resolveLabel_units hu i marked fault

theorem resolveIssued_counts (h : CountsOk s) (marked : Bool) : CountsOk (s.resolveIssued marked) := by
  simp only [State.resolveIssued]
  split
  · exact resolveLabel_counts h _ _ _
  · exact h

/-- The records keep their kinds and lots, and at most one is ISSUED. -/
theorem relabel_units (h : Units lf la lo N s) {rs : List Label}
    (hr : rs.map (fun r => (r.kind, r.lotId)) = s.mrk.records.map fun r => (r.kind, r.lotId))
    (hi : rs.countP (·.issued) ≤ 1) (f : Marking → Marking) (hf : (f s.mrk).records = rs) :
    Units lf la lo N (s.modMrk f) := by
  have hu : ∀ l : List Label, labelUnits l = fun x => (l.map fun r => (r.kind, r.lotId)).countP fun p => p.1 != .retest && p.2 == x :=
    fun l => funext fun x => by simp only [labelUnits, List.countP_map, Function.comp_def]
  have hlen : rs.length = s.mrk.records.length := by simpa using congrArg List.length hr
  exact
    { ledger := (h.ledger.congr (t := s.modMrk f) (sameTally_of_lots rfl)).of_eq (fun _ => rfl)
        (fun x => by simp only [modMrk_mrk, hf, hu, hr]) fun _ => rfl
      runs := h.runs
      labels := fun r hr' hk => by
        rw [modMrk_mrk, hf] at hr'
        have hm : (r.kind, r.lotId) ∈ s.mrk.records.map fun r => (r.kind, r.lotId) :=
          hr ▸ List.mem_map_of_mem (f := fun r : Label => (r.kind, r.lotId)) hr'
        obtain ⟨q, hq, e⟩ := List.mem_map.mp hm
        obtain ⟨e1, e2⟩ := Prod.mk.inj e
        obtain ⟨k, hk⟩ := h.labels q hq (e1 ▸ hk)
        exact ⟨k, e2 ▸ hk⟩
      entries := h.entries
      entrySerials := h.entrySerials
      runSerials := h.runSerials
      runEntries := h.runEntries
      room := ⟨h.room.1, by rw [modMrk_mrk, hf, hlen]; exact h.room.2⟩
      issued := by rw [modMrk_mrk, hf]; exact hi }

theorem ageRecords_counts (h : CountsOk s) : CountsOk (s.modMrk Marking.ageRecords) :=
  h.lists rfl rfl fun hu => relabel_units hu (rs := s.mrk.records.map fun r => { r with age := r.age + 1 })
    (by simp [Function.comp_def]) (by simpa [List.countP_map, Function.comp_def] using hu.issued) _ rfl

theorem issueAt_kinds (rs : List Label) (i : Nat) :
    (issueAt rs i).map (fun r => (r.kind, r.lotId)) = rs.map fun r => (r.kind, r.lotId) := by
  refine List.ext_getElem? fun j => ?_
  simp only [issueAt, List.getElem?_map, List.getElem?_modify]
  split
  · cases rs[j]? <;> rfl
  · simp

theorem issueAt_issued (rs : List Label) (i : Nat) : (issueAt rs i).countP (·.issued) ≤ rs.countP (·.issued) + 1 := by
  induction rs generalizing i with
  | nil => simp [issueAt]
  | cons r rs ih =>
    cases i with
    | zero => simp [issueAt, List.countP_cons]
    | succ i =>
      have := ih i
      simp only [issueAt, List.modify_succ_cons, List.countP_cons] at this ⊢
      omega

theorem requestRising_counts (h : CountsOk s) (n : NestId) : CountsOk (s.requestRising n) := by
  have hr := resolveIssued_counts h false
  have h0 := resolveIssued_none (countsOk_iff.mp h).1.issued false
  simp only [State.requestRising, State.answerRequest]
  split
  · rename_i i _
    refine hr.lists rfl rfl fun hu => relabel_units hu (issueAt_kinds _ i) ?_ _ rfl
    have := issueAt_issued (s.resolveIssued false).mrk.records i
    omega
  · exact modMrk_counts hr _ (by rfl)

theorem strayResult_counts (h : CountsOk s) : CountsOk s.strayResult := setFlag_counts (modMrk_counts h _ (by rfl)) _

theorem markedRising_counts (h : CountsOk s) : CountsOk s.markedRising := by
  simp only [State.markedRising]
  split
  · exact resolveIssued_counts h true
  · exact strayResult_counts h

theorem jamRising_counts (h : CountsOk s) : CountsOk s.jamRising := by
  simp only [State.jamRising]
  split
  · exact resolveIssued_counts h false
  · exact strayResult_counts h

theorem expireLabel_counts (h : CountsOk s) (i : Nat) : CountsOk (s.expireLabel i) := by
  simp only [State.expireLabel]
  (repeat' split)
  · exact h
  · exact resolveLabel_counts h _ _ _
  · exact h

/-! ### A tick -/

theorem resolveOverdue_counts (fuel : Nat) : ∀ {s : State}, CountsOk s → CountsOk (State.resolveOverdue fuel s) := by
  induction fuel with
  | zero => exact fun h => h
  | succ fuel ih =>
    intro s h
    simp only [State.resolveOverdue]
    split
    · exact ih (resolveLabel_counts h _ _ _)
    · exact h

theorem tickLabels_counts (h : CountsOk s) : CountsOk s.tickLabels := resolveOverdue_counts _ (ageRecords_counts h)

theorem periodExpiry_counts (h : CountsOk s) : CountsOk s.periodExpiry :=
  h.of_parts (by simp) (by simp) (by simp) (by simp) (by simp)

theorem tickNotices_counts (h : CountsOk s) : CountsOk s.tickNotices := by
  simp only [State.tickNotices]
  (repeat' split)
  · exact h
  · exact periodExpiry_counts (modNtc_counts h _)
  · exact modNtc_counts h _

theorem tickKey_counts (h : CountsOk s) : CountsOk s.tickKey := by
  have ht : ∀ p, CountsOk { s with prot := p } := setProt_counts h
  simp only [State.tickKey]
  (repeat' split)
  · exact setProt_counts (ht _) _
  · exact keyTurnedOff_counts (ht _)
  · exact ht _

theorem tickSeat_counts (h : CountsOk s) (n : NestId) : CountsOk (s.tickSeat n) := by
  have ht := fun d => seat_counts h n d
  simp only [State.tickSeat]
  (repeat' split)
  · exact seatClosed_counts (ht _) n
  · exact seatOpened_counts (ht _) n
  · exact ht _

theorem tickMarking_counts (h : CountsOk s) : CountsOk s.tickMarking := by
  have ha : CountsOk (s.modMrk Marking.sampleInputs) := modMrk_counts h _ rfl
  have hb : ∀ {u : State} {c : Bool}, CountsOk u → CountsOk (if c then u.markedRising else u) := fun hu => by
    split
    · exact markedRising_counts hu
    · exact hu
  have hc : ∀ {u : State} {c : Bool}, CountsOk u → CountsOk (if c then u.jamRising else u) := fun hu => by
    split
    · exact jamRising_counts hu
    · exact hu
  simp only [State.tickMarking]
  refine hc (hb ?_)
  (repeat' split)
  · exact requestRising_counts ha _
  · exact modMrk_counts ha _ (by rfl)
  · exact ha

theorem tickPresence_counts (h : CountsOk s) : CountsOk s.tickPresence := by
  simp only [State.tickPresence]
  (repeat' split)
  · exact loseHead_counts h
  · exact modLnk_counts h _
  · exact h

theorem tickSeatTimer_counts (h : CountsOk s) (n : NestId) : CountsOk (s.tickSeatTimer n) := by
  simp only [State.tickSeatTimer]
  (repeat' split)
  · exact seatTimedOut_counts h n
  · exact modRun_counts h n _ fun _ => by exact ⟨rfl, rfl, rfl, rfl⟩
  · exact h

theorem tick_counts (h : CountsOk s) : CountsOk s.tick := by
  have ha : CountsOk (allNests.foldl State.tickSeat s.tickNotices.tickLabels.tickKey) :=
    foldl_keeps (P := CountsOk) (fun _ n hu => tickSeat_counts hu n) allNests _
      (tickKey_counts (tickLabels_counts (tickNotices_counts h)))
  have h3 := tickPresence_counts (tickMarking_counts ha)
  exact endEvent_counts (foldl_keeps (P := CountsOk) (fun _ n hu => tickSeatTimer_counts hu n) allNests _ h3)

/-! ### A soft reset -/

theorem softReset_inactive (x : Nest) : x.softReset.phase.active = false := by
  simp only [Nest.softReset]
  split
  · rename_i hp
    rw [eq_of_beq hp]; rfl
  · rfl

/-- A nest that a soft reset takes: a counted run's unit has left (R142). -/
theorem softResetNest_units (h : Units 0 0 0 s.nest s) (n : NestId) : Units 0 0 0 (s.softResetNest n).nest (s.softResetNest n) := by
  have hleft := h.leave n (softReset_inactive (s.nest n))
  have hn : (s.softResetNest n).nest = Function.update s.nest n (s.nest n).softReset := by
    funext m
    rw [softResetNest_nest]
    by_cases e : n = m
    · subst e; simp
    · rw [if_neg e, Function.update_of_ne (Ne.symm e)]
  rw [hn]
  simp only [State.softResetNest]
  split
  · rename_i hc
    rw [units_of_counts (x := s.nest n) hc] at hleft
    exact (reportAborted_units (hleft.of_loose (fun _ => rfl) (fun _ => rfl) fun _ => rfl)).of_parts rfl rfl rfl
  · rename_i hc
    rw [units_of_not_counts (x := s.nest n) ((Bool.not_eq_true _).mp hc)] at hleft
    exact (hleft.of_loose (fun _ => rfl) (fun _ => rfl) fun _ => rfl).of_parts rfl rfl rfl

theorem resetLabels_counts (fuel : Nat) : ∀ {s : State}, CountsOk s → CountsOk (State.resetLabels fuel s) := by
  induction fuel with
  | zero => exact fun h => h
  | succ fuel ih => exact fun h => ih (resolveLabel_counts h _ _ _)

theorem withdrawVerdicts_counts (h : CountsOk s) : CountsOk s.withdrawVerdicts :=
  foldl_keeps (P := CountsOk) (fun _ n hu => modNest_counts hu n _ (sameUnit_of_run (by rfl) (by rfl))
    fun _ hn => absurd rfl hn) allNests _ h

theorem softFilled_counts (h : CountsOk s) (scope : BitVec 4) (tag : BitVec 8) : CountsOk (s.softFilled scope tag) := by
  have h1 : CountsOk (s.softCleared scope tag) := withdrawVerdicts_counts (modNtc_counts (reply_counts (modLnk_counts h Link.softReset) .softReset scope tag .ok [])
    Notices.softReset)
  have h2 : CountsOk (s.softCleared scope tag).admitNotice := h1.of_parts (by simp) (by simp) (by simp) (by simp) (by simp)
  exact modNtc_counts ((fillPlaces_keepsCounts _).counts h2) _

theorem softResetTables_counts (h : CountsOk s) : CountsOk s.softResetTables := by
  have ht : CountsOk { s with buffers := Vector.replicate 2 none } := h.of_parts rfl rfl rfl rfl rfl
  unfold State.softResetTables
  exact foldl_keeps (P := CountsOk) (fun _ k hu => cancelCapture_counts hu k .softReset) allSlots _ ht

theorem softReset_verdictOut (x : Nest) : x.softReset.verdictOut = x.verdictOut := by
  simp only [Nest.softReset]
  split <;> rfl

theorem Unbinds.verdictOut (h : Unbinds s t) (n : NestId) : (t.nest n).verdictOut = (s.nest n).verdictOut :=
  (h n).same.fields.2.2.2.2.2.2.2.2.1

theorem softResetBlocks_counts (h : CountsOk s) (hv : ∀ n, (s.nest n).verdictOut = none) : CountsOk s.softResetBlocks := by
  have ht := softResetTables_counts h
  have hu := foldl_keeps (P := fun u => Units 0 0 0 u.nest u) (fun _ n hu => softResetNest_units hu n) allNests _
    (countsOk_iff.mp ht).1
  generalize ha : allNests.foldl State.softResetNest s.softResetTables = a at hu
  have hn : ∀ n, a.nest n = (s.softResetTables.nest n).softReset := fun n => by rw [← ha, softResetNests_nest]
  obtain ⟨-, -, -, cn, -, cr, cm, cl, -, -⟩ := clearOccupancy_frame a
  have hb : CountsOk a.clearOccupancy := by
    refine countsOk_iff.mpr ⟨?_, fun k => ?_, fun n hne => ?_⟩
    · rw [funext fun n => nest_congr cn n]
      exact hu.of_parts cl cr cm
    · rw [clearOccupancy_slot, State.occupants]
      simp only [nest_congr cn, hn, softReset_inactive, Bool.false_and, List.filter_false, List.length_nil]
    · rw [nest_congr cn, hn, softReset_verdictOut, (softResetTables_unbinds s).verdictOut, hv n] at hne
      exact absurd rfl hne
  simp only [State.softResetBlocks, State.softResetMarking, ha]
  exact modMrk_counts (resetLabels_counts _ (setAmb_counts hb _)) _ rfl

theorem takeSoftReset_counts (h : CountsOk s) (scope : BitVec 4) (tag : BitVec 8) : CountsOk (takeSoftReset scope tag s) := by
  rw [takeSoftReset_eq]
  have hb := endEvent_counts (softResetBlocks_counts (softFilled_counts h scope tag) fun n => by rw [softFilled_nest])
  simp only [State.settleNotice]
  (repeat' split)
  · exact hb.of_parts (by simp) (by simp) (by simp) (by simp) (by simp)
  · exact modNtc_counts hb _
  · exact hb
  · exact hb

end Sys2Proof.Machine
end

section
/-! PROOFS. The counting invariant under the owners of the messages, the assembler, the head frame, and every row (R10, R1). -/

namespace Sys2Proof.Machine

variable {s t : State}

/-! ### The owners of the messages (R10) -/

theorem takeStatus_counts (h : CountsOk s) (scope : BitVec 4) (tag : BitVec 8) (w : Word) :
    CountsOk (takeStatus scope tag w s) := by
  simp only [takeStatus]
  exact modLnk_counts (modNtc_counts (reply_counts h _ _ _ _ _) _) _

theorem takeNoticeSet_counts (h : CountsOk s) (scope : BitVec 4) (tag : BitVec 8) (w : Word) :
    CountsOk (takeNoticeSet scope tag w s) := by
  simp only [takeNoticeSet]
  split
  · exact reply_counts h _ _ _ _ _
  · exact reply_counts (modNtc_counts h _) _ _ _ _ _

theorem takeTapSelect_counts (h : CountsOk s) (scope : BitVec 4) (tag : BitVec 8) (w : Word) :
    CountsOk (takeTapSelect scope tag w s) := by
  simp only [takeTapSelect]
  split
  · exact reply_counts h _ _ _ _ _
  · exact reply_counts (modLnk_counts h _) _ _ _ _ _

theorem takeStageOpen_counts (h : CountsOk s) (scope : BitVec 4) (tag : BitVec 8) (w : Word) :
    CountsOk (takeStageOpen scope tag w s) := by
  simp only [takeStageOpen]
  split
  · exact reply_counts (setBuffer_counts h _ _) _ _ _ _ _
  · exact reply_counts h _ _ _ _ _

theorem takeStageRows_counts (h : CountsOk s) (scope : BitVec 4) (tag : BitVec 8) (body : List Word) :
    CountsOk (takeStageRows scope tag body s) := by
  simp only [takeStageRows]
  split
  · exact reply_counts (setBuffer_counts h _ _) _ _ _ _ _
  · exact reply_counts h _ _ _ _ _

theorem commit_counts (h : CountsOk s) (k : SlotId) (b : Fin 2) (scope : BitVec 4) (tag : BitVec 8) :
    CountsOk (s.commit k b scope tag) := by
  simp only [State.commit]
  split
  · exact reply_counts (swap_counts h k) _ _ _ _ _
  · exact reply_counts (setBuffer_counts h _ _) _ _ _ _ _

theorem takeStageCommit_counts (h : CountsOk s) (scope : BitVec 4) (tag : BitVec 8) :
    CountsOk (takeStageCommit scope tag s) := by
  simp only [takeStageCommit]
  (repeat' split)
  · exact reply_counts h _ _ _ _ _
  · exact reply_counts h _ _ _ _ _
  · exact queueReply_counts h _
  · exact commit_counts h _ _ scope tag
  · exact reply_counts h _ _ _ _ _

theorem takeStageDiscard_counts (h : CountsOk s) (scope : BitVec 4) (tag : BitVec 8) :
    CountsOk (takeStageDiscard scope tag s) := by
  simp only [takeStageDiscard]
  (repeat' split)
  · exact reply_counts h _ _ _ _ _
  · exact reply_counts h _ _ _ _ _
  · exact reply_counts (setBuffer_counts h _ _) _ _ _ _ _

theorem takeReadRows_counts (h : CountsOk s) (scope : BitVec 4) (tag : BitVec 8) (w : Word) :
    CountsOk (takeReadRows scope tag w s) := by
  simp only [takeReadRows]
  (repeat' split) <;> exact reply_counts h _ _ _ _ _

theorem takeProtectRange_counts (h : CountsOk s) (scope : BitVec 4) (tag : BitVec 8) (w : Word) :
    CountsOk (takeProtectRange scope tag w s) := by
  simp only [takeProtectRange]
  (repeat' split)
  · exact reply_counts h _ _ _ _ _
  · exact reply_counts h _ _ _ _ _
  · exact reply_counts (setProt_counts h _) _ _ _ _ _

theorem takeProtectAll_counts (h : CountsOk s) (scope : BitVec 4) (tag : BitVec 8) :
    CountsOk (takeProtectAll scope tag s) := by
  simp only [takeProtectAll]
  split
  · exact reply_counts h _ _ _ _ _
  · exact reply_counts (setProt_counts h _) _ _ _ _ _

theorem takeFreeze_counts (h : CountsOk s) (scope : BitVec 4) (tag : BitVec 8) : CountsOk (takeFreeze scope tag s) :=
  reply_counts (setProt_counts h _) _ _ _ _ _

theorem takeNestConfig_counts (h : CountsOk s) (scope : BitVec 4) (tag : BitVec 8) (w0 w1 : Word) :
    CountsOk (takeNestConfig scope tag w0 w1 s) := by
  simp only [takeNestConfig]
  split
  · exact reply_counts (modNest_counts_rest h _ _ fun _ => by exact ⟨rfl, rfl, rfl⟩) _ _ _ _ _
  · exact reply_counts h _ _ _ _ _

/-- A request that passes START's checks names a slot (R66). -/
theorem startCheck_ok_slot {n : NestId} {r : StartRequest} (h : startCheck s n r = .ok) : r.slot = (Fin.ofNat 8 r.slot).val := by
  have hr : ¬ 7 < r.slot := fun hlt => by simp [startCheck, startCheck_idle h, hlt] at h
  simp only [Fin.ofNat]
  omega

theorem takeStart_counts (h : CountsOk s) (scope : BitVec 4) (tag : BitVec 8) (w0 w1 : Word) :
    CountsOk (takeStart scope tag w0 w1 s) := by
  simp only [takeStart]
  split
  · rename_i hc
    have hok := eq_of_beq hc
    exact reply_counts (startRun_counts h (startCheck_ok_slot hok) hok) _ _ _ _ _
  · exact reply_counts h _ _ _ _ _

theorem takeAbort_counts (h : CountsOk s) (scope : BitVec 4) (tag : BitVec 8) : CountsOk (takeAbort scope tag s) := by
  simp only [takeAbort]
  split
  · rename_i ha
    exact reply_counts (endRun_counts h _ _ ha) _ _ _ _ _
  · exact reply_counts h _ _ _ _ _

theorem takeAmbientConfig_counts (h : CountsOk s) (scope : BitVec 4) (tag : BitVec 8) (w : Word) :
    CountsOk (takeAmbientConfig scope tag w s) := by
  simp only [takeAmbientConfig]
  split
  · exact reply_counts h _ _ _ _ _
  · exact reply_counts (setAmb_counts h _) _ _ _ _ _

theorem takeRefBegin_counts (h : CountsOk s) (scope : BitVec 4) (tag : BitVec 8) (w : Word) :
    CountsOk (takeRefBegin scope tag w s) := by
  simp only [takeRefBegin]
  split
  · exact reply_counts (modSlot_counts h _ _ fun _ => by rfl) _ _ _ _ _
  · exact reply_counts h _ _ _ _ _

theorem takeRefCancel_counts (h : CountsOk s) (scope : BitVec 4) (tag : BitVec 8) : CountsOk (takeRefCancel scope tag s) := by
  simp only [takeRefCancel]
  split
  · exact reply_counts h _ _ _ _ _
  · exact reply_counts (cancelCapture_counts h _ _) _ _ _ _ _

theorem lotOpenCheck_ok {k : SlotId} {id : Word} (h : lotOpenCheck s k id = .ok) : s.lot k = none ∧ s.lotSlot id = none := by
  simp only [lotOpenCheck] at h
  split at h
  · cases h
  · split at h
    · cases h
    · split at h
      · cases h
      · rename_i h1 _ h2
        exact ⟨by simpa using h1, by simpa using h2⟩

theorem takeLotOpen_counts (h : CountsOk s) (scope : BitVec 4) (tag : BitVec 8) (id : Word) :
    CountsOk (takeLotOpen scope tag id s) := by
  simp only [takeLotOpen]
  split
  · rename_i hc
    obtain ⟨hk, hid⟩ := lotOpenCheck_ok (eq_of_beq hc)
    have hset := h.lists (t := s.setLot (slotOf scope) (some (Lot.opened id (s.slot (slotOf scope)).generation))) rfl rfl
      fun hu => openLot_units hu hk hid _
    exact reply_counts hset _ _ _ _ _
  · exact reply_counts h _ _ _ _ _

theorem closeLot_counts (h : CountsOk s) (k : SlotId) : CountsOk (s.modLot k fun l => { l with closing := true }) :=
  h.lists rfl rfl fun hu => restateLot_units hu (fun _ => ⟨rfl, rfl, rfl, rfl, Iff.rfl⟩)
    fun l hl hs => ⟨rfl, (hu.ledger.summaries k l hl hs).2⟩

theorem takeLotClose_counts (h : CountsOk s) (scope : BitVec 4) (tag : BitVec 8) : CountsOk (takeLotClose scope tag s) := by
  simp only [takeLotClose]
  split
  · exact reply_counts h _ _ _ _ _
  · rename_i l hl
    split
    · exact reply_counts h _ _ _ _ _
    · have hset := closeLot_counts h (slotOf scope)
      rw [State.modLot, hl] at hset
      exact reply_counts hset _ _ _ _ _

theorem takeLotQuery_counts (h : CountsOk s) (scope : BitVec 4) (tag : BitVec 8) : CountsOk (takeLotQuery scope tag s) := by
  simp only [takeLotQuery]
  split <;> exact reply_counts h _ _ _ _ _

theorem takeMarkConfig_counts (h : CountsOk s) (scope : BitVec 4) (tag : BitVec 8) (w : Word) :
    CountsOk (takeMarkConfig scope tag w s) := by
  simp only [takeMarkConfig]
  split
  · exact reply_counts (modMrk_counts h _ (by simp only [Marking.configure]; split <;> rfl)) _ _ _ _ _
  · exact reply_counts h _ _ _ _ _

/-- The owner of every kind (R10). -/
theorem takeMessage_counts (h : CountsOk s) (k : Kind) (scope : BitVec 4) (tag : BitVec 8) (body : List Word) :
    CountsOk (takeMessage k scope tag body s) := by
  cases k with
  | softReset => exact takeSoftReset_counts h scope tag
  | hello | protectQuery | nestQuery | retestQuery => exact reply_counts h _ _ _ _ _
  | status => exact takeStatus_counts h _ _ _
  | noticeSet => exact takeNoticeSet_counts h _ _ _
  | tapSelect => exact takeTapSelect_counts h _ _ _
  | stageOpen => exact takeStageOpen_counts h _ _ _
  | stageRows => exact takeStageRows_counts h _ _ _
  | stageCommit => exact takeStageCommit_counts h _ _
  | stageDiscard => exact takeStageDiscard_counts h _ _
  | readRows => exact takeReadRows_counts h _ _ _
  | protectRange => exact takeProtectRange_counts h _ _ _
  | protectAll => exact takeProtectAll_counts h _ _
  | freeze => exact takeFreeze_counts h _ _
  | nestConfig => exact takeNestConfig_counts h _ _ _ _
  | start => exact takeStart_counts h _ _ _ _
  | abort => exact takeAbort_counts h _ _
  | ambientConfig => exact takeAmbientConfig_counts h _ _ _
  | refBegin => exact takeRefBegin_counts h _ _ _
  | refCancel => exact takeRefCancel_counts h _ _
  | lotOpen => exact takeLotOpen_counts h _ _ _
  | lotClose => exact takeLotClose_counts h _ _
  | lotQuery => exact takeLotQuery_counts h _ _
  | markConfig => exact takeMarkConfig_counts h _ _ _

theorem overrun_counts (h : CountsOk s) : CountsOk (s.countOverrun.setFlag .linkFault) :=
  setFlag_counts (modLnk_counts h _) _

theorem complete_counts (h : CountsOk s) (k : Kind) (scope : BitVec 4) (tag : BitVec 8) (body : List Word) (len : Nat) (ok : Bool) :
    CountsOk (s.complete k scope tag len ok (takeMessage k scope tag body)) := by
  rcases complete_cases s k scope tag len ok (takeMessage k scope tag body) with he | ⟨-, code, he⟩ | ⟨-, he⟩ <;> rw [he]
  · exact overrun_counts h
  · exact reply_counts h _ _ _ _ _
  · exact takeMessage_counts h _ _ _ _

/-! ### The assembler and the head frame -/

theorem completeUnknown_counts (h : CountsOk s) (kind : BitVec 8) (scope : BitVec 4) (tag : BitVec 8) :
    CountsOk (s.completeUnknown kind scope tag) := by
  simp only [State.completeUnknown]
  split
  · exact overrun_counts h
  · exact queueReply_counts h _

theorem completeMessage_counts (h : CountsOk s) (words : List Word) (check : Word) : CountsOk (s.completeMessage words check) := by
  simp only [State.completeMessage]
  split
  · exact complete_counts h _ _ _ _ _ _
  · exact completeUnknown_counts h _ _ _

theorem assemble_counts (h : CountsOk s) (w : Word) : CountsOk (s.assemble w) := by
  unfold State.assemble
  split
  · split
    · exact h
    · split
      · exact modLnk_counts h _
      · exact linkError_counts h
  · exact modLnk_counts h _
  · exact completeMessage_counts (modLnk_counts h _) _ _

theorem arriveHead_counts (h : CountsOk s) (f : HeadFrame) : CountsOk (s.arriveHead f) := by
  simp only [State.arriveHead]
  split
  · exact setFlag_counts (modLnk_counts (modLnk_counts h _) _) _
  · exact modLnk_counts h _

theorem consumeLine_counts (h : CountsOk s) : CountsOk s.consumeLine :=
  assemble_counts (modLnk_counts h fun l => { l with store := none }) s.lnk.consumed.control

theorem turnLoud_counts (h : CountsOk s) : CountsOk s.turnLoud := setFlag_counts (setAmb_counts h _) _

theorem hearFrame_counts (h : CountsOk s) (c : Channel) : CountsOk (s.hearFrame c) := by
  simp only [State.hearFrame, State.countFrame]
  (repeat' split)
  · exact setAmb_counts h _
  · exact turnLoud_counts h
  · exact setAmb_counts h _
  · exact setAmb_counts h _
  · exact setAmb_counts h _
  · exact setAmb_counts h _

theorem nextControl_counts (h : CountsOk s) : CountsOk s.nextControl.2 := by
  unfold State.nextControl
  split <;> dsimp only
  · exact modLnk_counts h _
  · exact modLnk_counts h _
  · exact (fillPlaces_keepsCounts _).counts (modLnk_counts h _)
  · exact h

theorem sendFrames_counts (h : CountsOk s) (f : HeadFrame) (aux : Word) : CountsOk (s.sendFrames f aux) := by
  rw [sendFrames_eq]
  exact modLnk_counts (nextControl_counts h) _

theorem headFrame_counts (h : CountsOk s) (f : HeadFrame) : CountsOk (s.headFrame f) := by
  have hb : CountsOk (allNests.foldl State.decideWindow ((s.arriveHead f).consumeLine.hearFrame (frameChannel f 8))) :=
    foldl_keeps (P := CountsOk) (fun _ n hu => decideWindow_counts hu n) allNests _
      (hearFrame_counts (consumeLine_counts (arriveHead_counts h f)) _)
  exact endEvent_counts (foldl_keeps (P := CountsOk) (fun _ n hu => nestFrame_counts hu n _) allNests _ (sendFrames_counts hb f _))

/-! ### Every row -/

/-- A fresh state holds no unit. -/
theorem countsOk_of_fresh (hn : ∀ n, s.nest n = { Nest.initial false with seat := (s.nest n).seat }) (hs : ∀ k, s.slot k = .initial)
    (hl : ∀ k, s.lot k = none) (hr : s.retest = []) (hm : s.mrk.records = []) : CountsOk s := by
  have hi : ∀ n, (s.nest n).phase.active = false := fun n => by rw [hn]; rfl
  have hc : ∀ n, (s.nest n).counts = false := fun n => not_counts_of_inactive (hi n)
  refine countsOk_iff.mpr ⟨?_, fun k => ?_, fun n h => ?_⟩
  · exact
      { ledger := ⟨fun k l h => (by rw [hl] at h; cases h), fun k l h => (by rw [hl] at h; cases h),
          fun j k l m h => (by rw [hl] at h; cases h)⟩
        runs := fun n h => (by rw [hc] at h; cases h)
        labels := fun r h => (by rw [hm] at h; cases h)
        entries := fun e h => (by rw [hr] at h; cases h)
        entrySerials := by simp [hr]
        runSerials := fun m n _ h => (by rw [hi] at h; cases h)
        runEntries := fun n h => (by rw [hc] at h; cases h)
        room := by simp [hr, hm]
        issued := by simp [hm] }
  · simp only [hs, State.occupants, hi, Bool.false_and, List.filter_false, List.length_nil]
    rfl
  · rw [hn] at h
    exact absurd rfl h

theorem powerOn_counts (strap : Bool) (s : State) : CountsOk ((State.blank strap).keepInputs s).askNotice := by
  have hb : CountsOk ((State.blank strap).keepInputs s) := countsOk_of_fresh (fun n => by rw [nest_keepInputs, nest_blank])
    (fun k => by rw [slot_congr (s := State.blank strap) (by rfl), slot_blank])
    (fun k => by rw [lot_congr (s := State.blank strap) (by rfl), lot_blank]) rfl rfl
  exact hb.of_parts (by simp) (by simp) (by simp) (by simp) (by simp)

theorem receiveLine_counts (h : CountsOk s) (word0 control aux : Word) : CountsOk (s.receiveLine word0 control aux) := by
  simp only [State.receiveLine]
  (repeat' split)
  · exact h
  · exact linkError_counts h
  · exact linkError_counts (modLnk_counts h _)
  · exact modLnk_counts h _

theorem ite_counts {c : Prop} [Decidable c] {u v : State} (hu : CountsOk u) (hv : CountsOk v) : CountsOk (if c then u else v) := by
  split
  · exact hu
  · exact hv

/-- The rows that are no command. -/
theorem event_counts (h : CountsOk s) (i : Instr) (hi : i.message = none) : ∃ t, exec i s = .next t ∧ CountsOk t := by
  cases i with
  | hello | status | noticeSet | softReset | tapSelect | stageOpen | stageRows | stageCommit | stageDiscard | readRows
  | protectRange | protectAll | freeze | protectQuery | nestConfig | start | abort | nestQuery | ambientConfig | refBegin
  | refCancel | lotOpen | lotClose | lotQuery | retestQuery | markConfig => simp [Instr.message] at hi
  | powerOn strap => exact ⟨_, rfl, powerOn_counts strap s⟩
  | headFrame f => exact ⟨_, rfl, headFrame_counts h f⟩
  | lineFrame a b c => exact ⟨_, rfl, receiveLine_counts h a b c⟩
  | waitLineAdmit => exact ⟨_, rfl, (admitHead_keepsCounts s).counts h⟩
  | headLoss =>
    simp only [exec, execHeadLoss]
    split
    · exact ⟨_, rfl, endEvent_counts (loseHead_counts h)⟩
    · exact ⟨_, rfl, h⟩
  | deferredSwap k =>
    simp only [exec, execDeferredSwap]
    split
    · exact ⟨_, rfl, endEvent_counts (releaseSlot_counts h k)⟩
    · exact ⟨_, rfl, h⟩
  | promotion k => exact ⟨_, rfl, endEvent_counts (releaseSlot_counts h k)⟩
  | keyOn => exact ⟨_, rfl, ite_counts h (setProt_counts h _)⟩
  | keyOff => exact ⟨_, rfl, ite_counts (keyTurnedOff_counts h) h⟩
  | seatClosed n => exact ⟨_, rfl, ite_counts h (seatClosed_counts h n)⟩
  | seatLoss n =>
    simp only [exec, execSeatLoss]
    split
    · exact ⟨_, rfl, endEvent_counts (seatOpened_counts h n)⟩
    · exact ⟨_, rfl, h⟩
  | seatTimeout n => exact ⟨_, rfl, endEvent_counts (seatTimedOut_counts h n)⟩
  | windowStart n => exact ⟨_, rfl, decideWindow_counts h n⟩
  | windowEnd n =>
    simp only [exec, execWindowEnd]
    split
    · rename_i hw
      exact ⟨_, rfl, endEvent_counts (closeWindow_counts h n (windowEndDue_active hw))⟩
    · exact ⟨_, rfl, h⟩
  | dwellEnd n => exact ⟨_, rfl, ite_counts (endDwell_counts h n) h⟩
  | stepFadeEnd n => exact ⟨_, rfl, ite_counts (endStepFade_counts h n) h⟩
  | fadeEnd n => exact ⟨_, rfl, endEvent_counts (fadeEnded_counts h n)⟩
  | ambientLoud => exact ⟨_, rfl, ite_counts (turnLoud_counts h) h⟩
  | ambientQuiet => exact ⟨_, rfl, ite_counts (setAmb_counts h _) h⟩
  | lotComplete k =>
    simp only [exec, execLotComplete]
    split
    · exact ⟨_, rfl, endEvent_counts ((completeLot_keepsCounts s k).counts h)⟩
    · exact ⟨_, rfl, h⟩
  | reqRising n => exact ⟨_, rfl, endEvent_counts (requestRising_counts (modMrk_counts h _ (by rfl)) n)⟩
  | reqFalling => exact ⟨_, rfl, modMrk_counts (modMrk_counts h _ (by rfl)) _ (by rfl)⟩
  | markedResult => exact ⟨_, rfl, endEvent_counts (markedRising_counts (modMrk_counts h _ (by rfl)))⟩
  | jamResult => exact ⟨_, rfl, endEvent_counts (jamRising_counts (modMrk_counts h _ (by rfl)))⟩
  | issueTimeout => exact ⟨_, rfl, endEvent_counts (resolveIssued_counts h false)⟩
  | queueExpiry i => exact ⟨_, rfl, endEvent_counts (expireLabel_counts h _)⟩
  | noticePeriodExpiry => exact ⟨_, rfl, periodExpiry_counts h⟩

theorem exec_counts (h : CountsOk s) (i : Instr) : ∃ t, exec i s = .next t ∧ CountsOk t := by
  cases hi : i.message with
  | none => exact event_counts h i hi
  | some m =>
    obtain ⟨k, scope, tag, body⟩ := m
    have hc := complete_counts h k scope tag body body.length true
    exact ⟨_, exec_of_message s hi, ite_counts (endEvent_counts hc) hc⟩

theorem step_counts (h : CountsOk s) (hs : step s = .next t) : CountsOk t := by
  unfold step at hs
  split at hs
  · exact Host.Outcome.next.inj hs ▸ tick_counts h
  · rename_i c rest _
    have hq : CountsOk { s with pending := rest } := h.of_parts rfl rfl rfl rfl rfl
    obtain ⟨u, hu, hc⟩ := exec_counts hq c
    exact Host.Outcome.next.inj (hu.symm.trans hs) ▸ hc

/-- Settles O41: each report moves one unit between two counts of its lot, and every row and every tick is made of such
reports and of moves that touch no unit. -/
theorem reportsKeepBalance : Obligations.ReportsKeepBalance :=
  ⟨fun _ k hb => reports_allBalanced k hb, fun _ _ h hs => step_counts h hs⟩

end Sys2Proof.Machine
end

section
/-! PROOFS. The values after power-on, and TBS's commands: sessions, discard and reading, protection, the key (R19, R23, R34–R39). -/

namespace Sys2Proof.Machine

variable {s t : State}

/-! ### Power-on -/

/-- Settles O13: the blocks' power-on values, each slot, buffer, lot and nest read out of its vector. -/
theorem resetValues : Obligations.ResetValues := by
  have hbuf : ∀ b, State.reset.buffer b = none := by decide
  refine ⟨rfl, rfl, rfl, ⟨rfl, rfl, rfl, rfl, rfl, rfl, rfl⟩, fun k => ?_, hbuf, fun n => ?_, rfl, ⟨rfl, rfl, rfl, rfl, rfl, rfl⟩, rfl,
    rfl, rfl, rfl, fun n => ?_, rfl, rfl, rfl, fun k => ?_⟩
  · rw [slot_reset, lot_reset]
    exact ⟨rfl, rfl, rfl, rfl, rfl, rfl, rfl, rfl⟩
  · rw [nest_reset]
    exact ⟨rfl, rfl, rfl, rfl, rfl, rfl, rfl, rfl, rfl⟩
  · rw [nest_reset]
    rfl
  · rw [slot_reset]
    rfl

/-- The NOTICE asked for at power-on: RESET_REPORT alone, and no counter has risen (R174, R18). -/
theorem noticeEvent_initial (hl : s.lnk = .initial) (hn : s.ntc = .initial) (ha : s.amb = .initial) :
    s.noticeEvent = ⟨0x82#8, 15#4, [0x00020000#32, 0#32, 0#32]⟩ := by
  rw [State.noticeEvent, hl, hn, ha]
  decide

theorem askNotice_initial (hl : s.lnk = .initial) (hn : s.ntc = .initial) (ha : s.amb = .initial) :
    s.askNotice.lnk = State.reset.lnk ∧ s.askNotice.ntc = State.reset.ntc := by
  have hask : s.askNotice = s.admitNotice := by simp [State.askNotice, State.placeFree, hl, hn, Link.initial, Notices.initial,
    Config.eventCap]
  rw [hask, State.admitNotice, noticeEvent_initial hl hn ha]
  simp [State.admitEvent, hl, hn, State.reset, State.blank, Link.initial, Notices.initial]

/-- Settles O14: a blank state with the levels of the inputs kept, and the power-on NOTICE admitted to its empty queue. -/
theorem powerOnValues : Obligations.PowerOnValues := by
  intro strap s
  obtain ⟨-, fs, fb, fp, fn, fa, fr, fm, fl, fq⟩ := askNotice_frame (s := (State.blank strap).keepInputs s)
  obtain ⟨hlnk, hntc⟩ := askNotice_initial (s := (State.blank strap).keepInputs s) rfl rfl rfl
  refine ⟨((State.blank strap).keepInputs s).askNotice, rfl, hlnk, hntc, fa, fs, fb, fl, fr, fp, fun n => ?_, ?_⟩
  · rw [nest_congr fn, nest_keepInputs, nest_blank, nest_reset]
  · rw [fm, fq]
    exact ⟨rfl, rfl, rfl, rfl, rfl, rfl, rfl, rfl⟩

/-! ### Protection (R37) -/

theorem protects_iff (p : Protection) (k : SlotId) : p.protects k = true ↔ p.allProtected = true ∨
    ¬ ((p.invert = false ∧ p.lower ≤ k.val ∧ k.val ≤ p.upper) ∨ (p.invert = true ∧ (k.val < p.lower ∨ p.upper < k.val))) := by
  cases hi : p.invert <;> simp [Protection.protects, hi, imp_iff_not_or]

/-- The tests of R10 pass for a slot's command: its scope names a slot. -/
theorem scopeOk_of_slot {c : Kind} (h : c.scopes = .slot) (k : SlotId) : c.scopeOk (slotScope k) = true := by
  rw [Kind.scopeOk, h]
  revert k; decide

theorem exec_stageOpen (k : SlotId) (tag : BitVec 8) (w : Word) (hr : s.ReplyRoom) :
    exec (.stageOpen (slotScope k) tag w) s = .next (takeStageOpen (slotScope k) tag w s) :=
  exec_taken rfl hr rfl (scopeOk_of_slot rfl k) rfl

theorem takeStageOpen_refused {k : SlotId} {tag : BitVec 8} {w : Word} {c : ResultCode}
    (h : stageOpenCheck s k (bits w 0 8) = c) (hc : c ≠ .ok) :
    takeStageOpen (slotScope k) tag w s = s.reply .stageOpen (slotScope k) tag c [] := by
  simp only [takeStageOpen, slotOf_slotScope, h]
  split
  · exact absurd rfl hc
  · rfl

/-- Settles O15: the protection test, and the first check of each of the four commands. -/
theorem protectionGuards : Obligations.ProtectionGuards := by
  refine ⟨protects_iff, fun k tag w body s hr hp hmin hmax => ⟨?_, ?_, ?_, ?_⟩⟩
  · rw [exec_stageOpen k tag w hr, takeStageOpen_refused (if_pos hp) (by decide)]
  · refine exec_taken rfl hr (by simp [Kind.lengthOk, hmin, hmax]) (scopeOk_of_slot rfl k) ?_
    exact takeStageRows_refused (if_pos hp) (by decide)
  · rw [exec_stageCommit k tag hr, takeStageCommit, slotOf_slotScope, if_pos hp]
  · refine exec_taken rfl hr rfl (scopeOk_of_slot rfl k) ?_
    have hc : refBeginCheck s k (bits w 0 8) = .locked := if_pos hp
    simp only [closesEvent, takeMessage, takeRefBegin, slotOf_slotScope, List.getD_cons_zero, hc]
    rfl

/-! ### STAGE_OPEN (R23) -/

theorem freeBuffer_eq {b : Fin 2} (hb : s.buffer b = none) (hlow : ∀ b' : Fin 2, b' < b → s.buffer b' ≠ none) :
    s.freeBuffer = some b := by
  fin_cases b
  · simpa [State.freeBuffer] using hb
  · have h0 := Option.isSome_iff_ne_none.mpr (hlow 0 (by decide))
    simp_all [State.freeBuffer]

theorem freeBuffer_none (h : ∀ b, s.buffer b ≠ none) : s.freeBuffer = none := by
  simpa [State.freeBuffer] using ⟨h 0, h 1⟩

/-- COPY mode finds a LOADED slot (R23, order 4). -/
theorem copyRefused_eq_false {mode : Nat} {loaded : Bool} (h : mode = 1 → loaded = true) : (mode == 1 && !loaded) = false := by
  by_cases h1 : mode = 1
  · simp [h1, h h1]
  · simp [h1]

theorem put_buffer : ∀ b : Fin 2, put b.val 0 1 = BitVec.ofNat 32 b.val := by decide

/-- Settles O16: the checks of R23 in their order, and the binding of the lowest FREE buffer. -/
theorem stageOpenEffect : Obligations.StageOpenEffect := by
  refine ⟨fun k tag w b s hr hp hn hm hl hb hlow => ?_, fun k tag w s hr hp => ?_⟩
  · have hfree := freeBuffer_eq hb hlow
    have hload := copyRefused_eq_false hl
    have hc : stageOpenCheck s k (bits w 0 8) = .ok := by
      simp [stageOpenCheck, hp, hn, hload, hfree, Nat.not_lt.mpr hm]
    simp only [exec_stageOpen k tag w hr, takeStageOpen, slotOf_slotScope, hc, hfree, put_buffer, beq_iff_eq, Tables.blank]
  · have hrefuse : ∀ {c}, stageOpenCheck s k (bits w 0 8) = c → c ≠ .ok →
        exec (.stageOpen (slotScope k) tag w) s = .next (s.reply .stageOpen (slotScope k) tag c []) := fun h hc => by
      rw [exec_stageOpen k tag w hr, takeStageOpen_refused h hc]
    refine ⟨fun hm => ?_, fun hm hs => ?_, fun hm hn hl => ?_, fun hm hn hl hb => ?_⟩
    · exact hrefuse (by simp [stageOpenCheck, hp, hm]) (by decide)
    · exact hrefuse (by simp [stageOpenCheck, hp, Nat.not_lt.mpr hm, Option.isSome_iff_ne_none.mpr hs]) (by decide)
    · exact hrefuse (by simp [stageOpenCheck, hp, hm, hn, hl]) (by decide)
    · have hload := copyRefused_eq_false hl
      exact hrefuse (by simp [stageOpenCheck, hp, hn, hload, freeBuffer_none hb, Nat.not_lt.mpr hm]) (by decide)

/-! ### STAGE_DISCARD, READ_ROWS (R34, R35) -/

theorem sessionBuffer_none {k : SlotId} (h : s.session k = none) : s.sessionBuffer k = none := by
  cases hb : s.sessionBuffer k with
  | none => rfl
  | some b =>
    have hx := List.find?_some hb
    rw [State.session, hb, Option.bind_some] at h
    simp [h] at hx

theorem commitPending_of_buffer {k : SlotId} {b : Fin 2} {e : Session} (hb : s.sessionBuffer k = some b)
    (he : s.buffer b = some e) : s.commitPending k = e.pending := by
  rw [State.commitPending, session_of_buffer hb he]

theorem exec_stageDiscard (k : SlotId) (tag : BitVec 8) (hr : s.ReplyRoom) :
    exec (.stageDiscard (slotScope k) tag) s = .next (takeStageDiscard (slotScope k) tag s) :=
  exec_taken rfl hr rfl (scopeOk_of_slot rfl k) rfl

theorem exec_readRows (k : SlotId) (tag : BitVec 8) (w : Word) (hr : s.ReplyRoom) :
    exec (.readRows (slotScope k) tag w) s = .next (takeReadRows (slotScope k) tag w s) :=
  exec_taken rfl hr rfl (scopeOk_of_slot rfl k) rfl

/-- Settles O20: the cases of a discard, and of a reading by bank and first failing check. -/
theorem discardAndRead : Obligations.DiscardAndRead := by
  refine ⟨fun k tag s hr => ⟨fun hn => ?_, fun b e hb he => ?_⟩, fun k tag w s x hr hx ht hf => ?_, fun k tag w s hr => ?_⟩
  · rw [exec_stageDiscard k tag hr, takeStageDiscard, slotOf_slotScope, sessionBuffer_none hn]
  · simp only [exec_stageDiscard k tag hr, takeStageDiscard, slotOf_slotScope, hb, commitPending_of_buffer hb he]
  · rw [exec_readRows k tag w hr, takeReadRows]
    rcases hx with ⟨h0, hl, rfl⟩ | ⟨h1, e, he, rfl⟩
    · simp [slotOf_slotScope, h0, hl, Nat.not_lt.mpr ht, Nat.not_lt.mpr hf, readRows]
    · simp [slotOf_slotScope, h1, he, Nat.not_lt.mpr ht, Nat.not_lt.mpr hf, readRows]
  · simp only [exec_readRows k tag w hr, takeReadRows, slotOf_slotScope]
    refine ⟨fun h => ?_, fun ht h0 hl => ?_, fun ht h1 hn => ?_, fun ht h0 hl hf => ?_, fun e ht h1 he hf => ?_⟩
    · rw [if_pos (by simpa using h)]
    · simp [h0, hl, Nat.not_lt.mpr ht]
    · simp [h1, hn, Nat.not_lt.mpr ht]
    · simp [h0, hl, hf, Nat.not_lt.mpr ht]
    · simp [h1, he, hf, Nat.not_lt.mpr ht]

/-! ### PROTECT_RANGE, PROTECT_ALL, FREEZE (R38, R39) -/

theorem exec_protection (tag : BitVec 8) (w : Word) (hr : s.ReplyRoom) :
    exec (.protectRange 15#4 tag w) s = .next (takeProtectRange 15#4 tag w s) ∧
    exec (.protectAll 15#4 tag) s = .next (takeProtectAll 15#4 tag s) ∧
    exec (.freeze 15#4 tag) s = .next (takeFreeze 15#4 tag s) :=
  ⟨exec_taken rfl hr rfl rfl rfl, exec_taken rfl hr rfl rfl rfl, exec_taken rfl hr rfl rfl rfl⟩

/-- Settles O21: each command by the freeze and, for PROTECT_RANGE, by the order of its range. -/
theorem protectionCommands : Obligations.ProtectionCommands := by
  intro tag w s hr
  obtain ⟨hrange, hall, hfreeze⟩ := exec_protection tag w hr
  rw [hrange, hall, hfreeze, takeProtectRange, takeProtectAll, takeFreeze]
  refine ⟨fun hf hlo hup hi => ?_, fun hf hbad => ?_, fun hf => ?_, fun hf => ?_, rfl⟩
  · have h7 : ¬ 7 < bits w 16 8 := by omega
    simp [hf, h7, Nat.not_lt.mpr hlo, Nat.not_lt.mpr hup, Nat.not_lt.mpr hi]
  · have : 7 < bits w 16 8 ∨ 7 < bits w 8 8 ∨ 1 < bits w 0 8 ∨ bits w 8 8 < bits w 16 8 := by omega
    simp [hf, or_assoc, this]
  · simp [hf]
  · simp [hf]

/-! ### The key (R39, R79) -/

theorem keyTurnedOff_frame (s : State) : s.keyTurnedOff.lnk = s.lnk ∧ s.keyTurnedOff.slots = s.slots ∧
    s.keyTurnedOff.buffers = s.buffers ∧ s.keyTurnedOff.amb = s.amb ∧ s.keyTurnedOff.retest = s.retest ∧
    s.keyTurnedOff.mrk = s.mrk ∧ s.keyTurnedOff.lots = s.lots ∧ s.keyTurnedOff.ntc = s.ntc :=
  foldl_keeps (P := fun t => t.lnk = s.lnk ∧ t.slots = s.slots ∧ t.buffers = s.buffers ∧ t.amb = s.amb ∧ t.retest = s.retest ∧
    t.mrk = s.mrk ∧ t.lots = s.lots ∧ t.ntc = s.ntc) (fun _ _ h => h) allNests _ ⟨rfl, rfl, rfl, rfl, rfl, rfl, rfl, rfl⟩

theorem nest_keyTurnedOff_eq (x : Nest) : x.keyTurnedOff = { x with config := { x.config with
    bench := x.config.bench && x.phase != .idle
    benchEnding := x.config.benchEnding || (x.config.bench && x.phase != .idle) } } := by
  rcases x with ⟨⟨trim, mcal, zcal, inverted, seatCode, bench, benchEnding⟩, seat, phase, rest⟩
  cases bench
  · simp [Nest.keyTurnedOff]
  · by_cases hp : phase = .idle <;> simp [Nest.keyTurnedOff, hp]

/-- Settles O23: the two turns at the protection, and the turn OFF at each nest by its bench and its phase. -/
theorem keyTurns : Obligations.KeyTurns := by
  refine fun s => ⟨fun hk => ?_, fun hk => ⟨s.keyTurnedOff, ?_, keyTurnedOff_prot s, fun n => ?_, keyTurnedOff_frame s⟩⟩
  · simp only [exec, execKeyOn, hk, State.keyTurnedOn, Debounce.settled]
    cases s.prot.freeze <;> simp
  · simp only [exec, execKeyOff, hk, if_true]
  · rw [keyTurnedOff_nest, nest_keyTurnedOff_eq]

end Sys2Proof.Machine
end

section
/-! PROOFS. Swaps, cancelled captures and promotions (R30, R32, R33, R122, R124). -/

namespace Sys2Proof.Machine

variable {s : State} {k : SlotId}

/-! ### A cancelled capture (R124) -/

/-- The slot after its capture has been cancelled for the reason `o` (R123–R126). -/
def Slot.cancelledFor (o : RefOutcome) (k : SlotId) (x : Slot) : Slot := match x.capture with
  | .idle => x
  | .capturing n c _ | .pending n c _ => { x with capture := .idle, refDone := some (refDoneEvent k { x with capture := .idle } o n c) }

theorem cancelCapture_slot_same (s : State) (k : SlotId) (o : RefOutcome) :
    (s.cancelCapture k o).slot k = (s.slot k).cancelledFor o k := by
  cases hc : (s.slot k).capture with
  | idle => simp only [State.cancelCapture, Slot.cancelledFor, hc]
  | capturing n c sums | pending n c sums =>
    simp only [State.cancelCapture, Slot.cancelledFor, hc, State.produceRefDone, slot_modSlot, slot_clearBounds, if_true]

theorem cancelledFor_kept (o : RefOutcome) (k : SlotId) (x : Slot) :
    (x.cancelledFor o k).tables = x.tables ∧ (x.cancelledFor o k).generation = x.generation ∧
    (x.cancelledFor o k).loaded = x.loaded ∧ (x.cancelledFor o k).occupancy = x.occupancy ∧
    (x.cancelledFor o k).refGen = x.refGen ∧ (x.cancelledFor o k).reference = x.reference ∧
    (x.cancelledFor o k).capture = .idle := by
  cases hc : x.capture <;> simp [Slot.cancelledFor, hc]

theorem cancelledFor_idle (o : RefOutcome) (k : SlotId) {x : Slot} (h : x.capture = .idle) : x.cancelledFor o k = x := by
  simp only [Slot.cancelledFor, h]

/-- A swap's REF_DONE names the tables, the generation and the reference generation of the slot as it then stands. -/
theorem cancelledFor_refDone {k : SlotId} {x : Slot} {target count : Nat}
    (h : (∃ sums, x.capture = .capturing target count sums) ∨ ∃ values, x.capture = .pending target count values) :
    (x.cancelledFor .planSwap k).refDone = some (refDoneEvent k (x.cancelledFor .planSwap k) .planSwap target count) := by
  rcases h with ⟨v, h⟩ | ⟨v, h⟩ <;> simp only [Slot.cancelledFor, h] <;> rfl

theorem exists_of_capture_ne_idle {x : Slot} (h : x.capture ≠ .idle) : ∃ target count,
    (∃ sums, x.capture = .capturing target count sums) ∨ ∃ values, x.capture = .pending target count values := by
  cases hc : x.capture with
  | idle => exact absurd hc h
  | capturing n c sums => exact ⟨n, c, .inl ⟨sums, rfl⟩⟩
  | pending n c values => exact ⟨n, c, .inr ⟨values, rfl⟩⟩

/-! ### The swap (R30) -/

/-- The state with the staged tables installed and the buffer FREE, before step 5 of R30. -/
def State.installed (s : State) (k : SlotId) (b : Fin 2) (e : Session) : State :=
  (s.modSlot k fun x => x.install e).setBuffer b none

theorem swap_eq {b : Fin 2} {e : Session} (hb : s.sessionBuffer k = some b) (he : s.buffer b = some e) :
    s.swap k = (if e.planTouched then (s.installed k b e).cancelCapture k .planSwap else s.installed k b e).modLot k
      fun l => { l with commits := satInc l.commits } := by
  simp only [State.swap, hb, he, State.installed]

theorem installed_slot (b : Fin 2) (e : Session) : (s.installed k b e).slot k = (s.slot k).install e := by
  simp [State.installed]

theorem swap_slot_touched {b : Fin 2} {e : Session} (hb : s.sessionBuffer k = some b) (he : s.buffer b = some e)
    (hp : e.planTouched = true) : (s.swap k).slot k = ((s.slot k).install e).cancelledFor .planSwap k := by
  simp [swap_eq hb he, hp, cancelCapture_slot_same, installed_slot]

theorem swap_slot_untouched {b : Fin 2} {e : Session} (hb : s.sessionBuffer k = some b) (he : s.buffer b = some e)
    (hp : e.planTouched = false) : (s.swap k).slot k = (s.slot k).install e := by
  simp [swap_eq hb he, hp, installed_slot]

theorem swap_buffer {b : Fin 2} {e : Session} (hb : s.sessionBuffer k = some b) (he : s.buffer b = some e) (b' : Fin 2) :
    (s.swap k).buffer b' = if b' = b then none else s.buffer b' := by
  rw [swap_eq hb he]
  split <;> simp [State.installed, eq_comm]

theorem swap_lot {b : Fin 2} {e : Session} (hb : s.sessionBuffer k = some b) (he : s.buffer b = some e) :
    (s.swap k).lot k = (s.lot k).map fun l => { l with commits := min (l.commits + 1) 65535 } := by
  have hc : (s.installed k b e).lot k = s.lot k := lot_congr (by simp [State.installed]) k
  rw [swap_eq hb he, lot_modLot, if_pos rfl]
  split <;> simp [hc, satInc, Config.counterMax]

theorem swap_nests_untouched {b : Fin 2} {e : Session} (hb : s.sessionBuffer k = some b) (he : s.buffer b = some e)
    (hp : e.planTouched = false) : (s.swap k).nests = s.nests := by
  simp [swap_eq hb he, hp, State.installed]

/-- Settles O19: the slot by whether the plan was touched, and what a swap leaves. -/
theorem swapInstalls : Obligations.SwapInstalls := by
  intro k b e s hb he
  obtain ⟨flnk, fprot, famb, fret, fmrk, fntc, -⟩ := swap_frame (s := s) k
  refine ⟨?_, fun hp => ?_, fun hp => ?_, fun k' hk => ⟨swap_slot (s := s) k (Ne.symm hk), swap_lot_ne s (Ne.symm hk)⟩,
    swap_buffer hb he, swap_lot hb he, flnk, fntc, fprot, fret, fmrk, famb⟩
  · cases hp : e.planTouched with
    | false =>
      rw [swap_slot_untouched hb he hp]
      exact ⟨rfl, rfl, rfl, rfl, rfl⟩
    | true =>
      obtain ⟨htab, hgen, hload, hocc, href, -, -⟩ := cancelledFor_kept .planSwap k ((s.slot k).install e)
      rw [swap_slot_touched hb he hp]
      exact ⟨htab, hgen, hload, hocc, href⟩
  · rw [swap_slot_untouched hb he hp]
    exact ⟨if_neg (by simp [hp]), rfl, rfl, swap_nests_untouched hb he hp⟩
  · obtain ⟨-, -, -, -, -, hreference, hcapture⟩ := cancelledFor_kept .planSwap k ((s.slot k).install e)
    rw [swap_slot_touched hb he hp]
    refine ⟨hreference.trans (if_pos hp), hcapture, fun hne => ?_, fun hi => ?_, fun target count hc => cancelledFor_refDone hc⟩
    · obtain ⟨target, count, hc⟩ := exists_of_capture_ne_idle hne
      rw [cancelledFor_refDone (x := (s.slot k).install e) hc]
      rfl
    · rw [cancelledFor_idle (x := (s.slot k).install e) _ _ hi]
      rfl

/-! ### Release at occupancy 0 (R32, R33, R122) -/

theorem releaseSlot_pending (ho : (s.slot k).occupancy = 0) (hp : s.commitPending k = true) :
    s.releaseSlot k = (s.swap k).promote k := by
  simp [State.releaseSlot, State.deferredSwap, hp, ho]

theorem releaseSlot_not_pending (hp : s.commitPending k = false) : s.releaseSlot k = s.promote k := by
  simp [State.releaseSlot, State.deferredSwap, hp]

theorem promote_pending {target count : Nat} {values : List Level} (ho : (s.slot k).occupancy = 0)
    (hc : (s.slot k).capture = .pending target count values) (x : Slot)
    (hx : x = { s.slot k with reference := some values, refGen := (s.slot k).refGen + 1#16, capture := .idle }) :
    s.promote k = s.setSlot k { x with refDone := some (refDoneEvent k x .promoted target count) } := by
  subst hx
  simp [State.promote, hc, ho, State.produceRefDone, State.modSlot]

theorem promote_not_pending (h : ∀ target count values, (s.slot k).capture ≠ .pending target count values) : s.promote k = s := by
  unfold State.promote
  split
  · rename_i n c values hc
    exact absurd hc (h n c values)
  · rfl

/-- Settles O26: the two rows by whether a commit waits, and the promotion by whether a capture does. -/
theorem releaseAtOccupancyZero : Obligations.ReleaseAtOccupancyZero := by
  refine fun k s ho => ⟨fun hp => ⟨?_, ?_⟩, fun hp => ⟨?_, ?_⟩, fun target count values hc => promote_pending ho hc _ rfl,
    promote_not_pending⟩
  · simp only [exec, execDeferredSwap, State.swapDue, hp, ho, beq_self_eq_true, Bool.and_self, if_true, releaseSlot_pending ho hp]
  · simp only [exec, execPromotion, releaseSlot_pending ho hp]
  · simp only [exec, execDeferredSwap, State.swapDue, hp, Bool.false_and, Bool.false_eq_true, if_false]
  · simp only [exec, execPromotion, releaseSlot_not_pending hp]

end Sys2Proof.Machine
end

section
/-! PROOFS. While the freeze is set only a key turn ON or a power-on changes protection (R38, R39). -/

namespace Sys2Proof.Machine

variable {s : State}

/-- The freeze holds: it stays set, and the range, invert, "all protected" and the strap stand as they stood (R39). -/
def FreezeHeld (p q : Protection) : Prop :=
  q.freeze = true ∧ q.lower = p.lower ∧ q.upper = p.upper ∧ q.invert = p.invert ∧ q.allProtected = p.allProtected ∧ q.strap = p.strap

theorem freezeHeld_of_eq {p q : Protection} (hf : p.freeze = true) (h : q = p) : FreezeHeld p q := by
  rw [h]
  exact ⟨hf, rfl, rfl, rfl, rfl, rfl⟩

theorem freezeHeld_of_key {p q : Protection} (hf : p.freeze = true) {d : Debounce} (h : q = { p with key := d }) :
    FreezeHeld p q := by
  rw [h]
  exact ⟨hf, rfl, rfl, rfl, rfl, rfl⟩

/-! ### The owners of the messages -/

theorem takeSoftReset_prot (s : State) (scope : BitVec 4) (tag : BitVec 8) : (takeSoftReset scope tag s).prot = s.prot := by
  obtain ⟨-, hfill, -⟩ := softFilled_parts s scope tag
  rw [takeSoftReset_eq]
  calc (s.softFilled scope tag).softResetBlocks.endEvent.settleNotice.prot
      = (s.softFilled scope tag).softResetBlocks.endEvent.prot := by simp only [State.settleNotice]; (repeat' split) <;> simp
    _ = (s.softFilled scope tag).softResetBlocks.prot := by simp
    _ = (s.softFilled scope tag).prot := (softResetBlocks_reset _).prot
    _ = s.prot := hfill

/-- No owner's action changes a frozen protection: PROTECT_RANGE and PROTECT_ALL are refused, and FREEZE sets what is set. -/
theorem takeMessage_frozen (hf : s.prot.freeze = true) (k : Kind) (scope : BitVec 4) (tag : BitVec 8) (body : List Word) :
    (takeMessage k scope tag body s).prot = s.prot := by
  cases k with
  | softReset => exact takeSoftReset_prot s scope tag
  | hello | protectQuery | nestQuery | retestQuery => rfl
  | status | noticeSet | tapSelect | ambientConfig =>
    simp only [takeMessage, takeStatus, takeNoticeSet, takeTapSelect, takeAmbientConfig]
    (repeat' split) <;> simp
  | stageOpen | stageRows | stageCommit | stageDiscard | readRows =>
    simp only [takeMessage, takeStageOpen, takeStageRows, takeStageCommit, State.commit, takeStageDiscard, takeReadRows]
    (repeat' split) <;> simp
  | protectRange | protectAll => simp [takeMessage, takeProtectRange, takeProtectAll, hf]
  | freeze => simp only [takeMessage, takeFreeze, reply_frame, ← hf]
  | nestConfig | start | abort | refBegin | refCancel =>
    simp only [takeMessage, takeNestConfig, takeStart, takeAbort, takeRefBegin, takeRefCancel]
    (repeat' split) <;> simp
  | lotOpen | lotClose | lotQuery | markConfig =>
    simp only [takeMessage, takeLotOpen, takeLotClose, takeLotQuery, takeMarkConfig]
    (repeat' split) <;> simp

theorem complete_frozen (hf : s.prot.freeze = true) (k : Kind) (scope : BitVec 4) (tag : BitVec 8) (body : List Word) (len : Nat)
    (ok : Bool) : (s.complete k scope tag len ok (takeMessage k scope tag body)).prot = s.prot := by
  rcases complete_cases s k scope tag len ok (takeMessage k scope tag body) with he | ⟨-, code, he⟩ | ⟨-, he⟩ <;> rw [he]
  · simp
  · simp
  · exact takeMessage_frozen hf _ _ _ _

/-! ### The head frame -/

theorem completeMessage_frozen (hf : s.prot.freeze = true) (words : List Word) (check : Word) :
    (s.completeMessage words check).prot = s.prot := by
  simp only [State.completeMessage]
  split
  · exact complete_frozen hf _ _ _ _ _ _
  · simp only [State.completeUnknown]
    split <;> simp

theorem assemble_frozen (hf : s.prot.freeze = true) (w : Word) : (s.assemble w).prot = s.prot := by
  unfold State.assemble
  split
  · split
    · rfl
    · split <;> simp
  · rfl
  · exact completeMessage_frozen (s := s.modLnk _) hf _ _

theorem arriveHead_prot (s : State) (f : HeadFrame) : (s.arriveHead f).prot = s.prot := by
  simp only [State.arriveHead]
  split <;> simp

theorem foldl_prot {α : Type} {f : State → α → State} (hf : ∀ u x, (f u x).prot = u.prot) (l : List α) (s : State) :
    (l.foldl f s).prot = s.prot :=
  foldl_keeps (P := fun t => t.prot = s.prot) (fun u x h => (hf u x).trans h) l s rfl

theorem headFrame_frozen (hf : s.prot.freeze = true) (f : HeadFrame) : (s.headFrame f).prot = s.prot := by
  have ha := arriveHead_prot s f
  have hc : (s.arriveHead f).consumeLine.prot = s.prot :=
    (assemble_frozen (s := (s.arriveHead f).modLnk _) (by rw [← ha] at hf; exact hf) _).trans ha
  have hd : (allNests.foldl State.decideWindow ((s.arriveHead f).consumeLine.hearFrame (frameChannel f 8))).prot = s.prot := by
    rw [foldl_prot (fun _ _ => by simp), ← hc]
    simp
  obtain ⟨-, -, -, -, hsend, -⟩ := sendFrames_frame
    (allNests.foldl State.decideWindow ((s.arriveHead f).consumeLine.hearFrame (frameChannel f 8))) f s.lnk.consumed.aux
  obtain ⟨-, -, hend, -⟩ := endEvent_frame (s := allNests.foldl (fun t n => t.nestFrame n (frameInput f n (s.lnk.slips f)))
    ((allNests.foldl State.decideWindow ((s.arriveHead f).consumeLine.hearFrame (frameChannel f 8))).sendFrames f
      s.lnk.consumed.aux))
  rw [State.headFrame, hend, foldl_prot (fun _ _ => by simp), hsend, hd]

/-! ### The rows and the tick -/

theorem receiveLine_prot (s : State) (word0 control aux : Word) : (s.receiveLine word0 control aux).prot = s.prot := by
  simp only [State.receiveLine]
  (repeat' split) <;> simp

theorem ite_prot {c : Prop} [Decidable c] {u v : State} (hu : u.prot = s.prot) (hv : v.prot = s.prot) :
    (if c then u else v).prot = s.prot := by
  split
  · exact hu
  · exact hv

/-- A row that is no command keeps protection, but for a power-on and the turns of the key. -/
theorem event_prot (s : State) (i : Instr) (hi : i.message = none) (hon : i ≠ .keyOn) (hoff : i ≠ .keyOff)
    (hp : ∀ strap, i ≠ .powerOn strap) (hf : s.prot.freeze = true) : ∃ t, exec i s = .next t ∧ t.prot = s.prot := by
  cases i with
  | hello | status | noticeSet | softReset | tapSelect | stageOpen | stageRows | stageCommit | stageDiscard | readRows
  | protectRange | protectAll | freeze | protectQuery | nestConfig | start | abort | nestQuery | ambientConfig | refBegin
  | refCancel | lotOpen | lotClose | lotQuery | retestQuery | markConfig => simp [Instr.message] at hi
  | powerOn strap => exact absurd rfl (hp strap)
  | keyOn => exact absurd rfl hon
  | keyOff => exact absurd rfl hoff
  | headFrame f => exact ⟨_, rfl, headFrame_frozen hf f⟩
  | lineFrame a b c => exact ⟨_, rfl, receiveLine_prot s a b c⟩
  | headLoss =>
    simp only [exec, execHeadLoss]
    split
    · exact ⟨_, rfl, by simp [(loseHead_frame s).1]⟩
    · exact ⟨_, rfl, rfl⟩
  | deferredSwap | seatLoss | windowEnd | lotComplete =>
    simp only [exec, execDeferredSwap, execSeatLoss, execWindowEnd, execLotComplete]
    split
    · exact ⟨_, rfl, by simp⟩
    · exact ⟨_, rfl, rfl⟩
  | seatClosed | dwellEnd | stepFadeEnd | ambientLoud | ambientQuiet => exact ⟨_, rfl, ite_prot (by simp) (by simp)⟩
  | promotion | seatTimeout | fadeEnd | reqRising | markedResult | jamResult | issueTimeout | queueExpiry =>
    exact ⟨_, rfl, by simp⟩
  | waitLineAdmit | windowStart | reqFalling | noticePeriodExpiry => exact ⟨_, rfl, by simp⟩

/-- No row but KEY_ON and POWER_ON touches a frozen protection otherwise than by the key's own level. -/
theorem exec_frozen (hf : s.prot.freeze = true) (i : Instr) (hon : i ≠ .keyOn) (hp : ∀ strap, i ≠ .powerOn strap) :
    ∃ t, exec i s = .next t ∧ FreezeHeld s.prot t.prot := by
  by_cases hoff : i = .keyOff
  · subst hoff
    refine ⟨_, rfl, ?_⟩
    split
    · exact freezeHeld_of_key hf (keyTurnedOff_prot s)
    · exact freezeHeld_of_eq hf rfl
  · cases hi : i.message with
    | none =>
      obtain ⟨t, ht, hprot⟩ := event_prot s i hi hon hoff hp hf
      exact ⟨t, ht, freezeHeld_of_eq hf hprot⟩
    | some m =>
      obtain ⟨k, scope, tag, body⟩ := m
      have hc := complete_frozen hf k scope tag body body.length true
      refine ⟨_, exec_of_message s hi, freezeHeld_of_eq hf (ite_prot ?_ hc)⟩
      rw [(endEvent_frame (s := s.completes k scope tag body)).2.2.1]
      exact hc

/-- A tick touches protection by its KEY sample alone. -/
theorem tick_prot (s : State) : ∃ u : State, u.prot = s.prot ∧ s.tick.prot = u.tickKey.prot := by
  obtain ⟨-, -, hend, -⟩ := endEvent_frame (s := allNests.foldl State.tickSeatTimer s.tickInputs.tickPresence)
  refine ⟨s.tickNotices.tickLabels, (tickLabels_frame _).2.2.2.1.trans (tickNotices_prot s), ?_⟩
  rw [tick_eq, hend, foldl_prot tickSeatTimer_prot, tickPresence_prot, State.tickInputs, (tickMarking_frame _).2,
    foldl_prot tickSeat_prot]
  rfl

theorem tickKey_frozen (hf : s.prot.freeze = true) :
    (s.prot.key.line = true ∧ s.prot.key.stable = false ∧ 19 ≤ s.prot.key.count) ∨ FreezeHeld s.prot s.tickKey.prot := by
  simp only [State.tickKey]
  split
  · rename_i hc
    obtain ⟨hne, hcount⟩ : s.prot.key.line ≠ s.prot.key.stable ∧ 20 ≤ s.prot.key.count + 1 := by
      simpa [Debounce.changes, keySamples] using hc
    split
    · rename_i hl
      refine .inl ⟨hl, ?_, by omega⟩
      rw [hl] at hne
      exact (Bool.eq_false_of_not_eq_true (Ne.symm hne))
    · exact .inr (freezeHeld_of_key hf (keyTurnedOff_prot _))
  · exact .inr (freezeHeld_of_key hf rfl)

/-- Settles O22: every row and every tick keeps a frozen protection, but for the two named rows and the completed turn ON. -/
theorem freezeHolds : Obligations.FreezeHolds := by
  have command : ∀ {c : Instr} {s t : State}, s.prot.freeze = true → exec c s = .next t →
      (c = .keyOn ∨ ∃ strap, c = .powerOn strap) ∨ FreezeHeld s.prot t.prot := fun {c s t} hf h => by
    by_cases hc : c = .keyOn ∨ ∃ strap, c = .powerOn strap
    · exact .inl hc
    · obtain ⟨hon, hp⟩ := not_or.mp hc
      obtain ⟨u, hu, hheld⟩ := exec_frozen hf c hon fun strap he => hp ⟨strap, he⟩
      exact .inr (Host.Outcome.next.inj (hu.symm.trans h) ▸ hheld)
  refine ⟨fun c s t => command, fun s t hf h => ?_⟩
  unfold step at h
  split at h
  · rename_i hq
    obtain ⟨u, hu, htick⟩ := tick_prot s
    have hkey := tickKey_frozen (s := u) (by rw [hu]; exact hf)
    rw [hu, ← htick, Host.Outcome.next.inj h] at hkey
    rcases hkey with ⟨hl, hs, hn⟩ | hheld
    · exact .inr (.inl ⟨hq, hl, hs, hn⟩)
    · exact .inr (.inr hheld)
  · rename_i c rest hq
    rcases command (s := { s with pending := rest }) hf h with hc | hheld
    · refine .inl ⟨rest, ?_⟩
      rw [hq]
      exact hc.imp (fun e => by rw [e]) fun ⟨strap, e⟩ => ⟨strap, by rw [e]⟩
    · exact .inr (.inr hheld)

end Sys2Proof.Machine
end

section
/-! PROOFS. The drive's arithmetic (R44, R45, R47, R48): PEXP as one rising curve of its code, V by the cell of a quarter of a cycle,
and O57 and O58. -/

namespace Sys2Proof.Machine

/-! ### PEXP (R47) -/

/-- The curve that PEXP halves and clamps: n is the code above −4096, 256 of them an octave. -/
def octaveCurve (n : Nat) : Nat := (256 + n % 256) * 2 ^ (n / 256)

theorem octaveCurve_monotone : Monotone octaveCurve := by
  refine monotone_nat_of_le_succ fun n => ?_
  simp only [octaveCurve]
  by_cases h : n % 256 = 255
  · have hm : (n + 1) % 256 = 0 := by omega
    have hq : (n + 1) / 256 = n / 256 + 1 := by omega
    rw [h, hm, hq, Nat.pow_succ]
    omega
  · have hm : (n + 1) % 256 = n % 256 + 1 := by omega
    have hq : (n + 1) / 256 = n / 256 := by omega
    rw [hm, hq]
    exact Nat.mul_le_mul_right _ (by omega)

/-- PEXP at quotient q and remainder m of its code (R47). -/
theorem pexp_of_parts (q : Int) {m : Nat} (hm : m ≤ 255) : pexp (256 * q + m) =
    if -15 ≤ q then min 8388607 ((256 + m) * 2 ^ (15 + q).toNat) else (256 + m) / 2 := by
  have hq : (256 * q + m) / 256 = q := by omega
  have hr : ((256 * q + m) % 256).toNat = m := by omega
  simp only [pexp, hq, hr, Config.fullScale]

/-- Over the level codes PEXP is half the curve, clamped; the clamp does not act at the lowest octave. -/
theorem pexp_eq_octaveCurve (n : Nat) : pexp ((n : Int) - 4096) = min 8388607 (octaveCurve n / 2) := by
  have hc : (n : Int) - 4096 = 256 * ((n / 256 : Nat) - 16) + (n % 256 : Nat) := by omega
  rw [hc, pexp_of_parts _ (by omega), octaveCurve]
  split
  · have he : n / 256 = (15 + (((n / 256 : Nat) : Int) - 16)).toNat + 1 := by omega
    conv_rhs => rw [he, Nat.pow_succ, ← Nat.mul_assoc, Nat.mul_div_cancel _ (by norm_num)]
  · have he : n / 256 = 0 := by omega
    rw [he]
    omega

theorem pexp_mono {c d : Int} (hc : -4096 ≤ c) (h : c ≤ d) : pexp c ≤ pexp d := by
  obtain ⟨i, rfl⟩ : ∃ i : Nat, c = i - 4096 := ⟨(c + 4096).toNat, by omega⟩
  obtain ⟨j, rfl⟩ : ∃ j : Nat, d = j - 4096 := ⟨(d + 4096).toNat, by omega⟩
  rw [pexp_eq_octaveCurve, pexp_eq_octaveCurve]
  have : octaveCurve i ≤ octaveCurve j := octaveCurve_monotone (by omega)
  omega

/-- Settles O57: the code by its quotient and remainder, and below code 0 the value at −1, which PEXP does not pass. -/
theorem pexpValues : Obligations.PexpValues := by
  unfold Obligations.PexpValues
  refine ⟨fun c hlo hhi => ⟨c / 256, (c % 256).toNat, by omega, by omega, by omega, by omega, fun hq => ?_, fun hq => ?_⟩,
    fun c hlo hhi => ?_, by decide, by decide, by decide, by decide, by decide, by decide⟩
  · rw [pexp, if_pos hq, Config.fullScale]
  · rw [pexp, if_neg (by omega)]
  · have hmono : pexp c ≤ pexp (-1) := pexp_mono hlo (by omega)
    have hlast : pexp (-1) = 8372224 := by decide
    omega

/-! ### V (R45) -/

theorem sineRows_bounds : sineRows.length = 32 ∧ ∀ r ∈ sineRows, r.length = 32 ∧ ∀ v ∈ r, 25 ≤ v ∧ v ≤ 32767 := by
  decide

theorem sineQ_bounds {i : Nat} (h : i < 1024) : 25 ≤ sineQ i ∧ sineQ i ≤ 32767 := by
  obtain ⟨hrows, hrow⟩ := sineRows_bounds
  have hi : i / 32 < sineRows.length := by omega
  obtain ⟨hlen, hval⟩ := hrow _ (List.getElem_mem hi)
  have hj : i % 32 < sineRows[i / 32].length := by omega
  have hq : sineQ i = sineRows[i / 32][i % 32] := by
    simp only [sineQ, List.getD_eq_getElem _ _ hi, List.getD_eq_getElem _ _ hj]
  rw [hq]
  exact hval _ (List.getElem_mem hj)

/-- V by the number of the cell, 4096 to a cycle, that a phase lies in. -/
def sineCell (c : Nat) : Int :=
  match c / 1024 with
  | 0 => sineQ (c % 1024)
  | 1 => sineQ (1023 - c % 1024)
  | 2 => -(sineQ (c % 1024) : Int)
  | _ => -(sineQ (1023 - c % 1024) : Int)

theorem sineV_eq_cell (phase : BitVec 32) : sineV phase = sineCell (phase.toNat / 2 ^ 20) := by
  have hq : phase.toNat / 2 ^ 30 = phase.toNat / 2 ^ 20 / 1024 := by omega
  simp only [sineV, hq]
  rfl

/-- A cell by its quadrant and its place in it. -/
theorem sineCell_quadrants {j : Nat} (h : j < 1024) :
    sineCell j = sineQ j ∧ sineCell (1024 + j) = sineQ (1023 - j) ∧ sineCell (2048 + j) = -(sineQ j : Int) ∧
      sineCell (3072 + j) = -(sineQ (1023 - j) : Int) := by
  have hm : j % 1024 = j := by omega
  have h0 : j / 1024 = 0 := by omega
  have h1 : (1024 + j) / 1024 = 1 ∧ (1024 + j) % 1024 = j := by omega
  have h2 : (2048 + j) / 1024 = 2 ∧ (2048 + j) % 1024 = j := by omega
  have h3 : (3072 + j) / 1024 = 3 ∧ (3072 + j) % 1024 = j := by omega
  simp only [sineCell, hm, h0, h1, h2, h3, and_self]

/-- The four quadrants of a cycle of cells. -/
theorem cell_cases {c : Nat} (h : c < 4096) :
    ∃ j, j < 1024 ∧ (c = j ∨ c = 1024 + j ∨ c = 2048 + j ∨ c = 3072 + j) :=
  ⟨c % 1024, by omega, by omega⟩

theorem sineCell_half {c : Nat} (h : c < 4096) : sineCell ((c + 2048) % 4096) = -sineCell c := by
  obtain ⟨j, hj, hc⟩ := cell_cases h
  obtain ⟨h0, h1, h2, h3⟩ := sineCell_quadrants hj
  rcases hc with rfl | rfl | rfl | rfl
  · rw [show (c + 2048) % 4096 = 2048 + c by omega, h2, h0]
  · rw [show (1024 + j + 2048) % 4096 = 3072 + j by omega, h3, h1]
  · rw [show (2048 + j + 2048) % 4096 = j by omega, h0, h2, Int.neg_neg]
  · rw [show (3072 + j + 2048) % 4096 = 1024 + j by omega, h1, h3, Int.neg_neg]

theorem sineCell_mirror {c : Nat} (h : c < 4096) : sineCell ((6143 - c) % 4096) = sineCell c := by
  obtain ⟨j, hj, hc⟩ := cell_cases h
  obtain ⟨h0, h1, h2, h3⟩ := sineCell_quadrants hj
  obtain ⟨r0, r1, r2, r3⟩ := sineCell_quadrants (show 1023 - j < 1024 by omega)
  have hjj : 1023 - (1023 - j) = j := by omega
  rcases hc with rfl | rfl | rfl | rfl
  · rw [show (6143 - c) % 4096 = 1024 + (1023 - c) by omega, r1, hjj, h0]
  · rw [show (6143 - (1024 + j)) % 4096 = 1023 - j by omega, r0, h1]
  · rw [show (6143 - (2048 + j)) % 4096 = 3072 + (1023 - j) by omega, r3, hjj, h2]
  · rw [show (6143 - (3072 + j)) % 4096 = 2048 + (1023 - j) by omega, r2, h3]

theorem sineCell_rising_half {c : Nat} (h : c < 2048) : 25 ≤ sineCell c ∧ sineCell c ≤ 32767 := by
  obtain ⟨j, hj, hc⟩ := cell_cases (show c < 4096 by omega)
  obtain ⟨h0, h1, -, -⟩ := sineCell_quadrants hj
  have hb := sineQ_bounds hj
  have hr := sineQ_bounds (show 1023 - j < 1024 by omega)
  rcases hc with rfl | rfl | rfl | rfl <;> omega

theorem sineV_half (phase : BitVec 32) : sineV (phase + 0x80000000#32) = -sineV phase := by
  have hc : (phase + 0x80000000#32).toNat / 2 ^ 20 = (phase.toNat / 2 ^ 20 + 2048) % 4096 := by bv_omega
  rw [sineV_eq_cell, sineV_eq_cell, hc]
  exact sineCell_half (by omega)

theorem sineV_rising_half {phase : BitVec 32} (h : phase.toNat < 2 ^ 31) : 25 ≤ sineV phase ∧ sineV phase ≤ 32767 := by
  rw [sineV_eq_cell]
  exact sineCell_rising_half (by omega)

theorem sineV_mask (phase : BitVec 32) : sineV (phase &&& 0xFFF00000#32) = sineV phase := by
  have hc : (phase &&& 0xFFF00000#32).toNat / 2 ^ 20 = phase.toNat / 2 ^ 20 := by
    have hlt : phase.toNat / 2 ^ 20 < 2 ^ 12 := by omega
    rw [BitVec.toNat_and, Nat.and_div_two_pow, show (0xFFF00000#32).toNat / 2 ^ 20 = 2 ^ 12 - 1 by decide,
      Nat.and_two_pow_sub_one_of_lt_two_pow hlt]
  rw [sineV_eq_cell, sineV_eq_cell, hc]

theorem sineV_mirror (phase : BitVec 32) : sineV (0x7FFFFFFF#32 - phase) = sineV phase := by
  have hc : (0x7FFFFFFF#32 - phase).toNat / 2 ^ 20 = (6143 - phase.toNat / 2 ^ 20) % 4096 := by bv_omega
  rw [sineV_eq_cell, sineV_eq_cell, hc]
  exact sineCell_mirror (by omega)

/-- |V| at every phase: the falling half of a cycle is the rising half negated. -/
theorem sineV_natAbs_le (phase : BitVec 32) : (sineV phase).natAbs ≤ 32767 := by
  by_cases h : phase.toNat < 2 ^ 31
  · have := sineV_rising_half h
    omega
  · have hr := sineV_rising_half (phase := phase + 0x80000000#32) (by bv_omega)
    rw [sineV_half] at hr
    omega

/-! ### Increment and drive sample (R44, R48) -/

theorem increment_nearest (f : Nat) : 2 * 1536000 * increment f ≤ 2 * f * 2 ^ 32 + 1536000 ∧
    2 * f * 2 ^ 32 + 1536000 < 2 * 1536000 * (increment f + 1) := by
  rw [increment]
  omega

/-- The magnitude of a drive sample: both divisions truncate toward zero, so they divide the magnitude (R48). -/
theorem drivenSample_natAbs (aeff gain : Nat) (phase : BitVec 32) :
    (drivenSample aeff phase gain).natAbs = aeff * (sineV phase).natAbs / 32768 * gain / 256 := by
  simp only [drivenSample, rawSample, Int.natAbs_tdiv, Int.natAbs_mul, Int.natAbs_natCast]
  rfl

theorem drivenSample_natAbs_le {aeff gain : Nat} (phase : BitVec 32) (ha : aeff ≤ 8388607) (hg : gain ≤ 256) :
    (drivenSample aeff phase gain).natAbs ≤ 8388607 := by
  have hraw : aeff * (sineV phase).natAbs / 32768 ≤ 8388607 :=
    Nat.div_le_of_le_mul (by nlinarith [Nat.mul_le_mul ha (sineV_natAbs_le phase)])
  rw [drivenSample_natAbs]
  exact Nat.div_le_of_le_mul (by nlinarith [Nat.mul_le_mul hraw hg])

/-- Settles O58: each magnitude by its factors, PEXP by its curve, V by its cells, the increment by its rounding. -/
theorem driveArithmetic : Obligations.DriveArithmetic := by
  unfold Obligations.DriveArithmetic
  refine ⟨⟨fun aeff gain phase ha hg => ?_, fun c d hc hcd _ => pexp_mono hc hcd⟩,
    fun phase => ⟨sineV_half phase, sineV_rising_half, sineV_mask phase, sineV_mirror phase⟩, by decide,
    increment_nearest, by decide, fun _ _ => rfl, fun _ _ _ => rfl⟩
  have := drivenSample_natAbs_le phase ha hg
  omega

end Sys2Proof.Machine
end

section
/-! PROOFS. A nest that becomes RUNNING or ARMED, by START and by its seat (R55, R62, R67, R68, R74): O29 and O35. -/

namespace Sys2Proof.Machine

/-! ### The tables of a nest's run -/

theorem runTables_congr {s t : State} {n : NestId} (hr : (t.nest n).run = (s.nest n).run) (hs : t.slots = s.slots) :
    t.runTables n = s.runTables n := by
  rw [State.runTables, State.runTables, hr, slot_congr hs]

/-! ### A nest becomes RUNNING (R55, R67) -/

/-- The nest as it becomes RUNNING with a run under a slot's tables (R55, R67). -/
def Nest.running (x : Nest) (tables : Tables) (run : Run) : Nest :=
  { x with phase := .running, run, window := .before, retryMarked := false
           engine := x.engine.startRun tables x.config.trim }

theorem running_eq (x : Nest) (tables : Tables) (run : Run) : x.running tables run = { x with
    phase := .running, run, window := .before, retryMarked := false
    engine := { x.engine with
      mode := .step, step := 0, k := 0, held := false, acc := 0, retry := 0, ext := 0, fade := 0, last := .quiet
      inc := BitVec.ofNat 32 (increment (tables.step 0).freq)
      aeff := stepAmplitude (tables.step 0).level x.config.trim
      lobe := if (tables.step 0).kind = .pulse then .isOpen else .ended } } := by
  rw [Nest.running, startRun_eq]

theorem becomeRunning_eq (s : State) (n : NestId) (cause : StartCause) : s.becomeRunning n cause =
    s.setNest n ((s.nest n).running (s.runTables n) { (s.nest n).run with startCause := cause }) := rfl

/-! ### START binds its run (R67) -/

/-- The slot's seat mode and the debounced seat let a nest run at once (R67, step 4). -/
def Nest.runsAtOnce (x : Nest) (tables : Tables) : Bool := tables.settingsRow.seatMode == 0 || x.seat.stable

/-- The nest that a taken START leaves with the run it bound: RUNNING, or ARMED with the slot's seat timeout (R67, step 4). -/
def Nest.started (x : Nest) (tables : Tables) (run : Run) : Nest :=
  if x.runsAtOnce tables then
    x.running tables { run with startCause := if tables.settingsRow.seatMode = 0 then .immediate else .seat }
  else { x with phase := .armed, run := { run with seatTimer := tables.settingsRow.seatTimeout * 10 } }

theorem enterRun_started (s : State) (n : NestId) (k : SlotId) (hk : (s.nest n).run.slot = k) : s.enterRun n k =
    (s.occupy k).setNest n ((s.nest n).started (s.slot k).tables (s.nest n).run) := by
  have hn : (s.occupy k).nest n = s.nest n := by simp
  have ht : (s.occupy k).runTables n = (s.slot k).tables := by simp [State.runTables, State.occupy, hk]
  have hs : (s.occupy k).runSettings n = (s.slot k).tables.settingsRow := by rw [State.runSettings, ht]
  simp only [State.enterRun, becomeRunning_eq, State.arm, State.modNest, hn, ht, hs, Nest.started, Nest.runsAtOnce]
  by_cases hm : (s.slot k).tables.settingsRow.seatMode = 0
  · simp [hm]
  · by_cases hst : (s.nest n).seat.stable = true <;> simp [hm, hst, Config.ticksPerMs]

/-- A taken START: the unit is counted, the slot's occupancy rises, and the nest starts with the run bound. -/
theorem startRun_started (s : State) (n : NestId) (k : SlotId) (r : StartRequest) : ∃ attempt, s.startRun n k r =
    ((s.startFound n k r).occupy k).setNest n ((s.nest n).started (s.slot k).tables
      (boundRun s k r (runKindOf r.golden (s.nest n).config.bench) attempt)) := by
  obtain ⟨attempt, he⟩ := startRun_eq_bind s n k r
  obtain ⟨hnests, hslots⟩ := startFound_frame s n k r
  refine ⟨attempt, ?_⟩
  rw [he, enterRun_started _ _ _ (by rw [nest_modNest, if_pos rfl]; rfl), nest_modNest, if_pos rfl,
    occupy_modNest, State.modNest, setNest_setNest]
  simp only [Nest.bind, modNest_reads, slot_congr hslots, nest_congr hnests]
  rfl

theorem boundRun_goldenValues (s : State) (k : SlotId) (r : StartRequest) (kind : RunKind) (attempt : Nat) :
    (boundRun s k r kind attempt).goldenValues =
      if kind = .golden then List.replicate ((s.slot k).tables.steps.countP (·.ref)) none else [] := by
  simp [boundRun, Tables.refCount, List.countP_eq_length_filter]

/-- The lot id of a run as START binds it: that of the slot's OPEN lot in a counted run, else 0 (R66, R67). -/
theorem boundRun_lotId (s : State) (k : SlotId) (r : StartRequest) (kind : RunKind) (attempt : Nat) :
    (kind = .counted → ∀ l, s.openLot k = some l → (boundRun s k r kind attempt).lotId = l.id) ∧
    (kind ≠ .counted → (boundRun s k r kind attempt).lotId = 0#32) := by
  refine ⟨fun hk l hl => ?_, fun hk => ?_⟩
  · simp [boundRun, hk, hl]
  · simp [boundRun, hk]

theorem started_fields (x : Nest) (tables : Tables) (run : Run) :
    (x.started tables run).phase = (if x.runsAtOnce tables then .running else .armed) ∧
      (x.started tables run).config = x.config ∧ (x.started tables run).seat = x.seat := by
  simp only [Nest.started]
  split <;> exact ⟨rfl, rfl, rfl⟩

/-- What starting leaves of the run bound: all but its start cause and its seat timer. -/
theorem started_run (x : Nest) (tables : Tables) (run : Run) : ∃ cause ticks,
    (x.started tables run).run = { run with startCause := cause, seatTimer := ticks } := by
  simp only [Nest.started]
  split
  · exact ⟨_, _, rfl⟩
  · exact ⟨_, _, rfl⟩

theorem started_startCause (x : Nest) (tables : Tables) {run : Run} (h : run.startCause = .none) :
    (x.started tables run).run.startCause = if tables.settingsRow.seatMode = 0 then .immediate
      else if x.seat.stable = true then .seat else .none := by
  by_cases hm : tables.settingsRow.seatMode = 0
  · simp [Nest.started, Nest.runsAtOnce, Nest.running, hm]
  · by_cases hst : x.seat.stable = true <;> simp [Nest.started, Nest.runsAtOnce, Nest.running, hm, hst, h]

theorem started_running {x : Nest} {tables : Tables} (h : x.runsAtOnce tables = true) (run : Run) :
    x.started tables run = x.running tables (x.started tables run).run := by
  rw [Nest.started, if_pos h]
  rfl

theorem started_armed {x : Nest} {tables : Tables} (h : x.runsAtOnce tables = false) (run : Run) :
    x.started tables run = { x with phase := .armed, run := (x.started tables run).run } ∧
      (x.started tables run).run.seatTimer = tables.settingsRow.seatTimeout * 10 := by
  rw [Nest.started, if_neg (by simp [h])]
  exact ⟨rfl, rfl⟩

/-- Settles O29: the run that START binds, and the nest that starts with it, RUNNING or ARMED (`startRun_started`). -/
theorem startBindsRun : Obligations.StartBindsRun := by
  unfold Obligations.StartBindsRun
  intro s n k r t kind running
  obtain ⟨attempt, he⟩ := startRun_started s n k r
  obtain ⟨hnests, hslots⟩ := startFound_frame s n k r
  obtain ⟨hstill, hbuf, hprot, hamb, hmrk, -⟩ := startRun_frame s n k r
  obtain ⟨-, -, -, -, -, -, -, -, -, hreply, -⟩ := Link.still_fields hstill
  obtain ⟨hlot, hnoLot⟩ := boundRun_lotId s k r kind attempt
  have hgolden := boundRun_goldenValues s k r kind attempt
  have hcause := started_startCause (s.nest n) (s.slot k).tables (run := boundRun s k r kind attempt) rfl
  have hother : ∀ m, m ≠ n → t.nest m = s.nest m := fun m hm => by
    simp [t, he, Ne.symm hm, nest_congr hnests, State.occupy]
  have hslot : ∀ k', t.slot k' = if k' = k then { s.slot k with occupancy := (s.slot k).occupancy + 1 } else s.slot k' :=
    fun k' => by simp [t, he, State.occupy, slot_congr hslots, eq_comm]
  have hn : t.nest n = (s.nest n).started (s.slot k).tables (boundRun s k r kind attempt) := by simp [t, he, kind]
  obtain ⟨hphase, hconfig, hseat⟩ := started_fields (s.nest n) (s.slot k).tables (boundRun s k r kind attempt)
  obtain ⟨cause, ticks, hrun⟩ := started_run (s.nest n) (s.slot k).tables (boundRun s k r kind attempt)
  have hfields : (t.nest n).run = { boundRun s k r kind attempt with startCause := cause, seatTimer := ticks } := hn ▸ hrun
  have hrunning : running = true → t.nest n = (s.nest n).running (s.slot k).tables (t.nest n).run := fun h => by
    rw [hn]; exact started_running h _
  have harmed : running = false → t.nest n = { s.nest n with phase := .armed, run := (t.nest n).run } ∧
      (t.nest n).run.seatTimer = (s.slot k).tables.settingsRow.seatTimeout * 10 := fun h => by
    rw [hn]; exact started_armed h _
  refine ⟨?_, ?_, fun hk l hl => ?_, fun hk => ?_, ?_, ?_, fun h => ?_, fun h => ⟨?_, (harmed h).2⟩, ?_, ?_, fun h => ?_,
    fun h => (harmed h).1, hother, hslot, hreply, hbuf, hprot, hamb, hmrk⟩
  · rw [hn]; exact hphase
  · rw [hfields]
    exact ⟨rfl, rfl, rfl, rfl, rfl, rfl, rfl, rfl, rfl, rfl, rfl, rfl, rfl, rfl, rfl, rfl⟩
  · rw [hfields]; exact hlot hk l hl
  · rw [hfields]; exact hnoLot hk
  · rw [hn]; exact hcause
  · rw [hfields]; exact hgolden
  · rw [hrunning h]
    exact ⟨rfl, rfl, rfl, congrArg Engine.acc (startRun_eq _ _ _), rfl, rfl, rfl⟩
  · rw [(harmed h).1]
  · rw [hn]; exact hconfig
  · rw [hn]; exact hseat
  · exact (hrunning h).trans (running_eq _ _ _)

/-! ### The seat (R62, R68, R74) -/

/-- The seat of an ARMED nest closes: it is RUNNING with start cause SEAT, its seat SEATED, nothing else changed (R68). -/
theorem seatClosed_armed {s : State} {n : NestId} (h : (s.nest n).phase = .armed) : s.seatClosed n =
    s.setNest n ({ s.nest n with seat := ⟨true, true, 0⟩ }.running (s.runTables n)
      { (s.nest n).run with startCause := .seat }) := by
  have ht : (s.modNest n fun x => { x with seat := .settled true }).runTables n = s.runTables n :=
    runTables_congr (by simp) (by simp)
  rw [State.seatClosed, becomeRunning_eq, ht, nest_modNest, if_pos rfl, State.modNest, setNest_setNest, if_pos (by simp [h])]
  rfl

theorem seatClosed_not_armed {s : State} {n : NestId} (h : (s.nest n).phase ≠ .armed) :
    s.seatClosed n = s.setNest n { s.nest n with seat := ⟨true, true, 0⟩ } := by
  rw [State.seatClosed, nest_modNest, if_pos rfl, if_neg (by simpa using h)]
  rfl

/-- The seat of a RUNNING nest opens: CONTACT joins its causes and its run ends with SEAT_LOSS (R74). -/
theorem seatOpened_running {s : State} {n : NestId} (h : (s.nest n).phase = .running) : s.seatOpened n =
    (s.setNest n { s.nest n with
      seat := ⟨false, false, 0⟩, run := { (s.nest n).run with contact := true } }).endRun n .seatLoss := by
  rw [State.seatOpened, nest_modNest, if_pos rfl, if_pos (by simp [h]), State.addContact, State.modRun, modNest_modNest]
  rfl

theorem seatOpened_not_running {s : State} {n : NestId} (h : (s.nest n).phase ≠ .running) :
    s.seatOpened n = s.setNest n { s.nest n with seat := ⟨false, false, 0⟩ } := by
  rw [State.seatOpened, nest_modNest, if_pos rfl, if_neg (by simpa using h)]
  rfl

/-- The rows of the seat's two levels, by the level that stands. -/
theorem exec_seatClosed (n : NestId) (s : State) :
    exec (.seatClosed n) s = .next (if (s.nest n).seat.stable = true then s else s.seatClosed n) := rfl

theorem exec_seatLoss (n : NestId) (s : State) :
    exec (.seatLoss n) s = if (s.nest n).seat.stable = true then .next (s.seatOpened n).endEvent else .next s := rfl

theorem exec_seatTimeout (n : NestId) (s : State) : exec (.seatTimeout n) s = .next (s.seatTimedOut n).endEvent := rfl

/-- Settles O35: each row by the seat's level and the nest's phase. -/
theorem seatEvents : Obligations.SeatEvents := by
  unfold Obligations.SeatEvents
  intro n s
  refine ⟨fun hs hp => ⟨s.setNest n ({ s.nest n with seat := ⟨true, true, 0⟩ }.running (s.runTables n)
      { (s.nest n).run with startCause := .seat }), ?_, ?_⟩, fun hs => ?_, fun hs => ?_, fun hs hp => ?_, fun hs hp => ?_,
    fun hs hp => ?_, fun hp => ?_, fun hp => ?_⟩
  · rw [exec_seatClosed, if_neg (by simp [hs]), seatClosed_armed hp]
  · have hother : ∀ v m, m ≠ n → (s.setNest n v).nest m = s.nest m := fun v m hm => by simp [Ne.symm hm]
    rw [nest_setNest, if_pos rfl, running_eq]
    exact ⟨rfl, rfl, rfl, rfl, rfl, rfl, rfl, hother _, rfl, rfl, rfl, rfl, rfl, rfl, rfl, rfl, rfl, rfl, rfl, rfl, rfl, rfl,
      rfl, rfl, rfl⟩
  · rw [exec_seatClosed, if_pos hs]
  · rw [exec_seatLoss, if_neg (by simp [hs])]
  · rw [exec_seatLoss, if_pos hs, seatOpened_not_running hp]
  · rw [exec_seatClosed, if_neg (by simp [hs]), seatClosed_not_armed hp]
  · rw [exec_seatLoss, if_pos hs, seatOpened_running hp]
  · rw [exec_seatTimeout, seatTimedOut_armed hp]
  · rw [exec_seatTimeout, State.seatTimedOut, if_neg (by simpa using hp)]

end Sys2Proof.Machine
end

section
/-! PROOFS. The window of a dwell (R70, R71, R83–R86, R95): its start, what a frame adds to the analysis engine, what its end leaves of
the nest's engine and analysis, and O36. -/

namespace Sys2Proof.Machine

theorem setNest_self (s : State) (n : NestId) : s.setNest n (s.nest n) = s := by
  simp [State.setNest, State.nest]

/-! ### Window start (R70) -/

theorem windowStartDue_iff {s : State} {n : NestId} : s.windowStartDue n = true ↔
    (s.nest n).phase = .running ∧ (s.nest n).engine.mode = .step ∧ (s.nest n).window = .before ∧
      (s.nest n).engine.k = (s.stepRec n).ws := by
  simp [State.windowStartDue, and_assoc]

theorem decideWindow_due {s : State} {n : NestId} (h : s.windowStartDue n = true) : s.decideWindow n =
    s.setNest n ((s.nest n).decideWindow s.amb.loud (s.runSettings n).settleLimit) := by
  rw [State.decideWindow, if_pos h]
  rfl

theorem decideWindow_not_due {s : State} {n : NestId} (h : ¬ s.windowStartDue n = true) : s.decideWindow n = s := by
  rw [State.decideWindow, if_neg h]

theorem exec_windowStart (n : NestId) (s : State) : exec (.windowStart n) s = .next (s.decideWindow n) := rfl

theorem decideWindow_holds (x : Nest) {limit : Nat} (h : x.engine.ext < limit) : x.decideWindow true limit =
    { x with engine := { x.engine with held := true, ext := x.engine.ext + 1 } } := by
  simp [Nest.decideWindow, h]

theorem decideWindow_opens (x : Nest) {loud : Bool} {limit : Nat} (h : loud = false ∨ limit ≤ x.engine.ext) :
    x.decideWindow loud limit = { x with
      window := .isOpen, engine := { x.engine with held := false }, analysis := { x.analysis with win := .cleared } } := by
  rw [Nest.decideWindow, if_neg]
  rcases h with h | h
  · simp [h]
  · simp [Nat.not_lt.mpr h]

/-! ### Window end (R71): what it leaves of a nest's course -/

/-- One nest alone has changed, and neither its phase nor its engine nor its analysis. -/
structure OnCourse (n : NestId) (s t : State) : Prop where
  alone : t = s.setNest n (t.nest n)
  phase : (t.nest n).phase = (s.nest n).phase
  engine : (t.nest n).engine = (s.nest n).engine
  analysis : (t.nest n).analysis = (s.nest n).analysis

theorem OnCourse.refl (n : NestId) (s : State) : OnCourse n s s := ⟨(setNest_self s n).symm, rfl, rfl, rfl⟩

theorem OnCourse.trans {n : NestId} {s t u : State} (h : OnCourse n s t) (g : OnCourse n t u) : OnCourse n s u where
  alone := by
    have hu : u = (s.setNest n (t.nest n)).setNest n (u.nest n) := h.alone ▸ g.alone
    rwa [setNest_setNest] at hu
  phase := g.phase.trans h.phase
  engine := g.engine.trans h.engine
  analysis := g.analysis.trans h.analysis

theorem modNest_onCourse (s : State) (n : NestId) {f : Nest → Nest}
    (h : ∀ x, (f x).phase = x.phase ∧ (f x).engine = x.engine ∧ (f x).analysis = x.analysis) :
    OnCourse n s (s.modNest n f) := by
  have hn : (s.modNest n f).nest n = f (s.nest n) := by simp
  obtain ⟨hp, he, ha⟩ := h (s.nest n)
  exact ⟨by rw [hn]; rfl, by rw [hn, hp], by rw [hn, he], by rw [hn, ha]⟩

theorem modRun_onCourse (s : State) (n : NestId) (f : Run → Run) : OnCourse n s (s.modRun n f) :=
  modNest_onCourse s n fun _ => ⟨rfl, rfl, rfl⟩

theorem traceWindow_onCourse (s : State) (n : NestId) (m : Measures) (o : StepOutcome) (cause : Nat) :
    OnCourse n s (s.traceWindow n m o cause) := by
  simp only [State.traceWindow]
  split
  · exact modNest_onCourse s n fun _ => ⟨rfl, rfl, rfl⟩
  · exact OnCourse.refl n s

/-- The nest stays on its course, and then its run goes on or ends. -/
def Closes (n : NestId) (s t : State) : Prop := ∃ u, OnCourse n s u ∧ (t = u ∨ ∃ cause, t = u.endRun n cause)

theorem Closes.of_onCourse {n : NestId} {s t u : State} (h : OnCourse n s t) (g : Closes n t u) : Closes n s u := by
  obtain ⟨v, hv, hu⟩ := g
  exact ⟨v, h.trans hv, hu⟩

theorem OnCourse.closes {n : NestId} {s t : State} (h : OnCourse n s t) : Closes n s t := ⟨t, h, .inl rfl⟩

theorem OnCourse.ends {n : NestId} {s t : State} (h : OnCourse n s t) (cause : EndCause) : Closes n s (t.endRun n cause) :=
  ⟨t, h, .inr ⟨cause, rfl⟩⟩

theorem disturbWindow_closes (s : State) (n : NestId) (m : Measures) (d : Disturbance) :
    Closes n s (s.disturbWindow n m d) := by
  have ht := traceWindow_onCourse s n m .disturbed d.value
  simp only [State.disturbWindow]
  split
  · exact (ht.trans (modNest_onCourse _ n fun _ => by exact ⟨rfl, rfl, rfl⟩)).closes
  · exact (ht.trans (modRun_onCourse _ n _)).ends _

theorem judgeWindow_closes (s : State) (n : NestId) (m : Measures) : Closes n s (s.judgeWindow n m) := by
  have ht (f : Run → Run) (o : StepOutcome) : OnCourse n s ((s.modRun n f).traceWindow n m o 0) :=
    (modRun_onCourse s n f).trans (traceWindow_onCourse _ n m o 0)
  simp only [State.judgeWindow]
  split
  · exact (ht _ _).ends _
  · exact (ht _ _).closes

/-- A window's end changes neither phase nor engine nor analysis of its nest, but by the run end it may make (R71). -/
theorem closeWindow_closes (s : State) (n : NestId) : Closes n s (s.closeWindow n) := by
  simp only [State.closeWindow]
  refine Closes.of_onCourse (modNest_onCourse s n (f := fun x =>
    { x with window := .closed, run := { x.run with clipSeen := x.run.clipSeen || (s.windowMeasures n).clip } })
    fun _ => ⟨rfl, rfl, rfl⟩) ?_
  split
  · exact disturbWindow_closes _ n _ _
  · split
    · exact ((traceWindow_onCourse _ n _ .contact 0).trans (modRun_onCourse _ n _)).ends _
    · exact judgeWindow_closes _ n _

/-- A run end leaves the nest outside RUNNING (R73). -/
theorem endRun_not_running (s : State) (n : NestId) (cause : EndCause) : ((s.endRun n cause).nest n).phase ≠ .running := by
  obtain ⟨-, -, hp, -⟩ := endRun_nest_leaves s n cause
  rw [hp]
  split <;> decide

theorem Closes.analysis {n : NestId} {s t : State} (h : Closes n s t) : (t.nest n).analysis = (s.nest n).analysis := by
  obtain ⟨u, hu, rfl | ⟨cause, rfl⟩⟩ := h
  · exact hu.analysis
  · obtain ⟨-, -, -, -, -, -, -, ha⟩ := endRun_nest_leaves u n cause
    exact ha.trans hu.analysis

/-- Where the nest is still RUNNING its run has gone on. -/
theorem Closes.goesOn {n : NestId} {s t : State} (h : Closes n s t) (hp : (t.nest n).phase = .running) : OnCourse n s t := by
  obtain ⟨u, hu, rfl | ⟨cause, rfl⟩⟩ := h
  · exact hu
  · exact absurd hp (endRun_not_running u n cause)

/-! ### One head frame in the analysis engine (R83, R84) -/

theorem modNest_analysis (s : State) (n : NestId) {f : Nest → Nest} (h : ∀ x, (f x).analysis = x.analysis) :
    ((s.modNest n f).nest n).analysis = (s.nest n).analysis := by
  rw [nest_modNest, if_pos rfl, h]

theorem modEngine_analysis (s : State) (n : NestId) (f : Engine → Engine) :
    ((s.modEngine n f).nest n).analysis = (s.nest n).analysis := modNest_analysis s n fun _ => rfl

theorem moveStep_analysis (s : State) (n : NestId) : ((s.moveStep n).nest n).analysis = (s.nest n).analysis := by
  have ha : ((if s.windowEndDue n then s.closeWindow n else s).nest n).analysis = (s.nest n).analysis := by
    split
    · exact (closeWindow_closes s n).analysis
    · rfl
  generalize he : (if s.windowEndDue n then s.closeWindow n else s) = a at ha
  simp only [State.moveStep, he]
  (repeat' split)
  · rfl
  · exact (modNest_analysis a n fun _ => by exact rfl).trans ha
  · exact (modEngine_analysis a n _).trans ha
  · exact ha

/-- The move to the next position leaves the analysis engine. -/
theorem moveOn_analysis (s : State) (n : NestId) : ((s.moveOn n).nest n).analysis = (s.nest n).analysis := by
  simp only [State.moveOn]
  split
  · rfl
  · exact moveStep_analysis s n
  · split
    · exact modNest_analysis s n fun _ => rfl
    · exact modEngine_analysis s n _
  · split
    · rw [State.fadeEnded]
      split
      · exact modNest_analysis s n fun _ => rfl
      · rfl
    · exact modEngine_analysis s n _

/-- What a head frame hands the analysis engine for the window: nothing outside a window frame (R84). -/
def State.windowFrame (s : State) (n : NestId) : Option WindowFrame :=
  if s.inWindow n then
    some { step := s.stepRec n, phase := (s.nest n).engine.acc, loud := s.amb.loud,
           threshold := pexp (s.runSettings n).polarityCode }
  else none

theorem inWindow_iff {s : State} {n : NestId} : s.inWindow n = true ↔ (s.nest n).phase = .running ∧
    (s.nest n).engine.mode = .step ∧ (s.nest n).window = .isOpen ∧ (s.nest n).engine.held = false ∧
      (s.stepRec n).ws ≤ (s.nest n).engine.k ∧ (s.nest n).engine.k < (s.stepRec n).we := by
  simp [State.inWindow, and_assoc]

theorem nestFrame_analysis (s : State) (n : NestId) (inp : FrameInput) :
    ((s.nestFrame n inp).nest n).analysis = (s.nest n).analysis.frame inp (s.windowFrame n) := by
  rw [State.nestFrame, moveOn_analysis, modEngine_analysis, State.analyseFrame, nest_modNest, if_pos rfl]
  rfl

/-! ### What a window frame adds (R84, R85, R86, R95) -/

/-- A step without HARM leaves the harmonic sums (R85). -/
theorem addHarmonics_if (b : Bool) (w : Window) (v : Int) (phase : BitVec 32) :
    (if b then w.addHarmonics v phase else w) = { w with
      h2 := if b then w.h2.addHarmonic 2 v phase else w.h2, h3 := if b then w.h3.addHarmonic 3 v phase else w.h3
      h4 := if b then w.h4.addHarmonic 4 v phase else w.h4, h5 := if b then w.h5.addHarmonic 5 v phase else w.h5 } := by
  cases b <;> rfl

theorem addCurrent_if (b : Bool) (w : Window) (x : Correlator) :
    (if b then { w with current := x } else w) = { w with current := if b then x else w.current } := by
  cases b <;> rfl

theorem addResidual_if (b : Bool) (w : Window) (r : Int) :
    (if b then w.addResidual r else w) = { w with
      peak := if b then max w.peak r.natAbs else w.peak
      residual := if b then w.residual + (r * r).toNat else w.residual } := by
  cases b <;> rfl

theorem setFind_if (b : Bool) (w : Window) (p : PolarityFind) :
    (if b then { w with find := p } else w) = { w with find := if b then p else w.find } := by
  cases b <;> rfl

/-- A window frame, field by field (R84). -/
theorem accumulate_eq (w : Window) (st : Step) (x : Analysis) (inp : FrameInput) (m c a : Sample) (phase : BitVec 32)
    (loud : Bool) (threshold : Nat) : w.accumulate st x inp m c a phase loud threshold =
    let r := residualOf st.residual m.toInt x.m1.toInt x.m2.toInt x.m3.toInt x.m4.toInt
    { h1 := w.h1.add m.toInt phase
      h2 := if st.harm then w.h2.addHarmonic 2 m.toInt phase else w.h2
      h3 := if st.harm then w.h3.addHarmonic 3 m.toInt phase else w.h3
      h4 := if st.harm then w.h4.addHarmonic 4 m.toInt phase else w.h4
      h5 := if st.harm then w.h5.addHarmonic 5 m.toInt phase else w.h5
      current := if st.imp then w.current.add c.toInt phase else w.current
      peak := if st.rb then max w.peak r.natAbs else w.peak
      residual := if st.rb then w.residual + (r * r).toNat else w.residual
      micEnergy := w.micEnergy + magnitude m * magnitude m
      ambEnergy := w.ambEnergy + magnitude a * magnitude a
      invalid := w.invalid + (if inp.mic.valid then 0 else 1) + (if !inp.cur.valid && st.imp then 1 else 0)
      clip := w.clip || atExtreme m
      find := if st.kind == .pulse then w.find.next m threshold else w.find
      slipSeen := w.slipSeen || inp.slip
      loudSeen := w.loudSeen || loud } := by
  unfold Window.accumulate
  extract_lets w1 w2 w3 w4 r
  have harmonics : w2 = _ := addHarmonics_if st.harm w1 m.toInt phase
  have current : w3 = _ := addCurrent_if st.imp w2 (w2.current.add c.toInt phase)
  have residual : w4 = _ := addResidual_if st.rb w3 r
  refine (setFind_if (st.kind == .pulse) w4 (w4.find.next m threshold)).trans ?_
  rw [residual, current, harmonics]

theorem add_pair (c : Correlator) (v : Int) (phase : BitVec 32) :
    (c.add v phase).i = c.i + v * sineV (phase + 0x40000000#32) ∧ (c.add v phase).q = c.q + v * sineV phase := ⟨rfl, rfl⟩

theorem magnitude_mul_self (m : Sample) : ((magnitude m * magnitude m : Nat) : Int) = m.toInt * m.toInt :=
  Int.natAbs_mul_self

theorem atExtreme_iff (m : Sample) : atExtreme m = true ↔ m = 0x7FFFFF#24 ∨ m = 0x800000#24 := by
  rw [← BitVec.toInt_inj, ← BitVec.toInt_inj]
  simp [atExtreme]

/-- The residual by its order (R86), as the differences of the history give it. -/
theorem eq_residualOf {order : Nat} {m h1 h2 h3 h4 r : Int} (h : 1 ≤ order) (h' : order ≤ 4)
    (r1 : order = 1 → r = m - h1) (r2 : order = 2 → r = m - 2 * h1 + h2)
    (r3 : order = 3 → r = m - 3 * h1 + 3 * h2 - h3)
    (r4 : order = 4 → r = m - 4 * h1 + 6 * h2 - 4 * h3 + h4) : r = residualOf order m h1 h2 h3 h4 := by
  match order, h, h' with
  | 1, _, _ => exact r1 rfl
  | 2, _, _ => exact r2 rfl
  | 3, _, _ => exact r3 rfl
  | 4, _, _ => exact r4 rfl

/-- The first frame of a PULSE at or above the threshold gives the find its sign (R95). -/
theorem next_finds {m : Sample} {threshold : Nat} (h : threshold ≤ m.toInt.natAbs) :
    PolarityFind.next .notFound m threshold = if m.toInt < 0 then .negative else .positive := by
  have hm : threshold ≤ magnitude m := h
  rw [PolarityFind.next, if_pos hm]
  by_cases hm : m.toInt < 0
  · rw [if_pos hm, if_neg (by omega)]
  · rw [if_neg hm, if_pos (by omega)]

theorem next_stays {p : PolarityFind} {m : Sample} {threshold : Nat} (h : p ≠ .notFound ∨ m.toInt.natAbs < threshold) :
    p.next m threshold = p := by
  cases p with
  | notFound => exact if_neg (Nat.not_le.mpr (h.resolve_left fun hn => hn rfl))
  | positive => rfl
  | negative => rfl

/-- A head frame in the analysis engine: the last valid values, the history and the window (R83). -/
theorem frame_eq (x : Analysis) (inp : FrameInput) (win : Option WindowFrame) :
    let m := if inp.mic.valid then inp.mic.sample else x.lastMic
    let c := if inp.cur.valid then inp.cur.sample else x.lastCur
    let a := if inp.ref.valid then inp.ref.sample else x.lastRef
    (x.frame inp win).lastMic = m ∧ (x.frame inp win).lastCur = c ∧ (x.frame inp win).lastRef = a ∧
    (x.frame inp win).m1 = m ∧ (x.frame inp win).m2 = x.m1 ∧ (x.frame inp win).m3 = x.m2 ∧ (x.frame inp win).m4 = x.m3 ∧
    (win = none → (x.frame inp win).win = x.win) ∧
    (∀ f, win = some f → (x.frame inp win).win = x.win.accumulate f.step x inp m c a f.phase f.loud f.threshold) :=
  ⟨rfl, rfl, rfl, rfl, rfl, rfl, rfl, fun h => by rw [h]; rfl, fun f h => by rw [h]; rfl⟩

/-- Settles O36: the decision by what R70 asks, the window frame by where the nest stands, and its sums field by field
(`accumulate_eq`). -/
theorem windowStartDecides : Obligations.WindowStartDecides := by
  unfold Obligations.WindowStartDecides
  refine ⟨fun n s hp hm hw hk => ?_, fun n s hnot => ?_, fun n s inp => ?_, fun x inp win => ?_⟩
  · have hdue : s.windowStartDue n = true := windowStartDue_iff.mpr ⟨hp, hm, hw, hk⟩
    refine ⟨fun hl he => ?_, fun ho => ?_, exec_windowStart n s⟩
    · rw [exec_windowStart, decideWindow_due hdue, hl, decideWindow_holds _ he]
    · rw [exec_windowStart, decideWindow_due hdue, decideWindow_opens _ ho]
  · have hd : s.decideWindow n = s := decideWindow_not_due (windowStartDue_iff.not.mpr hnot)
    exact ⟨hd, by rw [exec_windowStart, hd]⟩
  · refine ⟨fun hw => ?_, fun hw => ?_⟩
    · rw [nestFrame_analysis, State.windowFrame, if_pos (inWindow_iff.mpr hw)]
    · rw [nestFrame_analysis, State.windowFrame, if_neg (inWindow_iff.not.mpr hw)]
  · obtain ⟨h1, h2, h3, h4, h5, h6, h7, h8, hwin⟩ := frame_eq x inp win
    refine ⟨h1, h2, h3, h4, h5, h6, h7, h8, fun f hf => ?_⟩
    rw [hwin f hf, accumulate_eq]
    generalize (if inp.mic.valid then inp.mic.sample else x.lastMic) = m
    generalize (if inp.cur.valid then inp.cur.sample else x.lastCur) = c
    generalize (if inp.ref.valid then inp.ref.sample else x.lastRef) = a
    refine ⟨add_pair _ _ _, fun hh => ?_, fun hh => ?_, fun hi => ?_, fun hi => ?_,
      fun r hr r1 r2 r3 r4 hlo hhi => ?_, fun hr => ?_, ?_, ?_, ?_, ?_, by simp, by simp, ?_, fun hstay => ?_⟩
    · simp only [hh, if_true]
      exact ⟨add_pair _ _ _, add_pair _ _ _, add_pair _ _ _, add_pair _ _ _⟩
    · simp only [hh, Bool.false_eq_true, if_false, and_self]
    · simp only [hi, if_true]
      exact add_pair _ _ _
    · simp only [hi, Bool.false_eq_true, if_false]
    · have hres := eq_residualOf hlo hhi r1 r2 r3 r4
      simp only [hr, if_true, ← hres, Nat.cast_add, Int.toNat_of_nonneg (mul_self_nonneg r), and_self]
    · simp only [hr, Bool.false_eq_true, if_false, and_self]
    · rw [Nat.cast_add, magnitude_mul_self]
    · rw [Nat.cast_add, magnitude_mul_self]
    · cases inp.mic.valid <;> cases inp.cur.valid <;> simp
    · rw [Bool.or_eq_true, atExtreme_iff]
    · rintro ⟨hk, hn, ht⟩
      simp only [hk, beq_self_eq_true, if_true, hn, next_finds ht]
    · by_cases hk : f.step.kind = .pulse
      · simp only [hk, beq_self_eq_true, if_true, next_stays (hstay.resolve_left fun hne => hne hk)]
      · simp only [beq_eq_false_iff_ne.mpr hk, Bool.false_eq_true, if_false]

end Sys2Proof.Machine
end

section
/-! PROOFS. How the engine moves on (R43, R44, R46, R50, R52, R56, R69, R72, R75): the end of a dwell and of a fade, one head frame of a
nest by the engine's mode, and O38. -/

namespace Sys2Proof.Machine

/-! ### The rows -/

theorem exec_windowEnd (n : NestId) (s : State) :
    exec (.windowEnd n) s = if s.windowEndDue n then .next (s.closeWindow n).endEvent else .next s := rfl

theorem exec_dwellEnd (n : NestId) (s : State) :
    exec (.dwellEnd n) s = .next (if s.dwellEndDue n then s.endDwell n else s) := rfl

theorem exec_stepFadeEnd (n : NestId) (s : State) :
    exec (.stepFadeEnd n) s = .next (if s.stepFadeEndDue n then s.endStepFade n else s) := rfl

theorem exec_fadeEnd (n : NestId) (s : State) : exec (.fadeEnd n) s = .next (s.fadeEnded n).endEvent := rfl

theorem windowEndDue_iff {s : State} {n : NestId} : s.windowEndDue n = true ↔ (s.nest n).phase = .running ∧
    (s.nest n).engine.mode = .step ∧ (s.nest n).window = .isOpen ∧ (s.nest n).engine.held = false ∧
      (s.nest n).engine.k + 1 = (s.stepRec n).we := by
  simp [State.windowEndDue, and_assoc]

theorem dwellEndDue_iff {s : State} {n : NestId} : s.dwellEndDue n = true ↔ (s.nest n).phase = .running ∧
    (s.nest n).engine.mode = .step ∧ (s.nest n).window = .closed ∧ (s.nest n).engine.held = false ∧
      (s.nest n).engine.k + 1 = (s.stepRec n).dwell := by
  simp [State.dwellEndDue, and_assoc]

/-! ### The next dwell (R46, R50, R56, R72) -/

theorem nextPosition_stepRec (e : Engine) (x : Tables) (marked : Bool) :
    (e.nextPosition marked).stepRec x = x.step (if marked then e.step else e.step + 1) := by
  cases marked <;> rfl

/-- The dwell before the next one is the one that has ended (R46). -/
theorem nextPosition_afterTone (e : Engine) (x : Tables) (marked : Bool) :
    (e.nextPosition marked).afterTone x = true ↔ (e.stepRec x).kind = .tone := by
  cases marked <;> simp [Engine.afterTone, Engine.nextPosition, Engine.stepRec]

/-- A TONE before a dwell that is no TONE fades out first, where the slot has fade frames (R50, R56). -/
theorem nextDwell_fades {e : Engine} {x : Tables} {marked : Bool} (trim : Nat) (h : (e.stepRec x).kind = .tone ∧
      (x.step (if marked then e.step else e.step + 1)).kind ≠ .tone ∧ 0 < x.settingsRow.fade) :
    e.nextDwell x trim marked =
      { e.nextPosition marked with mode := .stepFade, fade := 0, fadeLen := x.settingsRow.fade } := by
  simp only [Engine.nextDwell, nextPosition_stepRec]
  exact if_pos (by simpa [and_assoc] using h)

theorem nextDwell_enters {e : Engine} {x : Tables} {marked : Bool} (trim : Nat) (h : ¬ ((e.stepRec x).kind = .tone ∧
      (x.step (if marked then e.step else e.step + 1)).kind ≠ .tone ∧ 0 < x.settingsRow.fade)) :
    e.nextDwell x trim marked = ({ e.nextPosition marked with last := e.dwellPlayed x } : Engine).enterDwell x trim := by
  simp only [Engine.nextDwell, nextPosition_stepRec]
  exact if_neg (by simpa [and_assoc] using h)

/-- The position after a dwell's end (R72), whether a fade comes first or not. -/
theorem nextDwell_position (e : Engine) (x : Tables) (trim : Nat) (marked : Bool) :
    (e.nextDwell x trim marked).step = (e.nextPosition marked).step ∧
    (e.nextDwell x trim marked).retry = (e.nextPosition marked).retry ∧
    (e.nextDwell x trim marked).k = 0 ∧ (e.nextDwell x trim marked).ext = 0 ∧ (e.nextDwell x trim marked).held = false := by
  have hp : (e.nextPosition marked).k = 0 ∧ (e.nextPosition marked).ext = 0 ∧ (e.nextPosition marked).held = false := by
    cases marked <;> exact ⟨rfl, rfl, rfl⟩
  obtain ⟨hk, hext, hheld⟩ := hp
  simp only [Engine.nextDwell]
  split
  · exact ⟨rfl, rfl, hk, hext, hheld⟩
  · exact ⟨rfl, rfl, rfl, hext, rfl⟩

/-- The engine at frame k = 0 of a dwell, whole (R44, R46, R48, R52, R56). -/
theorem enterDwell_eq (e : Engine) (x : Tables) (trim : Nat) : e.enterDwell x trim = { e with
    mode := .step, k := 0, held := false
    acc := if (e.stepRec x).kind = .tone ∧ e.afterTone x = true then e.acc else 0#32
    inc := BitVec.ofNat 32 (increment (e.stepRec x).freq), aeff := stepAmplitude (e.stepRec x).level trim
    lobe := if (e.stepRec x).kind = .pulse then .isOpen else .ended } := by
  simp [Engine.enterDwell]

/-- The dwell entered next without a fade: its own increment, amplitude and lobe, its phase kept from TONE to TONE. -/
theorem nextDwell_entered {e : Engine} {x : Tables} {marked : Bool} (trim : Nat) (next : Step)
    (hnext : next = x.step (if marked then e.step else e.step + 1))
    (h : ¬ ((e.stepRec x).kind = .tone ∧ next.kind ≠ .tone ∧ 0 < x.settingsRow.fade)) :
    let y := e.nextDwell x trim marked
    y.mode = .step ∧ y.inc = BitVec.ofNat 32 (increment next.freq) ∧ y.aeff = stepAmplitude next.level trim ∧
    y.acc = (if (e.stepRec x).kind = .tone ∧ next.kind = .tone then e.acc else 0#32) ∧
    y.lobe = (if next.kind = .pulse then .isOpen else .ended) ∧
    y.last = (if (e.stepRec x).kind = .tone then .tone e.inc e.aeff else .quiet) := by
  subst hnext
  have hrec := nextPosition_stepRec e x marked
  have hafter := nextPosition_afterTone e x marked
  have hacc : (e.nextPosition marked).acc = e.acc := by cases marked <;> rfl
  intro y
  have hy : y = ({ e.nextPosition marked with last := e.dwellPlayed x } : Engine).enterDwell x trim :=
    nextDwell_enters trim h
  rw [hy, enterDwell_eq, ← hrec]
  exact ⟨rfl, rfl, rfl, if_congr (and_comm.trans (and_congr_left' hafter)) hacc rfl, rfl, by simp [Engine.dwellPlayed]⟩

/-- DWELL_END where it is due (R72): the nest's engine, window and retry mark change, nothing else. -/
theorem endDwell_eq (s : State) (n : NestId) : s.endDwell n = s.setNest n { s.nest n with
    window := .before, retryMarked := false
    engine := (s.nest n).engine.nextDwell (s.runTables n) (s.nest n).config.trim (s.nest n).retryMarked } := rfl

/-! ### The end of a fade (R50, R75) -/

theorem endStepFade_eq (s : State) (n : NestId) : s.endStepFade n = s.setNest n { s.nest n with
    engine := ({ (s.nest n).engine with last := .quiet } : Engine).enterDwell (s.runTables n) (s.nest n).config.trim } := rfl

theorem fadeEnded_closing {s : State} {n : NestId} (h : (s.nest n).phase = .closing) : s.fadeEnded n =
    s.setNest n { s.nest n with phase := .reporting, engine := { (s.nest n).engine with mode := .silent } } := by
  rw [State.fadeEnded, if_pos (by simp [h])]
  rfl

/-! ### The frame sounded (R43, R52) -/

/-- A STEP frame sounded: the accumulator's advance, and the lobe's end in the second half of a cycle (R43, R52). -/
theorem advance_step {e : Engine} (x : Tables) (h : e.mode = .step) : e.advance x = { e with
    acc := e.acc + e.inc, last := .here
    lobe := if (e.stepRec x).kind = .pulse ∧ e.lobe = .isOpen ∧ 2 ^ 31 ≤ e.acc.toNat then .ended else e.lobe } := by
  simp [Engine.advance, h, and_assoc]

theorem advance_silent {e : Engine} (x : Tables) (h : e.mode = .silent) : e.advance x = e := by
  simp only [Engine.advance, h]

theorem advance_fade {e : Engine} (x : Tables) (h : e.mode = .stepFade ∨ e.mode = .endFade) :
    e.advance x = { e with acc := e.acc + e.inc } := by
  rcases h with h | h <;> simp only [Engine.advance, h]

/-! ### The move to the next position (R43, R50, R69) -/

theorem moveOn_silent {s : State} {n : NestId} (h : (s.nest n).engine.mode = .silent) : s.moveOn n = s := by
  simp only [State.moveOn, h]

theorem moveOn_step {s : State} {n : NestId} (h : (s.nest n).engine.mode = .step) : s.moveOn n = s.moveStep n := by
  simp only [State.moveOn, h]

theorem moveOn_stepFade {s : State} {n : NestId} (h : (s.nest n).engine.mode = .stepFade) : s.moveOn n =
    if s.stepFadeEndDue n then s.endStepFade n else s.modEngine n fun e => { e with fade := e.fade + 1 } := by
  simp only [State.moveOn, h]

theorem moveOn_endFade {s : State} {n : NestId} (h : (s.nest n).engine.mode = .endFade) : s.moveOn n =
    if (s.nest n).engine.fadeLen ≤ (s.nest n).engine.fade + 1 then s.fadeEnded n
    else s.modEngine n fun e => { e with fade := e.fade + 1 } := by
  simp only [State.moveOn, h]

theorem moveStep_held {s : State} {n : NestId} (h : (s.nest n).engine.held = true) : s.moveStep n = s := by
  rw [State.moveStep, if_pos h]

/-- The position after a frame of a dwell in a run that goes on (R69). -/
def State.nextFrame (s : State) (n : NestId) : State :=
  if s.dwellEndDue n then s.endDwell n else s.modEngine n fun e => { e with k := e.k + 1 }

/-- No window ends: the dwell ends or goes on. -/
theorem moveStep_in_dwell {s : State} {n : NestId} (hh : (s.nest n).engine.held = false) (hw : s.windowEndDue n = false)
    (hp : (s.nest n).phase = .running) (hm : (s.nest n).engine.mode = .step) : s.moveStep n = s.nextFrame n := by
  simp [State.moveStep, State.nextFrame, hh, hw, hp, hm]

/-- A window ends, and then, where the run goes on, the dwell ends or goes on. -/
theorem moveStep_at_window_end {s : State} {n : NestId} (hw : s.windowEndDue n = true) :
    (((s.closeWindow n).nest n).phase ≠ .running → s.moveStep n = s.closeWindow n) ∧
    (((s.closeWindow n).nest n).phase = .running → s.moveStep n = (s.closeWindow n).nextFrame n) := by
  obtain ⟨-, hm, -, hh, -⟩ := windowEndDue_iff.mp hw
  refine ⟨fun hp => ?_, fun hp => ?_⟩
  · simp [State.moveStep, hh, hw, hp]
  · have hm' : ((s.closeWindow n).nest n).engine.mode = .step := by rw [((closeWindow_closes s n).goesOn hp).engine, hm]
    simp [State.moveStep, State.nextFrame, hh, hw, hp, hm']

theorem nextFrame_dwellEnd {s : State} {n : NestId} (h : s.dwellEndDue n = true) :
    exec (.dwellEnd n) s = .next (s.nextFrame n) := by
  rw [exec_dwellEnd, State.nextFrame, if_pos h, if_pos h]

theorem nextFrame_goesOn {s : State} {n : NestId} (h : s.dwellEndDue n = false) : s.nextFrame n =
    s.setNest n { s.nest n with engine := { (s.nest n).engine with k := (s.nest n).engine.k + 1 } } := by
  rw [State.nextFrame, if_neg (by simp [h])]
  rfl

/-! ### One head frame of a nest (R43, R69, R83) -/

/-- The state once a nest's frame has been analysed and its engine has come to y. -/
def State.played (s : State) (n : NestId) (a : Analysis) (y : Engine) : State :=
  s.setNest n { s.nest n with analysis := a, engine := y }

theorem nestFrame_eq (s : State) (n : NestId) (inp : FrameInput) : s.nestFrame n inp =
    (s.played n ((s.nestFrame n inp).nest n).analysis ((s.nest n).engine.advance (s.runTables n))).moveOn n := by
  have ht : (s.analyseFrame n inp).runTables n = s.runTables n :=
    runTables_congr (by simp [State.analyseFrame]) (by simp)
  rw [nestFrame_analysis, State.nestFrame, ht]
  simp only [State.analyseFrame, State.modEngine, modNest_modNest]
  rfl

variable (s : State) (n : NestId) (a : Analysis) (y : Engine)

theorem played_nest : (s.played n a y).nest n = { s.nest n with analysis := a, engine := y } := by
  rw [State.played, nest_setNest, if_pos rfl]

theorem played_runTables : (s.played n a y).runTables n = s.runTables n :=
  runTables_congr (by rw [played_nest]) rfl

theorem played_setNest (v : Nest) : (s.played n a y).setNest n v = s.setNest n v := setNest_setNest s n _ v

/-- Another engine stands at the same frame of the same dwell, or outside one. -/
structure Engine.SamePlace (e y : Engine) : Prop where
  mode : y.mode = e.mode
  step : y.step = e.step
  k : y.k = e.k
  held : y.held = e.held

variable {s n a y}

theorem played_windowEndDue (h : (s.nest n).engine.SamePlace y) : (s.played n a y).windowEndDue n = s.windowEndDue n := by
  simp only [State.windowEndDue, State.stepRec, Engine.stepRec, played_nest, played_runTables, h.mode, h.step, h.k, h.held]

theorem played_dwellEndDue (h : (s.nest n).engine.SamePlace y) : (s.played n a y).dwellEndDue n = s.dwellEndDue n := by
  simp only [State.dwellEndDue, State.stepRec, Engine.stepRec, played_nest, played_runTables, h.mode, h.step, h.k, h.held]

/-- The frame that a fade goes on to (R50). -/
theorem played_nextFade : ((s.played n a y).modEngine n fun e => { e with fade := e.fade + 1 }) =
    s.played n a { y with fade := y.fade + 1 } := by
  rw [State.modEngine, State.modNest, played_nest, played_setNest]
  rfl

theorem played_nextFrame (h : (s.played n a y).dwellEndDue n = false) : (s.played n a y).nextFrame n =
    s.played n a { y with k := y.k + 1 } := by
  rw [nextFrame_goesOn h, played_nest, played_setNest]
  rfl

theorem stepFadeEndDue_iff : s.stepFadeEndDue n = true ↔
    (s.nest n).engine.mode = .stepFade ∧ (s.nest n).engine.fadeLen ≤ (s.nest n).engine.fade + 1 := by
  simp [State.stepFadeEndDue]

theorem advance_last {e : Engine} (x : Tables) (h : e.mode ≠ .step) : (e.advance x).last = e.last := by
  unfold Engine.advance
  split
  · rfl
  · exact absurd ‹_› h
  · rfl
  · rfl

section HeadFrame

variable {inp : FrameInput} {u : State}

theorem nestFrame_silent (hm : (s.nest n).engine.mode = .silent) (ha : a = ((s.nestFrame n inp).nest n).analysis) :
    s.nestFrame n inp = s.played n a (s.nest n).engine := by
  rw [nestFrame_eq, ← ha, advance_silent _ hm, moveOn_silent (by rw [played_nest]; exact hm)]

/-- A STEP frame of a RUNNING nest (R69): once sounded, by whether it is held, ends its window, ends its dwell. -/
theorem nestFrame_step (hm : (s.nest n).engine.mode = .step)
    (hp : (s.nest n).phase = .running) (ha : a = ((s.nestFrame n inp).nest n).analysis)
    (hy : y = (s.nest n).engine.advance (s.runTables n)) (hu : u = s.played n a y) :
    ((s.nest n).engine.held = true → s.nestFrame n inp = u) ∧
    ((s.nest n).engine.held = false → s.windowEndDue n = false → s.nestFrame n inp = u.nextFrame n) ∧
    (s.windowEndDue n = true →
      (((u.closeWindow n).nest n).phase ≠ .running → s.nestFrame n inp = u.closeWindow n) ∧
      (((u.closeWindow n).nest n).phase = .running → s.nestFrame n inp = (u.closeWindow n).nextFrame n)) := by
  have hplace : (s.nest n).engine.SamePlace y := by
    rw [hy, advance_step _ hm]
    exact ⟨rfl, rfl, rfl, rfl⟩
  have hun : u.nest n = { s.nest n with analysis := a, engine := y } := by rw [hu, played_nest]
  have hum : (u.nest n).engine.mode = .step := by rw [hun]; exact hplace.mode.trans hm
  have huh : (u.nest n).engine.held = (s.nest n).engine.held := by rw [hun]; exact hplace.held
  have hup : (u.nest n).phase = .running := by rw [hun]; exact hp
  have huw : u.windowEndDue n = s.windowEndDue n := by rw [hu, played_windowEndDue hplace]
  have ht : s.nestFrame n inp = u.moveStep n := by rw [nestFrame_eq, ← ha, ← hy, ← hu, moveOn_step hum]
  rw [ht]
  exact ⟨fun hh => moveStep_held (huh.trans hh),
    fun hh hw => moveStep_in_dwell (huh.trans hh) (huw.trans hw) hup hum,
    fun hw => moveStep_at_window_end (huw.trans hw)⟩

/-- A STEP_FADE frame: the fade goes on, or its end is that of STEP_FADE_END (R50). -/
theorem nestFrame_stepFade (hm : (s.nest n).engine.mode = .stepFade) (ha : a = ((s.nestFrame n inp).nest n).analysis)
    (hy : y = { (s.nest n).engine with acc := (s.nest n).engine.acc + (s.nest n).engine.inc }) (hu : u = s.played n a y) :
    ((s.nest n).engine.fade + 1 < (s.nest n).engine.fadeLen →
      s.nestFrame n inp = s.played n a { y with fade := (s.nest n).engine.fade + 1 }) ∧
    ((s.nest n).engine.fadeLen ≤ (s.nest n).engine.fade + 1 → exec (.stepFadeEnd n) u = .next (s.nestFrame n inp)) := by
  have hun : u.nest n = { s.nest n with analysis := a, engine := y } := by rw [hu, played_nest]
  have hdue : u.stepFadeEndDue n = true ↔ (s.nest n).engine.fadeLen ≤ (s.nest n).engine.fade + 1 := by
    rw [stepFadeEndDue_iff, hun, hy]
    exact and_iff_right hm
  have ht : s.nestFrame n inp = u.moveOn n := by rw [nestFrame_eq, ← ha, advance_fade _ (.inl hm), ← hy, ← hu]
  rw [ht, moveOn_stepFade (by rw [hun, hy]; exact hm), exec_stepFadeEnd]
  refine ⟨fun hf => ?_, fun hf => ?_⟩
  · rw [if_neg (hdue.not.mpr (Nat.not_le.mpr hf)), hu, played_nextFade, hy]
  · rw [if_pos (hdue.mpr hf), if_pos (hdue.mpr hf)]

/-- An END_FADE frame: the fade goes on, or its end is that of FADE_END (R50, R75). -/
theorem nestFrame_endFade (hm : (s.nest n).engine.mode = .endFade) (ha : a = ((s.nestFrame n inp).nest n).analysis)
    (hy : y = { (s.nest n).engine with acc := (s.nest n).engine.acc + (s.nest n).engine.inc }) (hu : u = s.played n a y) :
    ((s.nest n).engine.fade + 1 < (s.nest n).engine.fadeLen →
      s.nestFrame n inp = s.played n a { y with fade := (s.nest n).engine.fade + 1 }) ∧
    ((s.nest n).engine.fadeLen ≤ (s.nest n).engine.fade + 1 → (s.nest n).phase = .closing →
      exec (.fadeEnd n) u = .next (s.nestFrame n inp).endEvent ∧
      s.nestFrame n inp = s.setNest n { s.nest n with
        analysis := a, phase := .reporting, engine := { y with mode := .silent } }) := by
  have hun : u.nest n = { s.nest n with analysis := a, engine := y } := by rw [hu, played_nest]
  have ht : s.nestFrame n inp = u.moveOn n := by rw [nestFrame_eq, ← ha, advance_fade _ (.inr hm), ← hy, ← hu]
  rw [ht, moveOn_endFade (by rw [hun, hy]; exact hm)]
  refine ⟨fun hf => ?_, fun hf hp => ?_⟩
  · rw [if_neg (by rw [hun, hy]; exact Nat.not_le.mpr hf), hu, played_nextFade, hy]
  · have hend : u.fadeEnded n = u.setNest n { u.nest n with
        phase := .reporting, engine := { (u.nest n).engine with mode := .silent } } :=
      fadeEnded_closing (by rw [hun]; exact hp)
    rw [if_pos (by rw [hun, hy]; exact hf)]
    refine ⟨exec_fadeEnd n u, hend.trans ?_⟩
    rw [hun, hu, played_setNest]

end HeadFrame

/-- Settles O38: the next dwell by `nextDwell`, a head frame by the engine's mode (`nestFrame_eq`, `nestFrame_step`), the ends
of the fades by what each writes. -/
theorem dwellsAndFadesEnd : Obligations.DwellsAndFadesEnd := by
  unfold Obligations.DwellsAndFadesEnd
  refine ⟨fun n s hdue => ⟨s.endDwell n, by rw [exec_dwellEnd, if_pos hdue], ?_⟩, fun e x trim => ?_, fun n s inp => ?_,
    fun n s => ⟨fun hdue => ⟨s.endStepFade n, by rw [exec_stepFadeEnd, if_pos hdue], ?_⟩, fun hp => ?_⟩⟩
  · have hother : ∀ m, m ≠ n → (s.endDwell n).nest m = s.nest m := fun m hm => by simp [endDwell_eq, Ne.symm hm]
    obtain ⟨hstep, hretry, hk, hext, hheld⟩ := nextDwell_position (s.nest n).engine (s.runTables n) (s.nest n).config.trim
      (s.nest n).retryMarked
    have hn : (s.endDwell n).nest n = { s.nest n with
        window := .before, retryMarked := false
        engine := (s.nest n).engine.nextDwell (s.runTables n) (s.nest n).config.trim (s.nest n).retryMarked } := by
      rw [endDwell_eq, nest_setNest, if_pos rfl]
    rw [hn]
    refine ⟨fun hr => ?_, fun hr => ?_, hk, hext, hheld, rfl, rfl, rfl, rfl, rfl, hother, rfl, rfl, rfl, rfl, rfl, rfl, rfl,
      rfl, rfl, rfl, ?_⟩
    · exact ⟨hstep.trans (by rw [hr]; rfl), hretry.trans (by rw [hr]; rfl)⟩
    · exact ⟨hstep.trans (by rw [hr]; rfl), hretry.trans (by rw [hr]; rfl)⟩
    · refine ⟨fun hf => ?_, fun hf => nextDwell_entered _ _ rfl hf⟩
      dsimp only
      rw [nextDwell_fades _ hf]
      cases (s.nest n).retryMarked <;> exact ⟨rfl, rfl, rfl, rfl, rfl, rfl⟩
  · exact ⟨rfl, rfl, fun h => by rw [advance_step x h], advance_last x⟩
  · intro e t analysed played sounded
    refine ⟨fun hm => ?_, fun hm hp => ?_, fun hm => ?_, fun hm => ?_, windowEndDue_iff, dwellEndDue_iff⟩
    · exact nestFrame_silent hm rfl
    · intro stepped u
      have hy : stepped = e.advance (s.runTables n) := (advance_step _ hm).symm
      have hplace : e.SamePlace stepped := ⟨rfl, rfl, rfl, rfl⟩
      have hud : u.dwellEndDue n = s.dwellEndDue n := played_dwellEndDue hplace
      obtain ⟨hheld, hdwell, hwindow⟩ := nestFrame_step hm hp rfl hy (u := u) rfl
      refine ⟨hheld, fun hh hw hd => ?_, fun hw hd => ?_, fun hw => ?_⟩
      · exact (hdwell hh hw).trans (played_nextFrame (hud.trans hd))
      · obtain ⟨-, -, -, hh, -⟩ := dwellEndDue_iff.mp hd
        rw [nextFrame_dwellEnd (hud.trans hd), ← hdwell hh hw]
      · obtain ⟨hends, hgoes⟩ := hwindow hw
        have huw : u.windowEndDue n = true := (played_windowEndDue hplace).trans hw
        intro w
        refine ⟨by rw [exec_windowEnd, if_pos huw], hends, fun hp' => ⟨fun hd => ?_, fun hd => ?_⟩⟩
        · rw [nextFrame_dwellEnd hd, ← hgoes hp']
        · have hwe : (w.nest n).engine = stepped :=
            ((closeWindow_closes u n).goesOn hp').engine.trans (by rw [nest_setNest, if_pos rfl])
          exact (hgoes hp').trans ((nextFrame_goesOn hd).trans (by rw [hwe]))
    · exact nestFrame_stepFade hm rfl rfl rfl
    · exact nestFrame_endFade hm rfl rfl rfl
  · have hother : ∀ m, m ≠ n → (s.endStepFade n).nest m = s.nest m := fun m hm => by simp [endStepFade_eq, Ne.symm hm]
    have hn : (s.endStepFade n).nest n = { s.nest n with
        engine := ({ (s.nest n).engine with last := .quiet } : Engine).enterDwell (s.runTables n)
          (s.nest n).config.trim } := by
      rw [endStepFade_eq, nest_setNest, if_pos rfl]
    rw [hn]
    refine ⟨rfl, rfl, rfl, fun hk => ?_, rfl, rfl, ⟨?_, rfl⟩, rfl, rfl, hother, rfl, rfl, rfl, rfl, rfl, rfl, rfl, rfl⟩
    · rw [enterDwell_eq]
      exact if_neg fun h => hk h.1
    · rw [enterDwell_eq]
      rfl
  · rw [exec_fadeEnd, fadeEnded_closing hp]

end Sys2Proof.Machine
end

section
/-! PROOFS. The nest sequencer's commands: NEST_CONFIG by its checks (R61, R62), ABORT by the nest's phase (R76): O27 and O31. -/

namespace Sys2Proof.Machine

variable {s : State} {n : NestId}

theorem scopeOk_of_nest {c : Kind} (h : c.scopes = .nest) (n : NestId) : c.scopeOk (nestScope n) = true := by
  simp [Kind.scopeOk, h]

/-! ### NEST_CONFIG (R61, R62) -/

theorem exec_nestConfig (n : NestId) (tag : BitVec 8) (w0 w1 : Word) (hr : s.ReplyRoom) :
    exec (.nestConfig (nestScope n) tag w0 w1) s = .next (takeNestConfig (nestScope n) tag w0 w1 s) :=
  exec_taken rfl hr rfl (scopeOk_of_nest rfl n) rfl

/-- A replaced configuration restarts the seat count where the debounce code changes, and leaves the rest (R61, R62). -/
theorem nest_configure_eq (x : Nest) (c : NestConfig) : x.configure c = { x with
    config := c
    seat := { x.seat with count := if c.seatCode = x.config.seatCode then x.seat.count else 0 } } := by
  by_cases h : c.seatCode = x.config.seatCode <;> simp [Nest.configure, h, Debounce.restart]

/-- The field ranges of NEST_CONFIG (R61). -/
abbrev NestFieldsOk (w0 w1 : Word) : Prop :=
  bits w0 0 8 ≠ 0 ∧ bits w0 8 2 ≤ 1 ∧ -8192 ≤ sbits w1 16 16 ∧ sbits w1 16 16 ≤ 8191 ∧ -8192 ≤ sbits w1 0 16 ∧
    sbits w1 0 16 ≤ 8191

theorem calOk_iff {x : Int} : calOk x = true ↔ -8192 ≤ x ∧ x ≤ 8191 := by simp [calOk]

/-- The range test as NEST_CONFIG makes it fails exactly outside the field ranges. -/
theorem nestFieldsOk_iff {w0 w1 : Word} : (bits w0 0 8 == 0 || decide (1 < bits w0 8 2) || !calOk (sbits w1 16 16) ||
    !calOk (sbits w1 0 16)) = false ↔ NestFieldsOk w0 w1 := by
  simp [NestFieldsOk, calOk_iff, and_assoc]

/-- The checks of NEST_CONFIG in their order (R61). -/
theorem nestConfigCheck_eq (s : State) (n : NestId) (w0 w1 : Word) :
    nestConfigCheck s n w0 w1 =
      if (s.nest n).phase ≠ .idle then .busy
      else if ¬ NestFieldsOk w0 w1 then .range
      else if w0.getLsbD 12 = true ∧ s.prot.key.stable = false then .refused
      else .ok := by
  simp only [nestConfigCheck, configOf, bit, ← nestFieldsOk_iff, Bool.not_eq_false, bne_iff_ne, Bool.and_eq_true,
    Bool.not_eq_true']

/-- Settles O27: the checks in their order by `nestConfigCheck_eq`, and the nest as `nest_configure_eq` has it. -/
theorem nestConfigEffect : Obligations.NestConfigEffect := by
  unfold Obligations.NestConfigEffect
  refine ⟨fun n tag w0 w1 s hr hi h0 h1 h2 h3 h4 h5 hkey => ?_, fun n tag w0 w1 s hr => ?_⟩
  · have hf : NestFieldsOk w0 w1 := ⟨h0, h1, h2, h3, h4, h5⟩
    have hc : nestConfigCheck s n w0 w1 = .ok := by
      rw [nestConfigCheck_eq, if_neg (not_not.mpr hi), if_neg (not_not.mpr hf), if_neg]
      rintro ⟨hb, hoff⟩
      simp [hkey hb] at hoff
    rw [exec_nestConfig n tag w0 w1 hr, takeNestConfig, nestOf_nestScope, hc, if_pos (by rfl), State.modNest,
      nest_configure_eq]
    rfl
  · have hrefuse : ∀ {code}, nestConfigCheck s n w0 w1 = code → code ≠ .ok →
        exec (.nestConfig (nestScope n) tag w0 w1) s = .next (s.reply .nestConfig (nestScope n) tag code []) := by
      intro code hcode hne
      rw [exec_nestConfig n tag w0 w1 hr, takeNestConfig, nestOf_nestScope, hcode, if_neg (by simpa using hne)]
    intro refuse inRange
    refine ⟨fun hp => ?_, fun hi (hf : ¬ NestFieldsOk w0 w1) => ?_,
      fun hi (hf : NestFieldsOk w0 w1) hb hoff => ?_⟩
    · exact hrefuse (by rw [nestConfigCheck_eq, if_pos hp]) (by decide)
    · exact hrefuse (by rw [nestConfigCheck_eq, if_neg (not_not.mpr hi), if_pos hf]) (by decide)
    · refine hrefuse ?_ (by decide)
      rw [nestConfigCheck_eq, if_neg (not_not.mpr hi), if_neg (not_not.mpr hf), if_pos ⟨hb, hoff⟩]

/-! ### ABORT (R76) -/

theorem exec_abort (n : NestId) (tag : BitVec 8) (hr : s.ReplyRoom) :
    exec (.abort (nestScope n) tag) s = .next (takeAbort (nestScope n) tag s).endEvent :=
  exec_taken rfl hr rfl (scopeOk_of_nest rfl n) rfl

/-- Settles O31: the two branches of ABORT, by whether the nest's phase holds a unit. -/
theorem abortEffect : Obligations.AbortEffect := by
  unfold Obligations.AbortEffect
  intro n tag s hr
  rw [exec_abort n tag hr, takeAbort, nestOf_nestScope]
  refine ⟨fun h => ?_, fun h => ?_⟩
  · have ha : (s.nest n).phase.active = true := by rcases h with h | h <;> rw [h] <;> rfl
    rw [if_pos ha]
  · have ha : (s.nest n).phase.active = false := by rcases h with h | h | h <;> rw [h] <;> rfl
    rw [if_neg (by rw [ha]; decide)]

end Sys2Proof.Machine
end

section
/-! PROOFS. How START counts its unit (R67, R136, R160, R163): the retest lookup in its three cases, and O30. -/

namespace Sys2Proof.Machine

variable {s : State} {k : SlotId} {serial : BitVec 48} {e : RetestEntry}

/-! ### The retest lookup (R136) -/

theorem lookupRetest_none (k : SlotId) (h : s.retestEntry serial = none) :
    s.lookupRetest k serial = (1, s.reportFirst k) := by
  rw [State.lookupRetest, h]

theorem lookupRetest_return (h : s.retestEntry serial = some e) (hk : e.slot = k) :
    s.lookupRetest k serial = (e.attempts + 1, (s.dropRetest serial).reportReturn k) := by
  simp [State.lookupRetest, h, hk]

theorem lookupRetest_other (h : s.retestEntry serial = some e) (hk : e.slot ≠ k) :
    s.lookupRetest k serial = (1, ((s.dropRetest serial).reportGivenUp e).reportFirst k) := by
  simp [State.lookupRetest, h, hk]

/-! ### What a started run leaves of the counts (R67) -/

/-- The attempt of a run that START binds (R67, R136). -/
def State.startAttempt (s : State) (n : NestId) (k : SlotId) (r : StartRequest) : Nat :=
  if runKindOf r.golden (s.nest n).config.bench = .counted then (s.lookupRetest k r.serial).1 else 1

/-- The run bound is entered with its attempt. -/
theorem enterRun_attempt (t : State) (n : NestId) {k : SlotId} {run : Run} (hk : run.slot = k) :
    (((t.modNest n (Nest.bind run)).enterRun n k).nest n).run.attempt = run.attempt := by
  have hn : (t.modNest n (Nest.bind run)).nest n = (t.nest n).bind run := by rw [nest_modNest, if_pos rfl]
  rw [enterRun_started _ _ _ (by rw [hn]; exact hk), nest_setNest, if_pos rfl, hn]
  obtain ⟨cause, ticks, hrun⟩ := started_run ((t.nest n).bind run)
    ((t.modNest n (Nest.bind run)).slot k).tables ((t.nest n).bind run).run
  rw [hrun]
  rfl

/-- The lots, the retest list, LNK and NTC are as the lookup left them, and the run has its attempt: binding and entering it
touch none of these. -/
theorem startRun_found (s : State) (n : NestId) (k : SlotId) (r : StartRequest) :
    ((s.startRun n k r).nest n).run.attempt = s.startAttempt n k r ∧
    (s.startRun n k r).lots = (s.startFound n k r).lots ∧ (s.startRun n k r).retest = (s.startFound n k r).retest ∧
    (s.startRun n k r).lnk = (s.startFound n k r).lnk ∧ (s.startRun n k r).ntc = (s.startFound n k r).ntc := by
  have he : s.startRun n k r = ((s.startFound n k r).modNest n (Nest.bind (boundRun s k r
      (runKindOf r.golden (s.nest n).config.bench) (s.startAttempt n k r)))).enterRun n k := by
    by_cases hc : runKindOf r.golden (s.nest n).config.bench = .counted
    · simp only [State.startRun, State.startFound, State.startAttempt, hc, if_true]
      rfl
    · simp only [State.startRun, State.startFound, State.startAttempt, beq_eq_false_iff_ne.mpr hc, if_neg hc]
      rfl
  rw [he]
  exact ⟨enterRun_attempt _ n rfl, by simp⟩

/-- A counted START leaves the state as its lookup does: lots, retest list, LNK and NTC. -/
theorem startRun_lookup {n : NestId} {k : SlotId} {r : StartRequest} {attempt : Nat} {u : State}
    (hc : runKindOf r.golden (s.nest n).config.bench = .counted) (hu : s.lookupRetest k r.serial = (attempt, u)) :
    ((s.startRun n k r).nest n).run.attempt = attempt ∧ (s.startRun n k r).lots = u.lots ∧
    (s.startRun n k r).retest = u.retest ∧ (s.startRun n k r).lnk = u.lnk ∧ (s.startRun n k r).ntc = u.ntc := by
  have h := startRun_found s n k r
  rwa [State.startAttempt, State.startFound, if_pos hc, if_pos hc, hu] at h

/-! ### The lots a report changes (R160) -/

theorem reportFirst_lot (s : State) (k j : SlotId) : (s.reportFirst k).lot j =
    if k = j then (s.lot k).map fun l => { l with started := l.started + 1, inFlight := l.inFlight + 1 } else s.lot j :=
  lot_modLot s k j _

theorem reportReturn_lot (s : State) (k j : SlotId) : (s.reportReturn k).lot j =
    if k = j then (s.lot k).map fun l => { l with outstanding := l.outstanding - 1, inFlight := l.inFlight + 1 }
    else s.lot j :=
  lot_modLot s k j _

/-- Settles O30: the uncounted START, and the counted one by the three cases of its lookup. -/
theorem startCountsUnit : Obligations.StartCountsUnit := by
  unfold Obligations.StartCountsUnit
  intro s n k r t kind
  refine ⟨fun hc => ?_, fun hc hnone => ?_, fun hc e he hk => ?_, fun hc e j l he hk hj hjk hl => ?_⟩
  · obtain ⟨ha, hlots, hretest, -, -⟩ := startRun_found s n k r
    rw [State.startAttempt, if_neg hc] at ha
    rw [State.startFound, if_neg hc] at hlots hretest
    exact ⟨ha, hlots, hretest⟩
  · obtain ⟨ha, hlots, hretest, -, -⟩ := startRun_lookup hc (lookupRetest_none k hnone)
    have hlot (i : SlotId) := (lot_congr hlots i).trans (reportFirst_lot s k i)
    exact ⟨ha, hretest.trans (by simp), by rw [hlot, if_pos rfl], fun k' hk' => by rw [hlot, if_neg (Ne.symm hk')]⟩
  · obtain ⟨ha, hlots, hretest, -, -⟩ := startRun_lookup hc (lookupRetest_return he hk)
    have hlot (i : SlotId) := (lot_congr hlots i).trans (reportReturn_lot (s.dropRetest r.serial) k i)
    exact ⟨ha, hretest.trans (by simp [State.dropRetest]), by rw [hlot, if_pos rfl]; rfl,
      fun k' hk' => by rw [hlot, if_neg (Ne.symm hk')]; rfl⟩
  · obtain ⟨ha, hlots, hretest, hlnk, hntc⟩ := startRun_lookup hc (lookupRetest_other he hk)
    have hlot (i : SlotId) := (lot_congr hlots i).trans (reportFirst_lot ((s.dropRetest r.serial).reportGivenUp e) k i)
    obtain ⟨b, hb⟩ := reportGivenUp_lot (s.dropRetest r.serial) e j l hj hl
    have hother (i : SlotId) (hi : i ≠ j) : ((s.dropRetest r.serial).reportGivenUp e).lot i = s.lot i :=
      reportGivenUp_lot_ne _ e j i hj (Ne.symm hi)
    have hown : t.lot j = ((s.dropRetest r.serial).reportGivenUp e).lot j := by rw [hlot, if_neg (Ne.symm hjk)]
    refine ⟨ha, hretest.trans (by simp [State.dropRetest]), ?_, ⟨hown, hlnk.trans (by simp [State.dropRetest]),
      hntc.trans (by simp [State.dropRetest])⟩, ⟨_, hown.trans hb, rfl, fun i => getElem_countClasses _ _ i⟩,
      fun k' hk' hj' => ?_⟩
    · rw [hlot, if_pos rfl, hother k (Ne.symm hjk)]
    · rw [hlot, if_neg (Ne.symm hk'), hother k' hj']

end Sys2Proof.Machine
end

section
/-! PROOFS. What a window's end makes of its nest (R71, R96–R98, R105–R107, R110, R111, R115, R119): one equation for each
outcome, the words of the STEP_RESULT, and O37. -/

namespace Sys2Proof.Machine

variable {s : State} {n : NestId}

/-! ### The parts of a window's end -/

theorem traceWindow_eq (s : State) (n : NestId) (m : Measures) (o : StepOutcome) (cause : Nat) :
    s.traceWindow n m o cause = s.modNest n fun x => { x with
      stepOut := if x.run.trace then some (stepResultEvent n x.engine m o cause) else x.stepOut } := by
  by_cases h : (s.nest n).run.trace = true
  · simp [State.traceWindow, State.modNest, h]
  · have hs := setNest_self s n
    simp [State.traceWindow, State.modNest, h, hs]

theorem writeGolden_eq (r : Run) (t : Tables) (step : Nat) (lfc : Level) : r.writeGolden t step lfc = { r with
    goldenValues := if r.kind = .golden ∧ (t.step step).ref = true then r.goldenValues.set (t.refIndex step) (some lfc)
      else r.goldenValues } := by
  by_cases h : r.kind = .golden ∧ (t.step step).ref = true <;> simp [Run.writeGolden, h]

/-- A nest at its window's end: its window CLOSED and its clip seen joined (R71). -/
def Nest.closeClipped (x : Nest) (clip : Bool) : Nest :=
  { x with window := .closed, run := { x.run with clipSeen := x.run.clipSeen || clip } }

/-- A judged window's classes, first failing step and golden value in a run record (R71, R115, R119). -/
def Run.judged (r : Run) (t : Tables) (step : Nat) (j : Judgement) (lfc : Level) : Run := { r with
  failSet := r.failSet ||| j.failed
  marginalSet := r.marginalSet ||| j.marginal
  firstFail := if j.outcome = .fail ∧ r.firstFail = 255 then step else r.firstFail
  goldenValues := if r.kind = .golden ∧ (t.step step).ref = true then r.goldenValues.set (t.refIndex step) (some lfc)
    else r.goldenValues }

theorem enter_writeGolden (r : Run) (t : Tables) (step : Nat) (j : Judgement) (lfc : Level) :
    (r.enter step j).writeGolden t step lfc = r.judged t step j lfc := by
  simp [writeGolden_eq, Run.enter, Run.judged]

/-- The judgement of the nest's window (R71, R110, R115). -/
def State.windowJudgement (s : State) (n : NestId) : Judgement :=
  judgeStep ((s.runTables n).maskRow (s.stepRec n).mask) (s.windowMeasures n) (s.stepRec n).kind (s.judgingReference n)

/-! ### The window's end by its outcome (R71) -/

/-- What closing the window leaves of what its outcome is read from. -/
theorem closeClipped_reads (s : State) (n : NestId) (clip : Bool) : let a := s.modNest n (Nest.closeClipped · clip)
    a.runTables n = s.runTables n ∧ a.runSettings n = s.runSettings n ∧ a.stepRec n = s.stepRec n ∧
      a.judgingReference n = s.judgingReference n ∧ (a.nest n).engine = (s.nest n).engine := by
  simp [State.runTables, State.runSettings, State.stepRec, State.judgingReference, Nest.closeClipped]

/-- The nest after a window's end with an outcome, its run record given: window, clip seen and STEP_RESULT outbox (R71, R98). -/
def State.windowClosed (s : State) (n : NestId) (o : StepOutcome) (cause : Nat) (run : Run) : Nest := { s.nest n with
  window := .closed
  stepOut := if (s.nest n).run.trace then some (stepResultEvent n (s.nest n).engine (s.windowMeasures n) o cause)
    else (s.nest n).stepOut
  run := { run with clipSeen := (s.nest n).run.clipSeen || (s.windowMeasures n).clip } }

/-- A disturbed window before its last retry: the retry is marked (R71, R107). -/
theorem closeWindow_retried {d : Disturbance}
    (hd : (s.windowMeasures n).disturbance (s.runSettings n).ambientLimit = some d)
    (hr : (s.nest n).engine.retry < (s.runSettings n).retryLimit) : s.closeWindow n =
      s.setNest n { s.windowClosed n .disturbed d.value (s.nest n).run with retryMarked := true } := by
  obtain ⟨-, hset, -, -, heng⟩ := closeClipped_reads s n (s.windowMeasures n).clip
  have hlimit := hr
  rw [← hset, ← heng] at hlimit
  simp only [State.closeWindow, hd, State.disturbWindow]
  rw [traceWindow_eq]
  exact (if_pos hlimit).trans (by rw [modNest_modNest, modNest_modNest]; rfl)

/-- A disturbed window whose retries are exhausted ends the run (R71, R107). -/
theorem closeWindow_disturbed {d : Disturbance}
    (hd : (s.windowMeasures n).disturbance (s.runSettings n).ambientLimit = some d)
    (hr : (s.runSettings n).retryLimit ≤ (s.nest n).engine.retry) : s.closeWindow n =
      (s.setNest n (s.windowClosed n .disturbed d.value { (s.nest n).run with disturbed := true })).endRun n .disturbed := by
  obtain ⟨-, hset, -, -, heng⟩ := closeClipped_reads s n (s.windowMeasures n).clip
  have hlimit := Nat.not_lt.mpr hr
  rw [← hset, ← heng] at hlimit
  simp only [State.closeWindow, hd, State.disturbWindow, State.addDisturbed, State.modRun]
  rw [traceWindow_eq]
  exact (if_neg hlimit).trans (by rw [modNest_modNest, modNest_modNest]; rfl)

/-- A failed contact check ends the run (R71, R97). -/
theorem closeWindow_contact (hd : (s.windowMeasures n).disturbance (s.runSettings n).ambientLimit = none)
    (hc : (s.stepRec n).contact = true) (hf : (s.windowMeasures n).contactFails (s.runSettings n).contactFloor = true) :
    s.closeWindow n =
      (s.setNest n (s.windowClosed n .contact 0 { (s.nest n).run with contact := true })).endRun n .contactCheck := by
  simp only [State.closeWindow, hd, hc, hf, State.addContact, State.modRun, Bool.and_self, if_true]
  rw [traceWindow_eq, modNest_modNest, modNest_modNest]
  rfl

/-- A judged window enters its classes, and the last step's ends the run (R71, R115, R119). -/
theorem closeWindow_judged (hd : (s.windowMeasures n).disturbance (s.runSettings n).ambientLimit = none)
    (hc : (s.stepRec n).contact = true → (s.windowMeasures n).contactFails (s.runSettings n).contactFloor = false) :
    let x := s.nest n
    let u := s.setNest n (s.windowClosed n (s.windowJudgement n).outcome 0
      (x.run.judged (s.runTables n) x.engine.step (s.windowJudgement n) (s.windowMeasures n).lfc))
    s.closeWindow n = if x.engine.step + 1 < (s.runTables n).plan.length then u else u.endRun n .completed := by
  obtain ⟨htab, -, hrec, href, heng⟩ := closeClipped_reads s n (s.windowMeasures n).clip
  have hcheck : ((s.stepRec n).contact && (s.windowMeasures n).contactFails (s.runSettings n).contactFloor) = false := by
    cases h : (s.stepRec n).contact with
    | true => exact hc h
    | false => rfl
  intro x u
  have hu : ((s.modNest n (Nest.closeClipped · (s.windowMeasures n).clip)).modRun n fun r =>
      (r.enter x.engine.step (s.windowJudgement n)).writeGolden (s.runTables n) x.engine.step
        (s.windowMeasures n).lfc).traceWindow n (s.windowMeasures n) (s.windowJudgement n).outcome 0 = u := by
    simp only [traceWindow_eq, enter_writeGolden, State.modRun]
    rw [modNest_modNest, modNest_modNest]
    rfl
  have hj : s.closeWindow n =
      (s.modNest n (Nest.closeClipped · (s.windowMeasures n).clip)).judgeWindow n (s.windowMeasures n) := by
    simp only [State.closeWindow, hd, hcheck]
    rfl
  rw [hj, State.judgeWindow]
  simp only [htab, hrec, href, heng]
  by_cases hlast : x.engine.step + 1 < (s.runTables n).plan.length
  · rw [if_pos hlast]
    exact (if_neg (Nat.not_le.mpr hlast)).trans hu
  · rw [if_neg hlast]
    exact (if_pos (Nat.not_lt.mp hlast)).trans (congrArg (State.endRun · n .completed) hu)

/-! ### The STEP_RESULT (R98) -/

theorem stepResult_word0 (n : NestId) (e : Engine) (m : Measures) (o : StepOutcome) (cause : Nat) :
    let w : Word := put n.val 30 2 ||| put e.step 23 7 ||| put e.retry 20 3 ||| put o.value 17 3 ||| put cause 14 3 |||
      put m.polarity.value 12 2 ||| flag m.clip 11
    w.extractLsb' 30 2 = BitVec.ofNat 2 n.val ∧ w.extractLsb' 23 7 = BitVec.ofNat 7 e.step ∧
    w.extractLsb' 20 3 = BitVec.ofNat 3 e.retry ∧ w.extractLsb' 17 3 = BitVec.ofNat 3 o.value ∧
    w.extractLsb' 14 3 = BitVec.ofNat 3 cause ∧ w.extractLsb' 12 2 = BitVec.ofNat 2 m.polarity.value ∧
    w.getLsbD 11 = m.clip ∧ w.extractLsb' 0 11 = 0#11 := by
  refine ⟨?_, ?_, ?_, ?_, ?_, ?_, by simp, ?_⟩
  all_goals simp [flag, extract_or, extract_put, extract_put_apart]

/-! ### The reference value and the disturbance test (R96, R105, R110, R111) -/

theorem judgingReference_golden (h : (s.nest n).run.kind = .golden) : s.judgingReference n = none := by
  simp [State.judgingReference, h]

theorem judgingReference_empty (h : (s.slot (s.nest n).run.slot).reference = none) : s.judgingReference n = none := by
  simp [State.judgingReference, h]

/-- The reference value of a step is that of its place among the REF steps (R110, R111). -/
theorem judgingReference_ready {values : List Level} {v : Level} (hk : (s.nest n).run.kind ≠ .golden)
    (hr : (s.slot (s.nest n).run.slot).reference = some values)
    (hv : values[((s.runTables n).steps.take (s.nest n).engine.step).countP (·.ref)]? = some v) :
    s.judgingReference n = some v := by
  rw [List.countP_eq_length_filter] at hv
  simp [State.judgingReference, hk, hr, Tables.refIndex, hv]

/-- The causes of a disturbance in R105's order: the first that holds. -/
theorem disturbance_first (m : Measures) (limit : Level) :
    (m.slipSeen = true → m.disturbance limit = some .slip) ∧
    (m.slipSeen = false → m.dropout = true → m.disturbance limit = some .dropout) ∧
    (m.slipSeen = false → m.dropout = false → m.loudSeen = true → m.disturbance limit = some .ambientPeak) ∧
    (m.slipSeen = false → m.dropout = false → m.loudSeen = false →
      (m.la ≠ -32768 → limit < m.la → m.disturbance limit = some .ambientLevel) ∧
      (m.la = -32768 ∨ m.la ≤ limit → m.disturbance limit = none)) := by
  refine ⟨fun h1 => ?_, fun h1 h2 => ?_, fun h1 h2 h3 => ?_, fun h1 h2 h3 => ⟨fun hn hl => ?_, fun hq => ?_⟩⟩
  · simp [Measures.disturbance, h1]
  · simp [Measures.disturbance, h1, h2]
  · simp [Measures.disturbance, h1, h2, h3]
  · simp [Measures.disturbance, h1, h2, h3, hn, hl, Config.noneLevel]
  · have hquiet : ¬ (m.la ≠ -32768 ∧ limit < m.la) := fun h => hq.elim h.1 (Int.not_le.mpr h.2)
    simpa [Measures.disturbance, h1, h2, h3, Config.noneLevel] using hquiet

theorem contactFails_iff (m : Measures) (floor : Level) : m.contactFails floor = true ↔ m.li = -32768 ∨ m.li < floor := by
  simp [Measures.contactFails, Config.noneLevel]

/-! ### WINDOW_END -/

theorem exec_windowEnd_due (h : s.windowEndDue n = true) : exec (.windowEnd n) s = .next (s.closeWindow n).endEvent := by
  rw [exec_windowEnd, if_pos h]

/-- Settles O37: one equation of the window's end for each outcome, the STEP_RESULT's words, and the tests' cases. -/
theorem windowEndOutcomes : Obligations.WindowEndOutcomes := by
  unfold Obligations.WindowEndOutcomes
  refine ⟨fun n s d hdue hd hr => ?_, fun n s hdue hd hc hlast => ?_, fun n s hdue => ?_,
    fun n e m o cause _ _ _ => ?_, fun n s => ⟨judgingReference_golden, judgingReference_empty,
      fun values v hk hr hv => judgingReference_ready hk hr hv⟩, disturbance_first,
    fun n s => ⟨rfl, rfl, decide_eq_true_iff, rfl⟩, fun d => by cases d <;> rfl, contactFails_iff⟩
  · refine ⟨s.closeWindow n, exec_windowEnd_due hdue, ?_⟩
    rw [closeWindow_retried hd hr]
    exact ⟨⟨_, rfl, by rw [nest_setNest, if_pos rfl]; rfl⟩, fun m hm => by rw [nest_setNest, if_neg (Ne.symm hm)],
      rfl, rfl, rfl, rfl, rfl, rfl, rfl, rfl, rfl⟩
  · intro j
    obtain ⟨hp, -⟩ := windowEndDue_iff.mp hdue
    refine ⟨s.closeWindow n, exec_windowEnd_due hdue, ?_⟩
    rw [closeWindow_judged hd hc, if_pos hlast]
    simp only [nest_setNest, if_true]
    exact ⟨hp, rfl, rfl, rfl, rfl, rfl, fun m hm => if_neg (Ne.symm hm), rfl, rfl, rfl, rfl, rfl, rfl, rfl⟩
  · rw [exec_windowEnd_due hdue]
    intro m x clip out
    refine ⟨fun d hd hr => ?_, fun hd hc hf => ?_, fun hd hc => ?_⟩
    · rw [closeWindow_disturbed hd hr]
      rfl
    · rw [closeWindow_contact hd hc hf]
      rfl
    · intro j u
      rw [closeWindow_judged hd hc]
      rfl
  · obtain ⟨f30, f23, f20, f17, f14, f12, f11, f0⟩ := stepResult_word0 n e m o cause
    intro x w0 half
    refine ⟨rfl, rfl, rfl, f30, f23, f20, ?_, f14, ?_, f11, f0, halves_hi _ _, halves_lo _ _, levels_hi _ _, levels_lo _ _,
      levels_hi _ _, levels_lo _ _, levels_hi _ _, levels_lo _ _, levels_hi _ _, levels_lo _ _⟩
    · exact (congrArg BitVec.toNat f17).trans (by cases o <;> rfl)
    · exact (congrArg BitVec.toNat f12).trans (by cases m.polarity <;> rfl)

end Sys2Proof.Machine
end

section
/-! PROOFS. The step measures (R81, R87–R95) and the judgement of a step (R109–R111, R114, R115): PLOG by its leading one, each
measure at zero and above it, the judged limits of a mask row, the outcome and the classes they give; O56 and O60. -/

namespace Sys2Proof.Machine

/-! ### PLOG (R81) -/

/-- The mantissa of x at its leading one, with the one in front, has nine bits (R81, step 2). -/
theorem mantissa_bounds {x p : Nat} (hlo : 2 ^ p ≤ x) (hhi : x < 2 ^ (p + 1)) :
    256 ≤ x * 256 / 2 ^ p ∧ x * 256 / 2 ^ p ≤ 511 := by
  rw [Nat.pow_succ] at hhi
  have hp : 0 < 2 ^ p := Nat.two_pow_pos p
  exact ⟨(Nat.le_div_iff_mul_le hp).mpr (by omega), Nat.le_of_lt_succ ((Nat.div_lt_iff_lt_mul hp).mpr (by omega))⟩

/-- PLOG of an x whose leading one is known: the position and the mantissa are determined by x. -/
theorem plog_of_leadingOne {x p : Nat} (hlo : 2 ^ p ≤ x) (hhi : x < 2 ^ (p + 1)) :
    plog x = 256 * p + (x * 256 / 2 ^ p : Nat) - 256 := by
  have hx : x ≠ 0 := by have := Nat.two_pow_pos p; omega
  rw [plog, (Nat.log2_eq_iff hx).mpr ⟨hlo, hhi⟩]

theorem exists_leadingOne {x : Nat} (hx : 1 ≤ x) : ∃ p, 2 ^ p ≤ x ∧ x < 2 ^ (p + 1) :=
  ⟨x.log2, Nat.log2_self_le (by omega), Nat.lt_log2_self⟩

theorem plog_double {x : Nat} (hx : 1 ≤ x) : plog (2 * x) = plog x + 256 := by
  obtain ⟨p, hlo, hhi⟩ := exists_leadingOne hx
  have hmantissa : 2 * x * 256 / 2 ^ (p + 1) = x * 256 / 2 ^ p := by
    rw [Nat.pow_succ', Nat.mul_assoc, Nat.mul_div_mul_left _ _ two_pos]
  rw [plog_of_leadingOne hlo hhi,
    plog_of_leadingOne (p := p + 1) (by rw [Nat.pow_succ']; omega) (by rw [Nat.pow_succ']; omega), hmantissa]
  omega

theorem plog_bounds {x n : Nat} (hx : 1 ≤ x) (hn : x < 2 ^ n) : 0 ≤ plog x ∧ plog x < 256 * n := by
  obtain ⟨p, hlo, hhi⟩ := exists_leadingOne hx
  have hp : p < n := (Nat.pow_lt_pow_iff_right (by decide)).mp (hlo.trans_lt hn)
  obtain ⟨hm, hm'⟩ := mantissa_bounds hlo hhi
  rw [plog_of_leadingOne hlo hhi]
  omega

/-- Settles O56: the leading one of x, and PLOG below 2^n by the position that it has there. -/
theorem plogValues : Obligations.PlogValues := by
  unfold Obligations.PlogValues
  refine ⟨fun x hx => ?_, fun x hx => plog_double hx, fun x hx hlt => ?_, by decide, by decide, by decide, by decide,
    by decide, by decide, by decide, by decide, by decide⟩
  · obtain ⟨p, hlo, hhi⟩ := exists_leadingOne hx
    obtain ⟨hm, hm'⟩ := mantissa_bounds hlo hhi
    exact ⟨p, x * 256 / 2 ^ p - 256, hlo, hhi, by omega, by omega, by rw [plog_of_leadingOne hlo hhi]; omega⟩
  · obtain ⟨h0, hn⟩ := plog_bounds hx hlt
    exact ⟨h0, by omega⟩

/-! ### The judged limits of a mask row (R109–R111, R114) -/

theorem mem_judgeLimit {limit : Option Level} {cls : ClassSet} {compare : Level → Verge} {j : Judged} :
    j ∈ judgeLimit limit cls compare ↔ ∃ v, limit = some v ∧ j = ⟨cls, compare v⟩ := by
  cases limit <;> simp [judgeLimit]

/-- A fundamental limit is judged at its field, or, REL, at the reference value plus the field (R110, R111). -/
theorem effectiveLimit_eq_some {field reference : Option Level} {rel : Bool} {v : Level} :
    effectiveLimit field rel reference = some v ↔ ∃ f, field = some f ∧ ((rel = false ∧ v = f) ∨
      (rel = true ∧ ∃ r, reference = some r ∧ v = max (-32767) (min 32767 (r + f)))) := by
  cases field with
  | none => simp [effectiveLimit]
  | some f => cases rel <;> simp [effectiveLimit, clampLevel, eq_comm]

/-- R114 as one condition on the expectation. -/
theorem judgePolarity_eq (expectation : Nat) (p : Polarity) : judgePolarity expectation p =
    if expectation = 3 ∨ (expectation = 1 ∧ p = .pos) ∨ (expectation = 2 ∧ p = .neg) then .pass else .fail := by
  unfold judgePolarity
  split <;> simp_all

theorem mem_judge {m : Mask} {x : Measures} {kind : StepKind} {reference : Option Level} {j : Judged} :
    j ∈ m.judge x kind reference ↔
      (∃ v, effectiveLimit m.lower m.lowerRel reference = some v ∧ j = ⟨clsLow, judgeLower v x.lfc m.guard⟩) ∨
      (∃ v, effectiveLimit m.upper m.upperRel reference = some v ∧ j = ⟨clsHigh, judgeUpper v x.lfc m.guard⟩) ∨
      (∃ v, m.thd = some v ∧ j = ⟨clsThd, judgeUpper v x.lthd m.guard⟩) ∨
      (∃ v, m.rb = some v ∧ j = ⟨clsRb, judgeUpper v x.lrb m.guard⟩) ∨
      (∃ v, m.crest = some v ∧ j = ⟨clsCrest, judgeUpper v x.lcr m.guard⟩) ∨
      (∃ v, m.impLower = some v ∧ j = ⟨clsImpLow, judgeLower v x.lz m.guard⟩) ∨
      (∃ v, m.impUpper = some v ∧ j = ⟨clsImpHigh, judgeUpper v x.lz m.guard⟩) ∨
      (∃ v, m.noise = some v ∧ j = ⟨clsNoise, judgeUpper v x.ln m.guard⟩) ∨
      (m.polarity ≠ 0 ∧ kind = .pulse ∧ j = ⟨clsPolarity, judgePolarity m.polarity x.polarity⟩) := by
  have hpolarity : j ∈ (if m.polarity != 0 && kind == .pulse then
        [(⟨clsPolarity, judgePolarity m.polarity x.polarity⟩ : Judged)] else []) ↔
      m.polarity ≠ 0 ∧ kind = .pulse ∧ j = ⟨clsPolarity, judgePolarity m.polarity x.polarity⟩ := by
    simp [and_assoc]
  simp only [Mask.judge, List.mem_append, mem_judgeLimit, hpolarity, or_assoc]

/-! ### Outcome and classes (R115) -/

theorem Verge.eq_pass_iff (v : Verge) : v = .pass ↔ v ≠ .fail ∧ v ≠ .marginal := by
  cases v <;> decide

section Outcome

variable {js : List Judged}

/-- The outcome by the worst result that occurs. -/
theorem judgementOf_outcome (js : List Judged) : (judgementOf js).outcome =
    if ∃ j ∈ js, j.result = .fail then .fail else if ∃ j ∈ js, j.result = .marginal then .marginal else .pass := by
  simp [judgementOf]

theorem judgementOf_outcome_fail : (judgementOf js).outcome = .fail ↔ ∃ j ∈ js, j.result = .fail := by
  rw [judgementOf_outcome]
  split_ifs with hf <;> simp [hf]

theorem judgementOf_outcome_marginal : (judgementOf js).outcome = .marginal ↔
    (∀ j ∈ js, j.result ≠ .fail) ∧ ∃ j ∈ js, j.result = .marginal := by
  have hnone : (∀ j ∈ js, j.result ≠ .fail) ↔ ¬ ∃ j ∈ js, j.result = .fail := by simp
  rw [judgementOf_outcome, hnone]
  split_ifs with hf hm
  · simp [hf]
  · simp [hf, hm]
  · simp [hf, hm]

theorem judgementOf_outcome_pass : (judgementOf js).outcome = .pass ↔ ∀ j ∈ js, j.result = .pass := by
  have hall : (∀ j ∈ js, j.result = .pass) ↔
      (¬ ∃ j ∈ js, j.result = .fail) ∧ ¬ ∃ j ∈ js, j.result = .marginal := by
    simp [Verge.eq_pass_iff, forall_and]
  rw [judgementOf_outcome, hall]
  split_ifs with hf hm
  · simp [hf]
  · simp [hf, hm]
  · simp [hf, hm]

end Outcome

/-- A class is in a union of classes when it was there before or a member has it. -/
theorem getLsbD_foldl_cls (js : List Judged) (acc : ClassSet) (i : Nat) :
    (js.foldl (fun acc j => acc ||| j.cls) acc).getLsbD i = true ↔
      acc.getLsbD i = true ∨ ∃ j ∈ js, j.cls.getLsbD i = true := by
  induction js generalizing acc with
  | nil => simp
  | cons j js ih => simp [ih, or_assoc]

theorem getLsbD_classesWith {js : List Judged} {v : Verge} {i : Nat} :
    (classesWith js v).getLsbD i = true ↔ ∃ j ∈ js, j.result = v ∧ j.cls.getLsbD i = true := by
  simp [classesWith, getLsbD_foldl_cls, and_assoc]

/-! ### The measures at zero and above it (R88–R95) -/

section Measures

variable {square energy width peak harmonics fundamental trim : Nat} {level mcal zcal : Int} {lf lp lrms li : Level}

/-- A computed value cannot become none (R88). -/
theorem clampLevel_ne_none (x : Int) : clampLevel x ≠ -32768 :=
  (Int.lt_of_lt_of_le (by decide) (Int.le_max_left (-32767) (min 32767 x))).ne'

theorem correlatedLevel_zero (h : square = 0) : correlatedLevel square width = -32768 := by
  simp [correlatedLevel, h, Config.noneLevel]

theorem correlatedLevel_pos (h : square ≠ 0) :
    correlatedLevel square width = clampLevel (plog square / 2 - plog width - 9472) := by
  simp [correlatedLevel, h]

theorem correlatedLevel_ne_none (h : square ≠ 0) : correlatedLevel square width ≠ -32768 :=
  correlatedLevel_pos h ▸ clampLevel_ne_none _

theorem calibrated_none (h : lf = -32768) : calibrated lf mcal = -32768 := by
  simp [calibrated, Config.noneLevel, h]

theorem calibrated_of_ne_none (h : lf ≠ -32768) : calibrated lf mcal = clampLevel (lf + mcal) := by
  simp [calibrated, Config.noneLevel, h]

/-- The three cases of R90 in their order: no harmonics, no fundamental, both. -/
theorem thdLevel_cases :
    (harmonics = 0 → thdLevel harmonics fundamental = -32768) ∧
    (harmonics ≠ 0 → fundamental = 0 → thdLevel harmonics fundamental = 32767) ∧
    (harmonics ≠ 0 → fundamental ≠ 0 →
      thdLevel harmonics fundamental = clampLevel (plog harmonics / 2 - plog fundamental / 2)) := by
  refine ⟨fun h => ?_, fun h h1 => ?_, fun h h1 => ?_⟩
  · simp [thdLevel, Config.noneLevel, h]
  · simp [thdLevel, Config.topLevel, h, h1]
  · simp [thdLevel, h, h1]

theorem peakLevel_zero (h : peak = 0) : peakLevel peak = -32768 := by
  simp [peakLevel, Config.noneLevel, h]

theorem peakLevel_pos (h : peak ≠ 0) : peakLevel peak = clampLevel (plog (peak * peak) / 2 - 5888) := by
  simp [peakLevel, h]

theorem peakLevel_ne_none (h : peak ≠ 0) : peakLevel peak ≠ -32768 :=
  peakLevel_pos h ▸ clampLevel_ne_none _

theorem residualLevel_zero (h : energy = 0) : residualLevel energy width = -32768 := by
  simp [residualLevel, Config.noneLevel, h]

theorem residualLevel_pos (h : energy ≠ 0) :
    residualLevel energy width = clampLevel ((plog energy - plog width) / 2 - 5888) := by
  simp [residualLevel, rmsLevel, h]

/-- The three cases of R92 in their order: no residual peak, no fundamental, both. -/
theorem rubBuzz_cases :
    (lp = -32768 → rubBuzz lp lf = -32768) ∧
    (lp ≠ -32768 → lf = -32768 → rubBuzz lp lf = 32767) ∧
    (lp ≠ -32768 → lf ≠ -32768 → rubBuzz lp lf = clampLevel (lp - lf)) := by
  refine ⟨fun h => ?_, fun h h1 => ?_, fun h h1 => ?_⟩
  · simp [rubBuzz, Config.noneLevel, h]
  · simp [rubBuzz, Config.noneLevel, Config.topLevel, h, h1]
  · simp [rubBuzz, Config.noneLevel, h, h1]

theorem crestLevel_zero (h : peak = 0) : crestLevel peak lp lrms = 0 := by
  simp [crestLevel, h]

theorem crestLevel_pos (h : peak ≠ 0) : crestLevel peak lp lrms = clampLevel (lp - lrms) := by
  simp [crestLevel, h]

theorem impedance_zero (h : square = 0) : impedance square level trim li zcal = 32767 := by
  simp [impedance, Config.topLevel, h]

theorem impedance_pos (h : square ≠ 0) :
    impedance square level trim li zcal = clampLevel ((level + plog trim - 1792) - li + zcal) := by
  simp [impedance, h]

theorem noiseLevel_zero (h : energy = 0) : noiseLevel energy width mcal = -32768 := by
  simp [noiseLevel, Config.noneLevel, h]

theorem noiseLevel_pos (h : energy ≠ 0) :
    noiseLevel energy width mcal = clampLevel ((plog energy - plog width) / 2 - 5888 + mcal) := by
  simp [noiseLevel, rmsLevel, h]

/-- R94 puts the ambient level on the scale of the residual RMS (R91). -/
theorem ambientLevel_eq_residualLevel : ambientLevel energy width = residualLevel energy width := rfl

theorem polarityOf_unknown {kind : StepKind} {find : PolarityFind} (h : kind ≠ .pulse ∨ find = .notFound)
    (inverted : Bool) : polarityOf kind find inverted = .unknown := by
  cases kind with
  | pulse => rw [h.resolve_left (by simp)]; rfl
  | _ => rfl

end Measures

/-- Settles O60: the outcome and classes of any judged limits, the judged limits of a row, and every measure in its cases. -/
theorem stepOutcomes : Obligations.StepOutcomes := by
  unfold Obligations.StepOutcomes
  refine ⟨fun js => ⟨judgementOf_outcome_fail, judgementOf_outcome_marginal, judgementOf_outcome_pass,
      fun i => getLsbD_classesWith, fun i => getLsbD_classesWith⟩, fun x kind ref => rfl, fun m x kind ref => rfl,
    fun m x kind reference j => ?_, fun w st c => ?_⟩
  · intro limit polarity
    simp only [mem_judge, effectiveLimit_eq_some, judgePolarity_eq]
    rfl
  · intro m width clamp sq s1 sc h
    obtain ⟨hthd0, hthdSilent, hthd⟩ := thdLevel_cases (harmonics := h) (fundamental := s1)
    obtain ⟨hrb0, hrbSilent, hrb⟩ := rubBuzz_cases (lp := m.lp) (lf := m.lf)
    have hlf0 (h1 : s1 = 0) : m.lf = -32768 := correlatedLevel_zero h1
    have hlf (h1 : s1 ≠ 0) : m.lf ≠ -32768 := correlatedLevel_ne_none h1
    have hlp0 (hp : w.peak = 0) : m.lp = -32768 := peakLevel_zero hp
    have hlp (hp : w.peak ≠ 0) : m.lp ≠ -32768 := peakLevel_ne_none hp
    refine ⟨fun h1 => ⟨hlf0 h1, calibrated_none (hlf0 h1)⟩,
      fun h1 => ⟨correlatedLevel_pos h1, calibrated_of_ne_none (hlf h1)⟩, hthd0, hthdSilent, hthd,
      fun hp => ⟨hlp0 hp, hrb0 (hlp0 hp), crestLevel_zero hp⟩,
      fun hp => ⟨peakLevel_pos hp, crestLevel_pos hp, fun h1 => hrbSilent (hlp hp) (hlf0 h1),
        fun h1 => hrb (hlp hp) (hlf h1)⟩,
      residualLevel_zero, residualLevel_pos, fun hc => ⟨correlatedLevel_zero hc, impedance_zero hc⟩,
      fun hc => ⟨correlatedLevel_pos hc, impedance_pos hc⟩, noiseLevel_zero, noiseLevel_pos,
      fun ha => ambientLevel_eq_residualLevel.trans (residualLevel_zero ha),
      fun ha => ambientLevel_eq_residualLevel.trans (residualLevel_pos ha), fun hu => polarityOf_unknown hu _,
      fun hk hf => ?_, fun hk hf => ?_, rfl, rfl, decide_eq_true_iff, rfl, rfl⟩
    · exact (congrArg₂ (polarityOf · · c.inverted) hk hf :)
    · exact (congrArg₂ (polarityOf · · c.inverted) hk hf :)

end Sys2Proof.Machine
end

section
/-! PROOFS. The ambient monitor (R99–R101, R103): the table of counting, the classification, the two rows, AMBIENT_CONFIG,
and O39. -/

namespace Sys2Proof.Machine

variable {s : State} {c : Channel}

/-! ### The counting of a classified frame (R101) -/

/-- H by its selector as a table (R103). -/
theorem holdFrames_eq : ∀ sel, holdFrames sel = [1, 4, 16, 64].getD sel 64
  | 0 | 1 | 2 | 3 | _ + 4 => rfl

theorem countFrame_hold (hq : s.amb.loud = false) (hh : s.amb.hold + 1 < holdFrames s.amb.holdSel) :
    s.countFrame true = { s with amb := { s.amb with hold := s.amb.hold + 1 } } := by
  simp only [State.countFrame, hq, if_pos hh]

theorem countFrame_turnLoud (hq : s.amb.loud = false) (hh : holdFrames s.amb.holdSel ≤ s.amb.hold + 1) :
    s.countFrame true = s.turnLoud := by
  simp only [State.countFrame, hq, if_neg (Nat.not_lt.mpr hh)]

theorem countFrame_holdReset (hq : s.amb.loud = false) :
    s.countFrame false = { s with amb := { s.amb with hold := 0 } } := by
  simp only [State.countFrame, hq]

theorem countFrame_quiet (hl : s.amb.loud = true) (hc : s.amb.quiet + 1 < s.amb.quietTime) :
    s.countFrame false = { s with amb := { s.amb with quiet := s.amb.quiet + 1 } } := by
  simp only [State.countFrame, hl, if_pos hc]

theorem countFrame_turnQuiet (hl : s.amb.loud = true) (hc : s.amb.quietTime ≤ s.amb.quiet + 1) :
    s.countFrame false = s.turnQuiet := by
  simp only [State.countFrame, hl, if_neg (Nat.not_lt.mpr hc)]

theorem countFrame_quietReset (hl : s.amb.loud = true) :
    s.countFrame true = { s with amb := { s.amb with quiet := 0 } } := by
  simp only [State.countFrame, hl]

/-! ### The two transitions -/

theorem turnLoud_amb (s : State) : s.turnLoud.amb = { s.amb with loud := true, hold := 0, quiet := 0 } := by
  simp [State.turnLoud]

theorem turnLoud_flags (s : State) : s.turnLoud.ntc.flags = s.ntc.flags ||| 8#8 := setFlag_flags _ .ambient

theorem turnLoud_ambient (s : State) : s.turnLoud.ntc.flags.getLsbD 3 = true := setFlag_stands .ambient

theorem turnLoud_enables (s : State) : s.turnLoud.ntc.enables = s.ntc.enables :=
  (turnLoud_reports (.refl s)).kept.1

theorem turnLoud_replyQ (s : State) : s.turnLoud.lnk.replyQ = s.lnk.replyQ := by
  obtain ⟨-, -, -, -, -, -, -, -, -, hq, -⟩ := Link.still_fields (turnLoud_reports (.refl s)).still
  exact hq

/-- The QUIET to LOUD transition: the monitor, AMBIENT, and what stays (R101). -/
theorem turnLoud_effect (s : State) : let t := s.turnLoud
    t.amb = { s.amb with loud := true, hold := 0, quiet := 0 } ∧ t.ntc.flags = s.ntc.flags ||| 8#8 ∧
    t.ntc.enables = s.ntc.enables ∧ t.lnk.replyQ = s.lnk.replyQ ∧ t.slots = s.slots ∧ t.buffers = s.buffers ∧
    t.prot = s.prot ∧ t.nests = s.nests ∧ t.retest = s.retest ∧ t.mrk = s.mrk ∧ t.lots = s.lots := by
  obtain ⟨-, hslots, hbuffers, hprot, hnests, hretest, hmrk, hlots, -⟩ := turnLoud_frame s
  exact ⟨turnLoud_amb s, turnLoud_flags s, turnLoud_enables s, turnLoud_replyQ s, hslots, hbuffers, hprot, hnests,
    hretest, hmrk, hlots⟩

/-! ### The classification of a head frame (R100) -/

theorem loudFrame_iff {a : Ambient} :
    a.loudFrame c = true ↔ c.valid = false ∨ pexp a.code ≤ c.sample.toInt.natAbs := by
  rw [Ambient.loudFrame, Bool.or_eq_true, Bool.not_eq_true', decide_eq_true_eq]
  rfl

theorem hearFrame_loud (h : c.valid = false ∨ pexp s.amb.code ≤ c.sample.toInt.natAbs) :
    s.hearFrame c = s.countFrame true := by
  rw [State.hearFrame, loudFrame_iff.mpr h]

theorem hearFrame_quiet (hv : c.valid = true) (ha : c.sample.toInt.natAbs < pexp s.amb.code) :
    s.hearFrame c = s.countFrame false := by
  have hquiet : s.amb.loudFrame c = false := by
    rw [← Bool.not_eq_true, loudFrame_iff]
    rintro (h | h)
    · simp [hv] at h
    · omega
  rw [State.hearFrame, hquiet]

/-! ### The rows AMBIENT_LOUD and AMBIENT_QUIET (R99, R101) -/

theorem hears_iff : s.hears = true ↔ s.lnk.presence = .present := beq_iff_eq

theorem exec_ambientLoud (s : State) :
    exec .ambientLoud s = .next (if s.lnk.presence = .present ∧ s.amb.loud = false then s.turnLoud else s) := by
  simp only [← hears_iff, ← Bool.not_eq_true', ← Bool.and_eq_true]
  rfl

theorem exec_ambientQuiet (s : State) :
    exec .ambientQuiet s = .next (if s.lnk.presence = .present ∧ s.amb.loud = true then s.turnQuiet else s) := by
  simp only [← hears_iff, ← Bool.and_eq_true]
  rfl

/-! ### AMBIENT_CONFIG (R103) -/

theorem exec_ambientConfig (tag : BitVec 8) (w : Word) (hr : s.ReplyRoom) :
    exec (.ambientConfig 15#4 tag w) s = .next (takeAmbientConfig 15#4 tag w s) :=
  exec_taken rfl hr rfl rfl rfl

/-- The range test of AMBIENT_CONFIG (R103, order 1). -/
theorem takeAmbientConfig_eq (scope : BitVec 4) (tag : BitVec 8) (w : Word) (s : State) :
    takeAmbientConfig scope tag w s =
      if bits w 16 16 = 0 ∨ sbits w 0 13 < -4096 ∨ 0 < sbits w 0 13 then s.reply .ambientConfig scope tag .range []
      else State.reply { s with amb := { s.amb with quietTime := bits w 16 16, holdSel := bits w 14 2,
                                                    code := sbits w 0 13, hold := 0, quiet := 0 } }
        .ambientConfig scope tag .ok [] := by
  simp only [takeAmbientConfig, Bool.or_eq_true, beq_iff_eq, decide_eq_true_eq, or_assoc]

/-- Settles O39: the rows of the counting, the classification, the two transitions at the monitor's state and presence, and
AMBIENT_CONFIG by its range test. -/
theorem ambientMonitor : Obligations.AmbientMonitor := by
  unfold Obligations.AmbientMonitor
  simp only [← holdFrames_eq]
  refine ⟨fun s => ⟨countFrame_hold, fun hq hh => ?_, countFrame_holdReset, countFrame_quiet, countFrame_turnQuiet,
      countFrame_quietReset⟩, fun s c => ⟨hearFrame_loud, hearFrame_quiet⟩, fun s hp => ⟨?_, ?_⟩,
    fun s hp => ⟨fun hq => ⟨s.turnLoud, ?_, turnLoud_effect s⟩, fun hl => ?_⟩,
    fun tag w s hr => ⟨fun hquiet hlo hhi => ?_, fun hrange => ?_⟩⟩
  · rw [countFrame_turnLoud hq hh]
    exact ⟨turnLoud_amb s, turnLoud_ambient s⟩
  · rw [exec_ambientLoud, if_neg fun h => hp h.1]
  · rw [exec_ambientQuiet, if_neg fun h => hp h.1]
  · rw [exec_ambientLoud, if_pos ⟨hp, hq⟩]
  · rw [exec_ambientQuiet, if_pos ⟨hp, hl⟩]
    rfl
  · rw [exec_ambientConfig tag w hr, takeAmbientConfig_eq, if_neg (by omega)]
  · rw [exec_ambientConfig tag w hr, takeAmbientConfig_eq, if_pos hrange]

end Sys2Proof.Machine
end

section
/-! PROOFS. A lower and an upper limit against its measure (R112, R113), and O59. -/

namespace Sys2Proof.Machine

/-- The rows of R112 in their order. -/
theorem judgeLower_eq (lo v : Level) (guard : Nat) : judgeLower lo v guard =
    if v = -32768 then .fail else if lo ≤ v then .pass else if lo - guard ≤ v then .marginal else .fail := by
  simp only [judgeLower, beq_iff_eq]
  rfl

/-- The rows of R113 in their order. -/
theorem judgeUpper_eq (hi v : Level) (guard : Nat) : judgeUpper hi v guard =
    if v = -32768 then .pass else if v = 32767 then (if hi < 32767 then .fail else .pass)
    else if v ≤ hi then .pass else if v ≤ hi + guard then .marginal else .fail := by
  simp only [judgeUpper, beq_iff_eq]
  rfl

/-- Settles O59: each clause is the first row of its table that applies. -/
theorem limitComparison : Obligations.LimitComparison := by
  unfold Obligations.LimitComparison
  refine ⟨fun lo v guard => ?_, fun hi v guard => ?_⟩
  · rw [judgeLower_eq]
    refine ⟨fun hn => if_pos hn, fun hn hp => ?_, fun hn hm hp => ?_, fun hn hf => ?_⟩
    · rw [if_neg hn, if_pos hp]
    · rw [if_neg hn, if_neg (not_le.mpr hp), if_pos hm]
    · have hlo : v < lo := hf.trans_le (Int.sub_le_self lo (Int.natCast_nonneg guard))
      rw [if_neg hn, if_neg (not_le.mpr hlo), if_neg (not_le.mpr hf)]
  · rw [judgeUpper_eq]
    refine ⟨fun hn => if_pos hn, fun ht hlt => ?_, fun ht he => ?_, fun hn ht hp => ?_, fun hn ht hp hm => ?_,
      fun hn ht hf => ?_⟩
    · rw [if_neg (by rw [ht]; decide), if_pos ht, if_pos hlt]
    · rw [if_neg (by rw [ht]; decide), if_pos ht, if_neg (by rw [he]; decide)]
    · rw [if_neg hn, if_neg ht, if_pos hp]
    · rw [if_neg hn, if_neg ht, if_neg (not_le.mpr hp), if_pos hm]
    · have hhi : hi < v := (Int.le_add_of_nonneg_right (Int.natCast_nonneg guard)).trans_lt hf
      rw [if_neg hn, if_neg ht, if_neg (not_le.mpr hhi), if_neg (not_le.mpr hf)]

end Sys2Proof.Machine
end

section
/-! PROOFS. Captures (R117–R125): REF_BEGIN by its checks, REF_CANCEL, the words of a REF_DONE, and what a golden run's end gives
its capture; O25. -/

namespace Sys2Proof.Machine

variable {s : State} {k : SlotId}

/-! ### REF_BEGIN (R117) -/

theorem exec_refBegin (k : SlotId) (tag : BitVec 8) (w : Word) (hr : s.ReplyRoom) :
    exec (.refBegin (slotScope k) tag w) s = .next (takeRefBegin (slotScope k) tag w s) :=
  exec_taken rfl hr rfl (scopeOk_of_slot rfl k) rfl

/-- The checks of REF_BEGIN on an unprotected slot, in their order (R117, orders 2 to 5). -/
theorem refBeginCheck_eq (hp : s.prot.protects k = false) (n : Nat) : refBeginCheck s k n =
    if (s.slot k).loaded = false then .notReady
    else if s.commitPending k = true ∨ (s.slot k).promotionPending = true then .held
    else if (s.slot k).isCapturing = true ∨ (s.slot k).refDone ≠ none then .busy
    else if n = 0 ∨ 8 < n then .range
    else .ok := by
  simp only [refBeginCheck, hp, Bool.false_eq_true, if_false, Bool.not_eq_true', Bool.or_eq_true, decide_eq_true_eq,
    Option.isSome_iff_ne_none, Nat.lt_one_iff]

theorem refBeginCheck_ok {n : Nat} (hp : s.prot.protects k = false) (hl : (s.slot k).loaded = true)
    (hpend : s.commitPending k = false) (hidle : (s.slot k).capture = .idle) (hdone : (s.slot k).refDone = none)
    (hlo : 1 ≤ n) (hhi : n ≤ 8) : refBeginCheck s k n = .ok := by
  rw [refBeginCheck_eq hp, if_neg (by simp [hl]), if_neg (by simp [hpend, Slot.promotionPending, hidle]),
    if_neg (by simp [hdone, Slot.isCapturing, hidle]), if_neg (by omega)]

theorem exec_refBegin_refused {tag : BitVec 8} {w : Word} {code : ResultCode} (hr : s.ReplyRoom)
    (h : refBeginCheck s k (bits w 0 8) = code) (hne : code ≠ .ok) :
    exec (.refBegin (slotScope k) tag w) s = .next (s.reply .refBegin (slotScope k) tag code []) := by
  simp only [exec_refBegin k tag w hr, takeRefBegin, slotOf_slotScope, h, beq_iff_eq, hne, if_false]

/-- The reply word of an accepted REF_BEGIN: REF steps, reference state, reference generation (R117). -/
def refBeginWord (x : Slot) : Word :=
  put x.tables.refCount 24 8 ||| flag x.reference.isSome 16 ||| put x.refGen.toNat 0 16

theorem refBeginWord_fields (x : Slot) : (refBeginWord x).extractLsb' 24 8 = BitVec.ofNat 8 x.tables.refCount ∧
    (refBeginWord x).getLsbD 16 = x.reference.isSome ∧ (refBeginWord x).extractLsb' 0 16 = x.refGen := by
  refine ⟨?_, by simp [refBeginWord], ?_⟩
  all_goals simp [refBeginWord, flag, extract_or, extract_put, extract_put_apart]

theorem exec_refBegin_ok {tag : BitVec 8} {w : Word} (hr : s.ReplyRoom) (h : refBeginCheck s k (bits w 0 8) = .ok) :
    exec (.refBegin (slotScope k) tag w) s = .next ((s.setSlot k { s.slot k with
      capture := .capturing (bits w 0 8) 0 (List.replicate (s.slot k).tables.refCount 0) }).reply
        .refBegin (slotScope k) tag .ok [refBeginWord (s.slot k)]) := by
  simp only [exec_refBegin k tag w hr, takeRefBegin, slotOf_slotScope, h, beq_self_eq_true, if_true, State.modSlot, refBeginWord]

/-! ### REF_CANCEL (R123) -/

theorem exec_refCancel (k : SlotId) (tag : BitVec 8) (hr : s.ReplyRoom) :
    exec (.refCancel (slotScope k) tag) s = .next (takeRefCancel (slotScope k) tag s).endEvent :=
  exec_taken rfl hr rfl (scopeOk_of_slot rfl k) rfl

theorem exec_refCancel_idle (tag : BitVec 8) (hr : s.ReplyRoom) (h : (s.slot k).capture = .idle) :
    exec (.refCancel (slotScope k) tag) s = .next (s.reply .refCancel (slotScope k) tag .refused []).endEvent := by
  simp only [exec_refCancel k tag hr, takeRefCancel, slotOf_slotScope, h, beq_self_eq_true, if_true]

theorem exec_refCancel_running (tag : BitVec 8) (hr : s.ReplyRoom) (h : (s.slot k).capture ≠ .idle) :
    exec (.refCancel (slotScope k) tag) s =
      .next ((s.cancelCapture k .command).reply .refCancel (slotScope k) tag .ok []).endEvent := by
  simp only [exec_refCancel k tag hr, takeRefCancel, slotOf_slotScope, beq_iff_eq, h, if_false]

/-- A running capture's target and count, however far it has come (R116). -/
def Capture.Runs (c : Capture) (target count : Nat) : Prop :=
  (∃ sums, c = .capturing target count sums) ∨ ∃ values, c = .pending target count values

theorem Capture.Runs.unique {c : Capture} {target count target' count' : Nat} (h : c.Runs target count)
    (h' : c.Runs target' count') : target' = target ∧ count' = count := by
  rcases h with ⟨_, rfl⟩ | ⟨_, rfl⟩ <;> simpa [Capture.Runs, eq_comm] using h'

/-- A cancelled capture is IDLE, and the REF_DONE stands in the outbox (R123). -/
theorem cancelCapture_slot_running (o : RefOutcome) {target count : Nat} (h : (s.slot k).capture.Runs target count) :
    (s.cancelCapture k o).slot k =
      { s.slot k with capture := .idle, refDone := some (refDoneEvent k (s.slot k) o target count) } := by
  rw [cancelCapture_slot_same, Slot.cancelledFor]
  rcases h with ⟨_, hc⟩ | ⟨_, hc⟩ <;> rw [hc] <;> rfl

/-- Capture bound falls in a golden run on the slot that is ARMED or RUNNING, and stays in every other (R118). -/
theorem clearBound_bound (k : SlotId) (x : Nest) :
    (x.clearBound k).run.bound = (x.run.bound && !(x.phase.active && x.run.kind == .golden && x.run.slot == k)) := by
  cases h : x.phase.active && x.run.kind == .golden && x.run.slot == k <;> simp [Nest.clearBound, h]

theorem cancelCapture_nest_running (o : RefOutcome) {target count : Nat} (h : (s.slot k).capture.Runs target count) (n : NestId) :
    (s.cancelCapture k o).nest n = (s.nest n).clearBound k := by
  rw [State.cancelCapture]
  rcases h with ⟨_, hc⟩ | ⟨_, hc⟩ <;> simp [hc]

/-! ### REF_DONE (R125) -/

/-- Two levels to a word, an odd last one in a word of its own. -/
theorem packLevels_length : ∀ vs : List Level, (packLevels vs).length = (vs.length + 1) / 2
  | [] => rfl
  | [_] => by simp [packLevels]
  | _ :: _ :: rest => by
    simp only [packLevels, List.length_cons, packLevels_length rest]
    omega

theorem packLevels_at : ∀ (vs : List Level) (i : Nat) (v : Level), vs[i]? = some v →
    ((packLevels vs).getD (i / 2) 0#32).extractLsb' (if i % 2 = 0 then 16 else 0) 16 = BitVec.ofInt 16 v
  | [a], 0, v, h => by
    obtain rfl : a = v := by simpa using h
    exact levels_hi a 0
  | a :: b :: rest, 0, v, h => by
    obtain rfl : a = v := by simpa using h
    exact levels_hi a b
  | a :: b :: rest, 1, v, h => by
    obtain rfl : b = v := by simpa using h
    exact levels_lo a b
  | a :: b :: rest, i + 2, v, h => by
    have ih := packLevels_at rest i v (by simpa using h)
    rwa [packLevels, Nat.add_div_right i two_pos, List.getD_cons_succ, Nat.add_mod_right]

/-- An odd count leaves the last low half zero. -/
theorem packLevels_odd : ∀ vs : List Level, vs.length % 2 = 1 →
    ((packLevels vs).getD (vs.length / 2) 0#32).extractLsb' 0 16 = 0#16
  | [a], _ => by simpa [packLevels] using levels_lo a 0
  | a :: b :: rest, h => by
    have ih := packLevels_odd rest (by simpa [Nat.add_assoc] using h)
    rwa [packLevels, List.length_cons, List.length_cons, Nat.add_assoc, one_add_one_eq_two, Nat.add_div_right _ two_pos,
      List.getD_cons_succ]

/-- The first word of a REF_DONE's body (R125). -/
def refDoneWord (x : Slot) (o : RefOutcome) (target count : Nat) : Word :=
  flag (o != .promoted) 31 ||| put o.cause 28 2 ||| put target 24 4 ||| put count 16 4 ||| put x.tables.refCount 0 8

theorem refDoneEvent_body (k : SlotId) (x : Slot) (o : RefOutcome) (target count : Nat) :
    (refDoneEvent k x o target count).body = refDoneWord x o target count :: halves x.refGen.toNat x.generation.toNat ::
      if o = .promoted then packLevels ((x.reference.getD []).take 120) else [] := by
  simp only [refDoneEvent, refDoneWord, beq_iff_eq, List.cons_append, List.nil_append]

theorem refDoneWord_fields (x : Slot) (o : RefOutcome) (target count : Nat) :
    let w := refDoneWord x o target count
    (w.getLsbD 31 = true ↔ o ≠ .promoted) ∧ w.getLsbD 30 = false ∧ (w.extractLsb' 28 2).toNat = o.cause ∧
    w.extractLsb' 24 4 = BitVec.ofNat 4 target ∧ w.extractLsb' 20 4 = 0#4 ∧ w.extractLsb' 16 4 = BitVec.ofNat 4 count ∧
    w.extractLsb' 8 8 = 0#8 ∧ w.extractLsb' 0 8 = BitVec.ofNat 8 (x.tables.steps.countP (·.ref)) := by
  have hcause : (BitVec.ofNat 2 o.cause).toNat = o.cause := by cases o <;> rfl
  refine ⟨by simp [refDoneWord], by simp [refDoneWord], Eq.trans (congrArg _ ?_) hcause, ?_, ?_, ?_, ?_, ?_⟩
  all_goals
    simp [refDoneWord, flag, extract_or, extract_put, extract_put_apart, Tables.refCount, List.countP_eq_length_filter]

/-- The values that a REF_DONE of a promotion carries (R125). -/
theorem refDoneEvent_values {x : Slot} {values : List Level} (k : SlotId) (target count : Nat) (hv : x.reference = some values) :
    let body := (refDoneEvent k x .promoted target count).body
    body.length = 2 + (min values.length 120 + 1) / 2 ∧
    (∀ i v, i < 120 → values[i]? = some v →
      (body.getD (2 + i / 2) 0#32).extractLsb' (if i % 2 = 0 then 16 else 0) 16 = BitVec.ofInt 16 v) ∧
    (values.length < 120 → values.length % 2 = 1 → (body.getD (2 + values.length / 2) 0#32).extractLsb' 0 16 = 0#16) := by
  have hafter : ∀ (a b : Word) (rest : List Word) (j : Nat), (a :: b :: rest).getD (2 + j) 0#32 = rest.getD j 0#32 :=
    fun a b rest j => by rw [Nat.add_comm]; rfl
  simp only [refDoneEvent_body, if_true, hv, Option.getD_some, hafter]
  refine ⟨?_, fun i v hi h => ?_, fun hlt hodd => ?_⟩
  · rw [List.length_cons, List.length_cons, packLevels_length, List.length_take, Nat.min_comm]
    omega
  · exact packLevels_at _ i v (by rw [List.getElem?_take, if_pos hi, h])
  · rw [List.take_of_length_le hlt.le]
    exact packLevels_odd values hodd

/-! ### A golden run's end (R120, R121) -/

/-- The conditions of R120 on the run alone. -/
def Run.Offers (r : Run) : Prop :=
  r.kind = .golden ∧ r.bound = true ∧ r.endCause = .completed ∧ r.failSet = 0#16 ∧
    ∀ entry ∈ r.goldenValues, ∃ v, entry = some v ∧ v ≠ -32768

/-- An entry that was never written, or holds no number, keeps back all values (R120, condition 4). -/
theorem fullValues_none {entries : List (Option Level)} (h : ¬ ∀ entry ∈ entries, ∃ v, entry = some v ∧ v ≠ -32768) :
    fullValues entries = none := by
  rw [fullValues, if_neg]
  rw [List.all_eq_true]
  refine fun hall => h fun entry hentry => ?_
  cases entry with
  | none => exact absurd (hall none hentry) (by decide)
  | some v => exact ⟨v, rfl, by simpa [Config.noneLevel] using hall (some v) hentry⟩

theorem fullValues_numbers {values : List Level} (h : ∀ entry ∈ values.map some, ∃ v, entry = some v ∧ v ≠ -32768) :
    fullValues (values.map some) = some values := by
  rw [fullValues, if_pos]
  · simp [Function.comp_def]
  · rw [List.all_eq_true]
    intro entry hentry
    obtain ⟨v, rfl, hv⟩ := h entry hentry
    simpa [Config.noneLevel] using hv

/-- The conditions on the run as `offerCapture` tests them. -/
theorem offerCapture_eq (s : State) (r : Run) : s.offerCapture r =
    if r.kind = .golden ∧ r.bound = true ∧ r.endCause = .completed ∧ r.failSet = 0#16 then
      (fullValues r.goldenValues).elim s (s.addToCapture r.slot)
    else s := by
  simp only [State.offerCapture, Bool.and_eq_true, beq_iff_eq, and_assoc]
  cases fullValues r.goldenValues <;> rfl

theorem offerCapture_of_not_offers {r : Run} (h : ¬ r.Offers) : s.offerCapture r = s := by
  rw [offerCapture_eq]
  split
  · rename_i hrun
    obtain ⟨hkind, hbound, hcause, hfail⟩ := hrun
    rw [fullValues_none fun hall => h ⟨hkind, hbound, hcause, hfail, hall⟩]
    rfl
  · rfl

theorem offerCapture_of_offers {r : Run} {values : List Level} (h : r.Offers) (hv : r.goldenValues = values.map some) :
    s.offerCapture r = s.addToCapture r.slot values := by
  obtain ⟨hkind, hbound, hcause, hfail, hall⟩ := h
  rw [hv] at hall
  rw [offerCapture_eq, if_pos ⟨hkind, hbound, hcause, hfail⟩, hv, fullValues_numbers hall]
  rfl

/-- Only a CAPTURING capture takes values (R120). -/
theorem addToCapture_not_capturing {values : List Level}
    (h : ∀ target count sums, (s.slot k).capture ≠ .capturing target count sums) : s.addToCapture k values = s := by
  rw [State.addToCapture]
  split
  · rename_i target count sums hc
    exact absurd hc (h target count sums)
  · rfl

theorem offerCapture_not_capturing {r : Run}
    (h : ∀ target count sums, (s.slot r.slot).capture ≠ .capturing target count sums) : s.offerCapture r = s := by
  rw [offerCapture_eq]
  cases fullValues r.goldenValues with
  | none => exact ite_self s
  | some values => rw [Option.elim_some, addToCapture_not_capturing h, ite_self]

section Contribution

variable {values : List Level} {target count : Nat} {sums : List Int}

theorem addToCapture_more (hc : (s.slot k).capture = .capturing target count sums) (hlt : count + 1 < target) :
    s.addToCapture k values = s.setSlot k { s.slot k with
      capture := .capturing target (count + 1) (List.zipWith (fun a v => a + v) sums values) } := by
  simp only [State.addToCapture, hc, if_pos hlt, State.modSlot]

/-- At N the capture is PENDING with the means, and capture bound falls (R121). -/
theorem addToCapture_full (hc : (s.slot k).capture = .capturing target count sums) (hle : target ≤ count + 1) :
    s.addToCapture k values = State.clearBounds (s.setSlot k { s.slot k with
      capture := .pending target (count + 1) ((List.zipWith (fun a v => a + v) sums values).map (pendingValue target)) }) k := by
  simp only [State.addToCapture, hc, if_neg (Nat.not_lt.mpr hle), State.modSlot]

end Contribution

/-- The pending value is the integer nearest to the mean, a half rounded up (R121). -/
theorem pendingValue_nearest {target : Nat} (h : 0 < target) (sum : Int) :
    2 * target * pendingValue target sum ≤ 2 * sum + target ∧
    2 * sum + target < 2 * target * (pendingValue target sum + 1) := by
  have hpos : (0 : Int) < 2 * target := by omega
  rw [mul_add, mul_one]
  exact ⟨Int.mul_ediv_self_le hpos.ne', Int.lt_mul_ediv_self_add hpos⟩

/-! ### O25 -/

/-- Settles O25: REF_BEGIN by its checks, REF_CANCEL by the capture, the REF_DONE's words, and the contribution by the run's
conditions and the capture's count. -/
theorem captureCommands : Obligations.CaptureCommands := by
  unfold Obligations.CaptureCommands
  refine ⟨fun k tag w s hr hp hl hpend hidle hdone hlo hhi => ?_, fun k tag w s hr hp => ?_,
    fun k tag s hr => ⟨exec_refCancel_idle tag hr, fun hne => ?_⟩, fun k x o target count => ?_,
    fun s r => ⟨offerCapture_of_not_offers, offerCapture_not_capturing,
      fun values target count sums ho hv hc => ⟨fun hlt => ?_, fun hle => ?_⟩⟩⟩
  · obtain ⟨hsteps, hreference, hgen⟩ := refBeginWord_fields (s.slot k)
    exact ⟨_, hsteps, hreference, hgen, exec_refBegin_ok hr (refBeginCheck_ok hp hl hpend hidle hdone hlo hhi)⟩
  · intro refuse held busy
    have hheld : (s.commitPending k = true ∨ (s.slot k).promotionPending = true) ↔ held := by rw [promotionPending_iff]
    have hbusy : ((s.slot k).isCapturing = true ∨ (s.slot k).refDone ≠ none) ↔ busy := by rw [isCapturing_iff]
    rw [← hheld, ← hbusy]
    have hcheck := refBeginCheck_eq hp (bits w 0 8)
    refine ⟨fun hl => ?_, fun hl hh => ?_, fun hl hh hb => ?_, fun hl hh hb hn => ?_⟩ <;>
      refine exec_refBegin_refused hr (hcheck.trans ?_) (by decide)
    · exact if_pos hl
    · rw [if_neg (by simp [hl]), if_pos hh]
    · rw [if_neg (by simp [hl]), if_neg hh, if_pos hb]
    · rw [if_neg (by simp [hl]), if_neg hh, if_neg hb, if_pos hn]
  · obtain ⟨target, count, hruns⟩ := exists_of_capture_ne_idle hne
    obtain ⟨flnk, fbuf, fprot, famb, fret, fmrk, flots, fntc, -⟩ := cancelCapture_frame s k .command
    refine ⟨s.cancelCapture k .command, exec_refCancel_running tag hr hne,
      ⟨_, cancelCapture_slot_running .command hruns, rfl, rfl, rfl, fun target' count' h => ?_⟩,
      fun k' hk => cancelCapture_slot s k .command (Ne.symm hk), fun n => ?_,
      flnk, fbuf, fprot, famb, fret, fmrk, flots, fntc⟩
    · obtain ⟨rfl, rfl⟩ := Capture.Runs.unique hruns h
      rfl
    · rw [cancelCapture_nest_running .command hruns]
      exact ⟨clearBound_bound k _, clearBound_same _ k⟩
  · obtain ⟨h31, h30, hcause, htarget, h20, hcount, h8, hsteps⟩ := refDoneWord_fields x o target count
    refine ⟨rfl, rfl, ?_⟩
    simp only [refDoneEvent_body k x o, List.getD_cons_zero, List.getD_cons_succ]
    refine ⟨h31, h30, hcause.trans (by cases o <;> rfl), htarget, h20, hcount, h8, hsteps, ?_, ?_, fun ho => ?_,
      fun values ho hv => ?_⟩
    · rw [halves_hi, BitVec.ofNat_toNat, BitVec.setWidth_eq]
    · rw [halves_lo, BitVec.ofNat_toNat, BitVec.setWidth_eq]
    · rw [if_neg ho]
      rfl
    · rw [← refDoneEvent_body k x o]
      exact ho ▸ refDoneEvent_values k target count hv
  · rw [offerCapture_of_offers ho hv, addToCapture_more hc hlt]
  · rw [offerCapture_of_offers ho hv, addToCapture_full hc hle]
    refine ⟨(List.zipWith (fun a v => a + v) sums values).map (pendingValue target), _, rfl, List.length_map _, ?_,
      fun hpos i sum mean hsum hmean => ?_, fun j hj => ?_, fun n => ?_, ?_⟩
    · simp
    · rw [List.getElem?_map, hsum, Option.map_some, Option.some_inj] at hmean
      exact hmean ▸ pendingValue_nearest hpos sum
    · simp [Ne.symm hj]
    · rw [nest_clearBounds]
      exact ⟨clearBound_bound _ _, clearBound_same _ _⟩
    · simp

end Sys2Proof.Machine
end

section
/-! PROOFS. The verdict of a run and its grade (R128, R130, R132, R133), and O33. -/

namespace Sys2Proof.Machine

variable {r : Run} {limit : Nat} {x : Tables} {classes : ClassSet}

/-! ### The verdict (R130) -/

theorem verdict_aborted {c : AbortCause} (h : r.endCause = .aborted c) : r.verdict limit = (.aborted, 0) := by
  rw [Run.verdict, h]

/-- R130's order of a run that was not aborted: fail set, retest classes within the limit and beyond it, PASS. -/
theorem verdict_eq (h : ∀ c, r.endCause ≠ .aborted c) : r.verdict limit =
    if r.failSet ≠ 0#16 then (.fail, r.failSet)
    else if r.retestClasses ≠ 0#16 then
      if r.attempt ≤ limit then (.retest, r.retestClasses) else (.fail, r.retestClasses)
    else (.pass, 0#16) := by
  simp only [Run.verdict, bne_iff_ne]
  cases hc : r.endCause with
  | aborted c => exact absurd hc (h c)
  | isOpen => rfl
  | completed => rfl
  | contactCheck => rfl
  | seatLoss => rfl
  | seatTimeout => rfl
  | disturbed => rfl

/-! ### The grade (R132, R133) -/

theorem grade_uncounted {kind : RunKind} (h : kind ≠ .counted) (v : VerdictKind) : x.grade kind v classes = ⟨0, 0⟩ := by
  simp only [Tables.grade, bne_iff_ne]
  exact if_pos h

/-- The first grading entry that shares a class with the set gives its label. -/
theorem failLabel_first {before after : List Row} {row : Row} (hg : x.grading = before ++ row :: after)
    (hb : ∀ y ∈ before, (gradeOf y).classes &&& classes = 0) (hrow : (gradeOf row).classes &&& classes ≠ 0) :
    x.failLabel classes = (gradeOf row).label := by
  have hfind : (x.grading.map gradeOf).find? (fun g => (g.classes &&& classes) != 0) = some (gradeOf row) := by
    rw [List.find?_eq_some_iff_append]
    refine ⟨bne_iff_ne.mpr hrow, before.map gradeOf, after.map gradeOf, by simp [hg], fun g hmem => ?_⟩
    obtain ⟨y, hy, rfl⟩ := List.mem_map.mp hmem
    simp [hb y hy]
  rw [Tables.failLabel, hfind]

/-- With no such entry the default reject label stands. -/
theorem failLabel_default (h : ∀ y ∈ x.grading, (gradeOf y).classes &&& classes = 0) :
    x.failLabel classes = x.settingsRow.rejectLabel := by
  have hfind : (x.grading.map gradeOf).find? (fun g => (g.classes &&& classes) != 0) = none := by
    rw [List.find?_eq_none]
    intro g hmem
    obtain ⟨y, hy, rfl⟩ := List.mem_map.mp hmem
    simp [h y hy]
  rw [Tables.failLabel, hfind]

/-- Settles O33: each clause is one row of `verdict_eq`, and the grade by kind of run and verdict. -/
theorem verdictOrder : Obligations.VerdictOrder := by
  unfold Obligations.VerdictOrder
  refine ⟨?_, fun x classes => ⟨fun kind v hk => grade_uncounted hk v, rfl, rfl, rfl,
    fun before row after hg hb hrow => failLabel_first hg hb hrow, fun h => failLabel_default h⟩⟩
  intro r limit retest
  refine ⟨fun c hc => verdict_aborted hc, fun hc => ?_⟩
  have hretest : r.retestClasses = retest := rfl
  rw [verdict_eq hc, hretest]
  refine ⟨fun hf => if_pos hf, fun hf hr ha => ?_, fun hf hr ha => ?_, fun hf hr => ?_⟩
  · rw [if_neg (not_not.mpr hf), if_pos hr, if_pos ha]
  · rw [if_neg (not_not.mpr hf), if_pos hr, if_neg (Nat.not_le.mpr ha)]
  · rw [if_neg (not_not.mpr hf), if_neg (not_not.mpr hr)]

end Sys2Proof.Machine
end

section
/-! PROOFS. The records of a verdict (R134, R137, R148, R160): the retest list and its eviction, the label list and its
displacement, the reports to the lot; O34. -/

namespace Sys2Proof.Machine

variable {s : State}

/-! ### The reports (R160) -/

theorem modLot_of_lot {k : SlotId} {l : Lot} (hl : s.lot k = some l) (f : Lot → Lot) :
    s.modLot k f = s.setLot k (some (f l)) := by
  rw [State.modLot, hl, Option.map_some]

/-- The report of a verdict changes the lot that alone has its id. -/
theorem reportVerdict_of_unique {k : SlotId} {l : Lot} (hl : s.lot k = some l)
    (hu : ∀ j m, s.lot j = some m → m.id = l.id → j = k) (v : VerdictKind) :
    s.reportVerdict v l.id = s.setLot k (some (l.countVerdict v)) := by
  simp only [State.reportVerdict, lotSlot_of_unique hl hu]
  exact modLot_of_lot hl _

/-- An entry given up: its lot's counters, class counters and rolling window, and then the alarm. -/
theorem reportGivenUp_eq {e : RetestEntry} {k : SlotId} {l : Lot} (hk : s.lotSlot e.lotId = some k) (hl : s.lot k = some l) :
    s.reportGivenUp e = (s.setLot k (some { l.giveUp with
      classes := countClasses l.classes (e.classes ||| clsNoReturn)
      window := pushOutcome l.window false })).evaluateAlarm k := by
  have hgiven : s.modLot k Lot.giveUp = s.setLot k (some l.giveUp) := modLot_of_lot hl _
  have hlot : (s.setLot k (some l.giveUp)).lot k = some l.giveUp := by rw [lot_setLot, if_pos rfl]
  simp only [State.reportGivenUp, hk]
  change (s.modLot k Lot.giveUp).finalCount k false _ = _
  rw [hgiven, State.finalCount, modLot_of_lot hlot, setLot_setLot]
  rfl

/-! ### The retest list (R137) -/

theorem evictRetest_of_room (h : s.retest.length < 32) : s.evictRetest = s :=
  if_neg (Nat.not_le.mpr h)

theorem evictRetest_full {e : RetestEntry} {rest : List RetestEntry} (hs : s.retest = e :: rest) (h : 32 ≤ s.retest.length) :
    s.evictRetest = (State.reportGivenUp { s with retest := rest } e).setFlag .retestEvict := by
  rw [State.evictRetest, if_pos (show Config.retestCap ≤ _ from h), hs]

/-- The entries that an eviction leaves: the 31 newest of a full list. -/
theorem evictRetest_retest (h : s.retest.length ≤ 32) : s.evictRetest.retest = s.retest.drop (s.retest.length - 31) := by
  by_cases hfull : s.retest.length < 32
  · rw [evictRetest_of_room hfull, Nat.sub_eq_zero_of_le (by omega), List.drop_zero]
  · cases hs : s.retest with
    | nil => simp [hs] at hfull
    | cons e rest =>
      have hlen : (e :: rest).length = 32 := by rw [← hs]; omega
      rw [evictRetest_full hs (by omega), hlen]
      simp

theorem addRetest_of_room (r : Run) (classes : ClassSet) (h : s.retest.length < 32) : s.addRetest r classes =
    { s with retest := s.retest ++ [⟨r.serial, r.slot, r.lotId, r.attempt, classes⟩] } := by
  rw [State.addRetest, evictRetest_of_room h]

theorem addRetest_evicts (r : Run) (classes : ClassSet) {e : RetestEntry} {rest : List RetestEntry}
    (hs : s.retest = e :: rest) (h : 32 ≤ s.retest.length) : s.addRetest r classes =
      { (State.reportGivenUp { s with retest := rest } e).setFlag .retestEvict with
        retest := rest ++ [⟨r.serial, r.slot, r.lotId, r.attempt, classes⟩] } := by
  simp only [State.addRetest, evictRetest_full hs h, setFlag_frame, reportGivenUp_frame]

/-! ### The label list (R148) -/

theorem makeRoom_of_room (h : s.mrk.records.length < 8) : s.makeRoom = s :=
  if_neg (Nat.not_le.mpr h)

/-- The oldest QUEUED record of a full list leaves it, resolved UNMARKED, and LABEL_FAULT is set. -/
theorem makeRoom_displaces {before after : List Label} {q : Label} (hs : s.mrk.records = before ++ q :: after)
    (h : 8 ≤ s.mrk.records.length) (hq : q.issued = false) (hb : ∀ x ∈ before, x.issued = true) :
    s.makeRoom = (State.reportResolution { s with mrk := { s.mrk with records := before ++ after } } q false).setFlag
      .labelFault := by
  have hidx : s.mrk.records.findIdx? (fun r => !r.issued) = some before.length := by
    have hnone : before.findIdx? (fun r => !r.issued) = none := by simpa using hb
    simp [hs, List.findIdx?_append, hnone, List.findIdx?_cons, hq]
  have hat : s.mrk.records[before.length]? = some q := by simp [hs]
  have herase : s.mrk.records.eraseIdx before.length = before ++ after := by
    rw [hs, List.eraseIdx_append_of_length_le (le_refl _), Nat.sub_self, List.eraseIdx_cons_zero]
  rw [State.makeRoom, if_pos (show Config.labelCap ≤ _ from h), hidx]
  simp only [State.resolveLabel, hat, State.modMrk, herase]
  rfl

/-- A list with one record that is not ISSUED has an oldest such. -/
theorem oldest_queued {rs : List Label} (h : ∃ r ∈ rs, r.issued = false) :
    ∃ before q after, rs = before ++ q :: after ∧ q.issued = false ∧ ∀ x ∈ before, x.issued = true := by
  obtain ⟨r, hr, hi⟩ := h
  have hsome : (rs.find? fun r => !r.issued).isSome = true := List.find?_isSome.mpr ⟨r, hr, by simp [hi]⟩
  obtain ⟨q, hq⟩ := Option.isSome_iff_exists.mp hsome
  obtain ⟨hqi, before, after, hrs, hb⟩ := List.find?_eq_some_iff_append.mp hq
  exact ⟨before, q, after, hrs, by simpa using hqi, fun x hx => by simpa using hb x hx⟩

/-- With at most one record ISSUED, a full list has one to displace: there is room for one more after it. -/
theorem makeRoom_length (hcap : s.mrk.records.length ≤ 8) (hissued : (s.mrk.records.filter (·.issued)).length ≤ 1) :
    s.makeRoom.mrk.records.length < 8 := by
  by_cases hroom : s.mrk.records.length < 8
  · rwa [makeRoom_of_room hroom]
  · have hqueued : ∃ r ∈ s.mrk.records, r.issued = false := by
      by_contra hall
      have hself : s.mrk.records.filter (·.issued) = s.mrk.records :=
        List.filter_eq_self.mpr fun r hr => by simpa using fun hi => hall ⟨r, hr, hi⟩
      rw [hself] at hissued
      omega
    obtain ⟨before, q, after, hs, hq, hb⟩ := oldest_queued hqueued
    have hlen := congrArg List.length hs
    rw [makeRoom_displaces hs (Nat.not_lt.mp hroom) hq hb]
    simp only [setFlag_frame, reportResolution_frame, List.length_append, List.length_cons] at hlen ⊢
    omega

theorem createLabel_last (s : State) (r : Label) :
    (s.createLabel r).mrk.records.getLast? = some { r with issued := false, age := 0 } :=
  List.getLast?_concat

theorem createLabel_length (hcap : s.mrk.records.length ≤ 8) (hissued : (s.mrk.records.filter (·.issued)).length ≤ 1)
    (r : Label) : (s.createLabel r).mrk.records.length ≤ 8 := by
  have hroom := makeRoom_length hcap hissued
  simp only [State.createLabel, modMrk_mrk, List.length_append, List.length_singleton]
  omega

theorem createLabel_of_room (r : Label) (h : s.mrk.records.length < 8) : s.createLabel r =
    { s with mrk := { s.mrk with records := s.mrk.records ++ [{ r with issued := false, age := 0 }] } } := by
  rw [State.createLabel, makeRoom_of_room h]
  rfl

theorem createLabel_displaces (r : Label) {before after : List Label} {q : Label} (hs : s.mrk.records = before ++ q :: after)
    (h : 8 ≤ s.mrk.records.length) (hq : q.issued = false) (hb : ∀ x ∈ before, x.issued = true) : s.createLabel r =
      { (State.reportResolution { s with mrk := { s.mrk with records := before ++ after } } q false).setFlag .labelFault with
        mrk := { s.mrk with records := before ++ after ++ [{ r with issued := false, age := 0 }] } } := by
  simp only [State.createLabel, makeRoom_displaces hs h hq hb, State.modMrk, setFlag_frame, reportResolution_frame]

/-! ### The steps of R134 -/

/-- The label record that a counted run's verdict makes, QUEUED with age 0 (R148). -/
def Run.newLabel (n : NestId) (r : Run) (kind : LabelKind) (classes : ClassSet) (g : LabelField) : Label :=
  { nest := n, lotId := r.lotId, kind, code := BitVec.ofNat 8 g.code, bin := BitVec.ofNat 4 g.bin, classes,
    issued := false, age := 0 }

/-- The kind of a verdict's label record; ABORTED makes none, and its value here is never read (`label_of_not_aborted`). -/
def VerdictKind.labelKind : VerdictKind → LabelKind
  | .pass => .finalPass
  | .fail => .finalFail
  | .retest | .aborted => .retest

theorem label_of_not_aborted {v : VerdictKind} (h : v ≠ .aborted) : v.label = some v.labelKind := by
  cases v with
  | aborted => exact absurd rfl h
  | pass => rfl
  | fail => rfl
  | retest => rfl

/-- R134's step 3: a RETEST alone makes an entry. -/
def State.enterRetest (s : State) (r : Run) (v : VerdictKind) (classes : ClassSet) : State :=
  if v = .retest then s.addRetest r classes else s

theorem enterRetest_mrk (r : Run) (v : VerdictKind) (classes : ClassSet) : (s.enterRetest r v classes).mrk = s.mrk := by
  rw [State.enterRetest]
  split <;> simp

section recordVerdict

variable (n : NestId) (r : Run) (v : VerdictKind) (classes : ClassSet) (g : LabelField)

theorem recordVerdict_aborted : s.recordVerdict n r .aborted classes g = s.reportVerdict .aborted r.lotId := rfl

/-- Entry, report and label record, in this order. -/
theorem recordVerdict_labelled {v : VerdictKind} (h : v ≠ .aborted) :
    s.recordVerdict n r v classes g = ((s.enterRetest r v classes).reportVerdict v r.lotId).createLabel
      (r.newLabel n v.labelKind classes g) := by
  simp only [State.recordVerdict, label_of_not_aborted h, State.enterRetest, beq_iff_eq]
  rfl

/-- The report and the label leave the retest list as the entry left it. -/
theorem recordVerdict_retest : (s.recordVerdict n r v classes g).retest = (s.enterRetest r v classes).retest := by
  by_cases hv : v = .aborted
  · subst hv
    simp [recordVerdict_aborted, State.enterRetest]
  · simp [recordVerdict_labelled n r classes g hv]

theorem enterRetest_length (h : s.retest.length ≤ 32) : (s.enterRetest r v classes).retest.length ≤ 32 := by
  rw [State.enterRetest]
  split
  · simp only [State.addRetest, evictRetest_retest h, List.length_append, List.length_drop, List.length_singleton]
    omega
  · exact h

/-- The entry a counted RETEST makes joins the list behind the 31 newest, and no other verdict makes one (R137). -/
theorem recordVerdict_entries (h : s.retest.length ≤ 32) :
    (v = .retest → (s.recordVerdict n r v classes g).retest =
      s.retest.drop (s.retest.length - 31) ++ [⟨r.serial, r.slot, r.lotId, r.attempt, classes⟩]) ∧
    (v ≠ .retest → (s.recordVerdict n r v classes g).retest = s.retest) := by
  rw [recordVerdict_retest, State.enterRetest]
  refine ⟨fun hv => ?_, fun hv => by rw [if_neg hv]⟩
  rw [if_pos hv, State.addRetest, evictRetest_retest h]

/-- What a verdict leaves of MRK: ABORTED all of it, any other verdict a list of at most 8 with its record last (R148). -/
theorem recordVerdict_mrk (hcap : s.mrk.records.length ≤ 8) (hissued : (s.mrk.records.filter (·.issued)).length ≤ 1) :
    (v = .aborted → (s.recordVerdict n r v classes g).mrk = s.mrk) ∧
    (v ≠ .aborted → (s.recordVerdict n r v classes g).mrk.records.getLast? = some (r.newLabel n v.labelKind classes g)) ∧
    (s.recordVerdict n r v classes g).mrk.records.length ≤ 8 := by
  have hmrk : ((s.enterRetest r v classes).reportVerdict v r.lotId).mrk = s.mrk := by simp [enterRetest_mrk]
  have haborted : v = .aborted → (s.recordVerdict n r v classes g).mrk = s.mrk := by
    rintro rfl
    simp [recordVerdict_aborted]
  refine ⟨haborted, fun hv => ?_, ?_⟩
  · rw [recordVerdict_labelled n r classes g hv]
    exact createLabel_last _ _
  · by_cases hv : v = .aborted
    · rwa [haborted hv]
    · rw [recordVerdict_labelled n r classes g hv]
      exact createLabel_length (hmrk ▸ hcap) (hmrk ▸ hissued) _

end recordVerdict

/-- Settles O34: the lists by `recordVerdict_entries` and `recordVerdict_mrk`, the steps by `recordVerdict_labelled`, the reports to
the lot by `reportVerdict_of_unique` and `reportGivenUp_eq`, the full lists by `addRetest_evicts` and `createLabel_displaces`. -/
theorem verdictRecords : Obligations.VerdictRecords := by
  unfold Obligations.VerdictRecords
  refine ⟨?_, fun s n r v classes g => ⟨?_, fun hv => ?_⟩, fun s v k l hl hu => ?_, ?_, fun s e k l hk hl =>
    ⟨_, rfl, fun i => getElem_countClasses _ _ i, reportGivenUp_eq hk hl⟩, ?_⟩
  · intro s n r v classes g hretest hcap hissued t
    obtain ⟨hadded, hsame⟩ := recordVerdict_entries n r v classes g hretest
    obtain ⟨haborted, hlast, hlength⟩ := recordVerdict_mrk n r v classes g hcap hissued
    refine ⟨fun hv => ⟨_, rfl, hadded hv⟩, hsame, ?_, haborted, hlast, hlength⟩
    exact (congrArg List.length (recordVerdict_retest n r v classes g)).trans_le (enterRetest_length r v classes hretest)
  · rintro rfl
    exact recordVerdict_aborted n r classes g
  · exact recordVerdict_labelled n r classes g hv
  · rw [reportVerdict_of_unique hl hu]
    cases v <;> rfl
  · intro s r classes entry
    exact ⟨addRetest_of_room r classes, fun e rest hs hfull =>
      ⟨addRetest_evicts r classes hs hfull, setFlag_stands .retestEvict⟩⟩
  · intro s r label
    exact ⟨createLabel_of_room r, fun before q after hs hfull hq hb =>
      ⟨createLabel_displaces r hs hfull hq hb, setFlag_stands .labelFault⟩⟩

end Sys2Proof.Machine
end

section
/-! PROOFS. How a resolution counts in its lot (R147, R160, R163, R166, R167): the counters and the window in one equation, then the
alarm by its cases; O48. -/

namespace Sys2Proof.Machine

variable {s : State} {k : SlotId} {l : Lot}

/-! ### What an alarm leaves of the notice unit (R167, R170) -/

theorem askNotice_bitmap (s : State) : s.askNotice.ntc.bitmap = s.ntc.bitmap := by
  simp only [State.askNotice]
  (repeat' split) <;> rfl

theorem notifyRising_bitmap (s : State) (f : Flag) : (s.notifyRising f).ntc.bitmap = s.ntc.bitmap := by
  simp only [State.notifyRising]
  (repeat' split) <;> simp [askNotice_bitmap]

/-- Setting a flag leaves the LOW_YIELD bitmap alone. -/
theorem setFlag_bitmap (s : State) (f : Flag) : (s.setFlag f).ntc.bitmap = s.ntc.bitmap := by
  simp only [State.setFlag]
  (repeat' split) <;> simp [notifyRising_bitmap]

/-! ### The alarm (R167) -/

/-- What trips an ARMED alarm: a full window, a threshold in force, and a rolling yield below it (R167). -/
def Lot.Trips (l : Lot) (threshold : Nat) : Prop :=
  l.window.length = 64 ∧ threshold ≠ 0 ∧ l.rollingYield < threshold

theorem evaluateAlarm_trips (hl : s.lot k = some l) (ha : l.tripped = false)
    (ht : l.Trips (s.slot k).tables.settingsRow.lowYield) :
    s.evaluateAlarm k = ((s.setLot k (some { l with tripped := true })).modNtc fun c =>
      { c with bitmap := c.bitmap ||| (1#8 <<< k.val) }).setFlag .lowYield := by
  obtain ⟨hfull, hon, hlow⟩ := ht
  simp only [State.evaluateAlarm, hl, ha, modLot_of_lot hl]
  simp [hfull, hon, hlow, Config.windowCap]

theorem evaluateAlarm_armed (hl : s.lot k = some l) (ha : l.tripped = false)
    (ht : ¬ l.Trips (s.slot k).tables.settingsRow.lowYield) : s.evaluateAlarm k = s := by
  have hcond : ¬ (l.window.length == Config.windowCap && (s.slot k).tables.settingsRow.lowYield != 0 &&
      decide (l.rollingYield < (s.slot k).tables.settingsRow.lowYield)) = true := by
    simpa [Lot.Trips, Config.windowCap] using ht
  simp only [State.evaluateAlarm, hl, ha]
  rw [if_neg (by decide), if_neg hcond]

theorem evaluateAlarm_rearms (hl : s.lot k = some l) (ha : l.tripped = true)
    (hy : rearmLevel (s.slot k).tables.settingsRow.lowYield ≤ l.rollingYield) :
    s.evaluateAlarm k = s.setLot k (some { l with tripped := false }) := by
  simp only [State.evaluateAlarm, hl, modLot_of_lot hl]
  rw [if_pos ha, if_pos hy]

theorem evaluateAlarm_tripped (hl : s.lot k = some l) (ha : l.tripped = true)
    (hy : l.rollingYield < rearmLevel (s.slot k).tables.settingsRow.lowYield) : s.evaluateAlarm k = s := by
  simp only [State.evaluateAlarm, hl]
  rw [if_pos ha, if_neg (Nat.not_le.mpr hy)]

/-! ### The report (R147, R160, R163) -/

/-- A label's unit passes: a FINAL-PASS label, MARKED (R160). -/
def Label.passes (r : Label) (marked : Bool) : Bool := r.kind == .finalPass && marked

theorem passes_eq_false {r : Label} {marked : Bool} (h : r.kind = .finalFail ∨ marked = false) : r.passes marked = false := by
  rcases h with h | h
  · rw [Label.passes, h]
    rfl
  · rw [Label.passes, h, Bool.and_false]

/-- The classes that a resolution counts for a failed unit: those of a FINAL-FAIL record, and UNMARKED when unmarked (R160). -/
def Label.failClasses (r : Label) (marked : Bool) : ClassSet :=
  (if r.kind = .finalFail then r.classes else 0#16) ||| (if marked then 0#16 else clsUnmarked)

/-- The counters, classes and window of a lot after a resolution, before its alarm is evaluated (R160, R163). -/
def Lot.resolved (l : Lot) (r : Label) (marked : Bool) : Lot :=
  { l.resolve (r.passes marked) with
    classes := if r.passes marked then l.classes else countClasses l.classes (r.failClasses marked)
    window := pushOutcome l.window (r.passes marked) }

theorem finalCount_modLot (hl : s.lot k = some l) (f : Lot → Lot) (pass : Bool) (c : ClassSet) :
    (s.modLot k f).finalCount k pass c = (s.setLot k (some { f l with
      classes := if pass then (f l).classes else countClasses (f l).classes c
      window := pushOutcome (f l).window pass })).evaluateAlarm k := by
  have hlot : (s.setLot k (some (f l))).lot k = some (f l) := by rw [lot_setLot, if_pos rfl]
  rw [modLot_of_lot hl, State.finalCount, modLot_of_lot hlot, setLot_setLot]

/-- A FINAL label resolved: its lot's counters, class counters and rolling window, and then the alarm. -/
theorem reportResolution_eq {r : Label} (hk : s.lotSlot r.lotId = some k) (hl : s.lot k = some l) (hr : r.kind ≠ .retest)
    (marked : Bool) : s.reportResolution r marked = (s.setLot k (some (l.resolved r marked))).evaluateAlarm k := by
  simp only [State.reportResolution, hk]
  cases hkind : r.kind with
  | retest => exact absurd hkind hr
  | finalPass =>
    cases marked with
    | true => simp [finalCount_modLot hl, Lot.resolved, Lot.resolve, Label.passes, hkind]
    | false => simp [finalCount_modLot hl, Lot.resolved, Lot.resolve, Label.passes, Label.failClasses, hkind]
  | finalFail =>
    have hfail : r.passes marked = false := passes_eq_false (.inl hkind)
    have hclasses : (if marked then r.classes else r.classes ||| clsUnmarked) = r.failClasses marked := by
      cases marked <;> simp [Label.failClasses, hkind]
    simp only [finalCount_modLot hl, Lot.resolved, Lot.resolve, hfail, hclasses]
    rfl

/-- Settles O48: the report by `reportResolution_eq`, the alarm by its four cases. -/
theorem resolutionCounts : Obligations.ResolutionCounts := by
  unfold Obligations.ResolutionCounts
  refine ⟨fun s r marked k l hk hl => ⟨reportResolution_retest s marked, fun hr => ?_⟩, ?_⟩
  · have heq := reportResolution_eq hk hl hr marked
    obtain ⟨b, hb⟩ := evaluateAlarm_lot (s.setLot k (some (l.resolved r marked))) k k (l.resolved r marked)
      (by rw [lot_setLot, if_pos rfl])
    refine ⟨{ l.resolved r marked with tripped := b }, heq ▸ hb, rfl, rfl, fun hpass hm => ?_, fun hfail => ?_,
      rfl, rfl, rfl, rfl, rfl, _, rfl, heq⟩
    · simp [Lot.resolved, Lot.resolve, Label.passes, hpass, hm]
    · have hp := passes_eq_false hfail
      refine ⟨by simp [Lot.resolved, Lot.resolve, hp], by simp [Lot.resolved, Lot.resolve, hp], fun i => ?_⟩
      simp only [Lot.resolved, hp]
      exact getElem_countClasses _ _ i
  · intro s k l hl t threshold trips
    refine ⟨fun ha ht => ?_, evaluateAlarm_armed hl, evaluateAlarm_rearms hl, evaluateAlarm_tripped hl⟩
    have htrip : t = _ := evaluateAlarm_trips hl ha ht
    obtain ⟨hlnk, hslots, -, hprot, hnests, hamb, hretest, hmrk, -⟩ := evaluateAlarm_frame s k
    obtain ⟨-, -, -, -, -, -, -, -, -, hreply, -⟩ := Link.still_fields hlnk
    refine ⟨?_, ?_, ?_, fun j hj => evaluateAlarm_lot_ne s k j (Ne.symm hj), hslots, hnests, hretest, hmrk, hprot, hamb,
      hreply⟩
    · simp [htrip]
    · rw [htrip, setFlag_bitmap]
      rfl
    · rw [htrip, setFlag_flags]
      rfl

end Sys2Proof.Machine
end

section
/-! PROOFS. The marking port (R143, R144, R147, R149–R155): the first record of a kind in the label list, its resolution, the answer
to a request, the rows of the port; O46 and O47. -/

namespace Sys2Proof.Machine

variable {s : State} {before after : List Label} {r : Label}

/-- The state with another MRK. -/
def State.withMrk (s : State) (m : Marking) : State := { s with mrk := m }

@[simp] theorem withMrk_mrk (s : State) (m : Marking) : (s.withMrk m).mrk = m := rfl

theorem withMrk_sameLots (s : State) (m : Marking) : SameLots (s.withMrk m) s := ⟨rfl, rfl⟩

/-! ### A record of the label list -/

theorem getElem?_split : (before ++ r :: after)[before.length]? = some r := by simp

/-- The search for a record ends at the first that it accepts. -/
theorem findIdx?_first {p : Label → Bool} (hb : ∀ x ∈ before, p x = false) (hr : p r = true) :
    (before ++ r :: after).findIdx? p = some before.length := by
  have hnone : before.findIdx? p = none := List.findIdx?_eq_none_iff.mpr hb
  simp [List.findIdx?_append, hnone, List.findIdx?_cons, hr]

theorem eraseIdx_split : (before ++ r :: after).eraseIdx before.length = before ++ after := by
  rw [List.eraseIdx_append_of_length_le (le_refl _), Nat.sub_self, List.eraseIdx_cons_zero]

theorem issueAt_split : issueAt (before ++ r :: after) before.length =
    before ++ { r with issued := true, age := 0 } :: after := by
  rw [issueAt, List.modify_eq_set_getElem?]
  simp

/-! ### Its resolution (R147, R151–R155) -/

/-- What an UNMARKED or MARKED resolution of a record r leaves: the other records in MRK, the lots with the report, LABEL_FAULT when
unmarked, and all that is not MRK's, YLD's or NTC's (R147). -/
structure Resolves (s : State) (rest : List Label) (r : Label) (marked : Bool) (t : State) : Prop where
  mrk : t.mrk = { s.mrk with records := rest }
  lots : t.lots = (s.reportResolution r marked).lots
  fault : marked = false → t.ntc.flags.getLsbD 5 = true
  others : t.nests = s.nests ∧ t.slots = s.slots ∧ t.buffers = s.buffers ∧ t.prot = s.prot ∧ t.retest = s.retest ∧
    t.amb = s.amb ∧ t.lnk.replyQ = s.lnk.replyQ

theorem resolveLabel_resolves (hs : s.mrk.records = before ++ r :: after) (marked : Bool) :
    Resolves s (before ++ after) r marked (s.resolveLabel before.length marked true) := by
  have hat : s.mrk.records[before.length]? = some r := hs ▸ getElem?_split
  obtain ⟨hlnk, hslots, hbuffers, hprot, hnests, hamb, hretest, -⟩ := resolveLabel_frame s before.length marked true
  obtain ⟨-, -, -, -, -, -, -, -, -, hreply, -⟩ := Link.still_fields hlnk
  refine ⟨?_, (resolveLabel_sameLots hat marked true).1, ?_,
    ⟨hnests, hslots, hbuffers, hprot, hretest, hamb, hreply⟩⟩
  · rw [resolveLabel_records hat, hs, eraseIdx_split]
  · rintro rfl
    exact resolveLabel_flag hat

theorem resolveLabel_eq (hs : s.mrk.records = before ++ r :: after) (marked : Bool) :
    s.resolveLabel before.length marked true =
      let t := (s.withMrk { s.mrk with records := before ++ after }).reportResolution r marked
      if marked then t else t.setFlag .labelFault := by
  have hat : s.mrk.records[before.length]? = some r := hs ▸ getElem?_split
  have herase : (s.modMrk fun m => { m with records := m.records.eraseIdx before.length }) =
      s.withMrk { s.mrk with records := before ++ after } := by
    simp only [State.modMrk, hs, eraseIdx_split]
    rfl
  simp only [State.resolveLabel, hat, herase]
  cases marked <;> rfl

theorem resolveIssued_first (hs : s.mrk.records = before ++ r :: after) (hr : r.issued = true)
    (hb : ∀ x ∈ before, x.issued = false) (marked : Bool) :
    s.resolveIssued marked = s.resolveLabel before.length marked true := by
  simp only [State.resolveIssued, hs, findIdx?_first hb hr]

theorem resolveIssued_of_queued (h : ∀ x ∈ s.mrk.records, x.issued = false) (marked : Bool) : s.resolveIssued marked = s := by
  have hnone : s.mrk.records.findIdx? (·.issued) = none := List.findIdx?_eq_none_iff.mpr h
  simp only [State.resolveIssued, hnone]

/-! ### The answer to a request (R149) -/

theorem answerRequest_issues {n : NestId} (hs : s.mrk.records = before ++ r :: after) (hr : r.issued = false) (hn : r.nest = n)
    (hb : ∀ x ∈ before, x.issued = true ∨ x.nest ≠ n) :
    s.answerRequest n = s.withMrk { s.mrk with
      port := .issue, records := before ++ { r with issued := true, age := 0 } :: after } := by
  have hidx : s.mrk.records.findIdx? (fun x => !x.issued && x.nest == n) = some before.length := by
    rw [hs]
    refine findIdx?_first (fun x hx => ?_) (by simp [hr, hn])
    rcases hb x hx with h | h <;> simp [h]
  have hissue : issueAt s.mrk.records before.length = _ := hs ▸ issueAt_split
  simp only [State.answerRequest, hidx, State.modMrk, hissue]
  rfl

theorem answerRequest_empty {n : NestId} (h : ∀ x ∈ s.mrk.records, x.issued = true ∨ x.nest ≠ n) :
    s.answerRequest n = s.withMrk { s.mrk with port := .noLabel } := by
  have hidx : s.mrk.records.findIdx? (fun x => !x.issued && x.nest == n) = none :=
    List.findIdx?_eq_none_iff.mpr fun x hx => by rcases h x hx with h | h <;> simp [h]
  simp only [State.answerRequest, hidx]
  rfl

theorem requestRising_of_queued (h : ∀ x ∈ s.mrk.records, x.issued = false) (n : NestId) :
    s.requestRising n = s.answerRequest n := by
  rw [State.requestRising, resolveIssued_of_queued h]

/-! ### The outputs CODE and BIN (R143) -/

theorem outputs_of_queued {m : Marking} (h : ∀ x ∈ m.records, x.issued = false) : m.codeOut = 0 ∧ m.binOut = 0 := by
  simp [Marking.codeOut, Marking.binOut, issued_none h]

theorem outputs_of_issued {m : Marking} (hm : m.records = before ++ r :: after) (hr : r.issued = true)
    (hb : ∀ x ∈ before, x.issued = false) : m.codeOut = r.code ∧ m.binOut = r.bin := by
  simp [Marking.codeOut, Marking.binOut, issued_of_split hm hr hb]

/-! ### The request's rows (R149, R150) -/

/-- MRK with the lines of REQ and NEST at the levels that a REQ_RISING row reports (R144; log 10). -/
def Marking.requested (m : Marking) (n : NestId) : Marking :=
  { m with req := .settled true, nestLo := .settled (n.val % 2 == 1), nestHi := .settled (n.val / 2 == 1) }

theorem exec_reqRising (s : State) (n : NestId) :
    exec (.reqRising n) s = .next ((s.withMrk (s.mrk.requested n)).requestRising n).endEvent := by
  have hhi : decide (2 ≤ n.val) = (n.val / 2 == 1) := by revert n; decide
  change execReqRising n s = _
  rw [execReqRising, hhi]
  rfl

/-- A REQ rising issues the nest's oldest record, with nothing ISSUED (R149). -/
theorem reqRising_issues {n : NestId} (hs : s.mrk.records = before ++ r :: after)
    (hq : ∀ x ∈ before ++ r :: after, x.issued = false) (hn : r.nest = n) (hb : ∀ x ∈ before, x.nest ≠ n) :
    ∃ m : Marking, exec (.reqRising n) s = .next (s.withMrk m).endEvent ∧
      m.records = before ++ { r with issued := true, age := 0 } :: after ∧ m.port = .issue ∧ m.ack = true ∧
      m.empty = false ∧ m.codeOut = r.code ∧ m.binOut = r.bin ∧ m.stray = s.mrk.stray := by
  have hqueued : r.issued = false := hq r (by simp)
  have hanswer := answerRequest_issues (s := s.withMrk (s.mrk.requested n)) hs hqueued hn fun x hx => .inr (hb x hx)
  have hrow := exec_reqRising s n
  rw [requestRising_of_queued (by rwa [← hs] at hq), hanswer] at hrow
  obtain ⟨hcode, hbin⟩ := outputs_of_issued (m := { s.mrk.requested n with
    port := .issue, records := before ++ { r with issued := true, age := 0 } :: after }) rfl rfl
    fun x hx => hq x (by simp [hx])
  exact ⟨_, hrow, rfl, rfl, rfl, rfl, hcode, hbin, rfl⟩

/-- A REQ rising answers EMPTY where no record is ISSUED or the nest's (R149). -/
theorem reqRising_empty {n : NestId} (h : ∀ x ∈ s.mrk.records, x.issued = false ∧ x.nest ≠ n) :
    ∃ m : Marking, exec (.reqRising n) s = .next (s.withMrk m).endEvent ∧
      m.records = s.mrk.records ∧ m.port = .noLabel ∧ m.ack = true ∧ m.empty = true ∧ m.codeOut = 0 ∧ m.binOut = 0 ∧
      m.stray = s.mrk.stray := by
  have hq : ∀ x ∈ s.mrk.records, x.issued = false := fun x hx => (h x hx).1
  have hanswer := answerRequest_empty (s := s.withMrk (s.mrk.requested n)) fun x hx => .inr (h x hx).2
  have hrow := exec_reqRising s n
  rw [requestRising_of_queued (by exact hq), hanswer] at hrow
  obtain ⟨hcode, hbin⟩ := outputs_of_queued (m := { s.mrk.requested n with port := .noLabel }) hq
  exact ⟨_, hrow, rfl, rfl, rfl, rfl, hcode, hbin, rfl⟩

/-- A REQ rising with a record ISSUED resolves it UNMARKED and then answers (R149). -/
theorem reqRising_resolves {n : NestId} (hs : s.mrk.records = before ++ r :: after) (hr : r.issued = true)
    (hb : ∀ x ∈ before, x.issued = false) :
    ∃ t : State, exec (.reqRising n) s = .next (t.answerRequest n).endEvent ∧ t.mrk.records = before ++ after ∧
      t.lots = (s.reportResolution r false).lots ∧ t.ntc.flags.getLsbD 5 = true ∧ t.nests = s.nests ∧ t.slots = s.slots ∧
      t.retest = s.retest := by
  have hs' : (s.withMrk (s.mrk.requested n)).mrk.records = before ++ r :: after := hs
  have hrow := exec_reqRising s n
  rw [State.requestRising, resolveIssued_first hs' hr hb] at hrow
  obtain ⟨hmrk, hlots, hfault, hnests, hslots, -, -, hretest, -⟩ := resolveLabel_resolves hs' false
  exact ⟨_, hrow, by rw [hmrk], hlots.trans ((withMrk_sameLots s _).reportResolution r _).1, hfault rfl, hnests, hslots, hretest⟩

/-- Settles O46: a rising by what is ISSUED and QUEUED, and the falling, which changes the port's answer alone. -/
theorem requestHandshake : Obligations.RequestHandshake := by
  unfold Obligations.RequestHandshake
  refine ⟨fun n s => ⟨fun before r after => reqRising_issues, reqRising_empty, fun before r after => reqRising_resolves⟩,
    fun s => ⟨_, rfl, rfl, rfl, rfl, rfl, rfl, rfl, rfl⟩, ?_⟩
  intro n s settled
  refine ⟨exec_reqRising s n, rfl, rfl, fun hq => requestRising_of_queued hq n, fun before r after hs hr hb => ?_,
    fun before r after => answerRequest_issues, answerRequest_empty⟩
  rw [State.requestRising, resolveIssued_first hs hr hb, resolveLabel_eq hs]
  rfl

/-! ### The results' rows (R151–R154) -/

theorem strayResult_mrk (s : State) : s.strayResult.mrk = { s.mrk with stray := min (s.mrk.stray + 1) 65535 } := by
  simp [State.strayResult, satInc, Config.counterMax]

theorem rising_of_queued (h : ∀ x ∈ s.mrk.records, x.issued = false) :
    s.markedRising = s.strayResult ∧ s.jamRising = s.strayResult := by
  simp [State.markedRising, State.jamRising, issued_none h]

theorem rising_of_issued (h : s.mrk.issued.isSome = true) :
    s.markedRising = s.resolveIssued true ∧ s.jamRising = s.resolveIssued false := by
  simp [State.markedRising, State.jamRising, h]

theorem exec_markedResult (s : State) : exec .markedResult s =
    .next (s.withMrk { s.mrk with marked := .pulsed s.mrk.code }).markedRising.endEvent := rfl

theorem exec_jamResult (s : State) : exec .jamResult s =
    .next (s.withMrk { s.mrk with jam := .pulsed s.mrk.code }).jamRising.endEvent := rfl

/-- A result or an issue timeout resolves the ISSUED record; of MRK it first changes no more than an input (R151, R152, R154). -/
theorem exec_resolution {c : Instr} (h : s.mrk.issued.isSome = true) (hc : c = .markedResult ∨ c = .jamResult ∨ c = .issueTimeout) :
    ∃ m : Marking, exec c s = .next ((s.withMrk m).resolveIssued (c == .markedResult)).endEvent ∧
      m.records = s.mrk.records ∧ m.port = s.mrk.port ∧ m.stray = s.mrk.stray := by
  rcases hc with rfl | rfl | rfl
  · refine ⟨{ s.mrk with marked := .pulsed s.mrk.code }, ?_, rfl, rfl, rfl⟩
    rw [exec_markedResult, (rising_of_issued (by exact h)).1]
    rfl
  · refine ⟨{ s.mrk with jam := .pulsed s.mrk.code }, ?_, rfl, rfl, rfl⟩
    rw [exec_jamResult, (rising_of_issued (by exact h)).2]
    rfl
  · exact ⟨s.mrk, rfl, rfl, rfl, rfl⟩

/-- With nothing ISSUED, a MARKED or a JAM is a stray result; of MRK it first changes no more than an input (R153). -/
theorem exec_stray {c : Instr} (h : ∀ x ∈ s.mrk.records, x.issued = false) (hc : c = .markedResult ∨ c = .jamResult) :
    ∃ m : Marking, exec c s = .next (s.withMrk m).strayResult.endEvent ∧
      m.records = s.mrk.records ∧ m.port = s.mrk.port ∧ m.stray = s.mrk.stray := by
  rcases hc with rfl | rfl
  · refine ⟨{ s.mrk with marked := .pulsed s.mrk.code }, ?_, rfl, rfl, rfl⟩
    rw [exec_markedResult, (rising_of_queued (by exact h)).1]
  · refine ⟨{ s.mrk with jam := .pulsed s.mrk.code }, ?_, rfl, rfl, rfl⟩
    rw [exec_jamResult, (rising_of_queued (by exact h)).2]

/-- The expiry of the QUEUED record at a position resolves it (R155). -/
theorem exec_queueExpiry {i : Fin 8} (hs : s.mrk.records = before ++ r :: after) (hr : r.issued = false)
    (hi : i.val = before.length) : exec (.queueExpiry i) s = .next (s.resolveLabel before.length false true).endEvent := by
  have hat : s.mrk.records[before.length]? = some r := hs ▸ getElem?_split
  change execQueueExpiry i s = _
  simp only [execQueueExpiry, State.expireLabel, hi, hat, hr]
  rfl

/-- Settles O47: each row comes to the resolution of its record, `resolveLabel_resolves`, or to a stray result. -/
theorem markingResults : Obligations.MarkingResults := by
  unfold Obligations.MarkingResults
  refine ⟨fun s before after r hs => ⟨fun hr hq c hc => ?_, fun hr i hi => ?_⟩, fun s c hq hc => ?_, ?_⟩
  · have hb : ∀ x ∈ before, x.issued = false := fun x hx => hq x (List.mem_append_left _ hx)
    obtain ⟨m, hrow, hrecords, hport, hstray⟩ := exec_resolution (by rw [issued_of_split hs hr hb]; rfl) hc
    have hs' : (s.withMrk m).mrk.records = before ++ r :: after := hrecords.trans hs
    rw [resolveIssued_first hs' hr hb] at hrow
    obtain ⟨hmrk, hlots, hfault, hnests, hslots, hbuffers, hprot, hretest, hamb, hreply⟩ :=
      resolveLabel_resolves hs' (c == .markedResult)
    obtain ⟨hcode, hbin⟩ := outputs_of_queued (m := { m with records := before ++ after }) hq
    refine ⟨_, hrow, ?_⟩
    rw [hmrk]
    exact ⟨rfl, hport, hcode, hbin, hstray, hlots.trans ((withMrk_sameLots s _).reportResolution r _).1,
      fun hc => hfault (beq_eq_false_iff_ne.mpr hc), hnests, hslots, hbuffers, hprot, hretest, hamb, hreply⟩
  · obtain ⟨hmrk, hlots, hfault, hnests, hslots, hbuffers, hprot, hretest, hamb, hreply⟩ := resolveLabel_resolves hs false
    exact ⟨_, exec_queueExpiry hs hr hi, hmrk, hlots, hfault rfl, hnests, hslots, hbuffers, hprot, hretest, hamb, hreply⟩
  · obtain ⟨m, hrow, hrecords, hport, hstray⟩ := exec_stray hq hc
    obtain ⟨-, hslots, -, hprot, hnests, -, hretest, hlots, -⟩ := strayResult_frame (s.withMrk m)
    refine ⟨_, hrow, ?_⟩
    rw [strayResult_mrk]
    exact ⟨by rw [withMrk_mrk, hstray], hrecords, hport, setFlag_stands .labelFault, hlots, hnests, hslots, hretest, hprot⟩
  · intro s pulsed stray
    refine ⟨rfl, rfl, rising_of_queued, ?_⟩
    intro before r after hs hr hb gone
    obtain ⟨hmarked, hjam⟩ := rising_of_issued (s := s) (by rw [issued_of_split hs hr hb]; rfl)
    rw [hmarked, hjam, resolveIssued_first hs hr hb, resolveIssued_first hs hr hb, resolveLabel_eq hs, resolveLabel_eq hs]
    exact ⟨rfl, rfl⟩

end Sys2Proof.Machine
end

section
/-! PROOFS. LOT_OPEN by its first failing check and LOT_CLOSE by its lot (R158, R159), and O42. -/

namespace Sys2Proof.Machine

variable {s : State} {k : SlotId} {tag : BitVec 8} {id : Word}

/-! ### LOT_OPEN (R158) -/

theorem exec_lotOpen (k : SlotId) (tag : BitVec 8) (id : Word) (hr : s.ReplyRoom) :
    exec (.lotOpen (slotScope k) tag id) s = .next (takeLotOpen (slotScope k) tag id s) :=
  exec_taken rfl hr rfl (scopeOk_of_slot rfl k) rfl

theorem takeLotOpen_opened (h : lotOpenCheck s k id = .ok) :
    takeLotOpen (slotScope k) tag id s = (s.setLot k (some (Lot.opened id (s.slot k).generation))).reply
      .lotOpen (slotScope k) tag .ok [(s.slot k).generation.setWidth 32] := by
  simp only [takeLotOpen, slotOf_slotScope, h, beq_self_eq_true, if_true, put_generation]

theorem takeLotOpen_refused {c : ResultCode} (h : lotOpenCheck s k id = c) (hc : c ≠ .ok) :
    takeLotOpen (slotScope k) tag id s = s.reply .lotOpen (slotScope k) tag c [] := by
  simp only [takeLotOpen, slotOf_slotScope, h, beq_iff_eq, hc, if_false]

theorem lotOpenCheck_busy (h : s.lot k ≠ none) : lotOpenCheck s k id = .busy :=
  if_pos (Option.isSome_iff_ne_none.mpr h)

theorem lotOpenCheck_notReady (h : s.lot k = none) (hl : (s.slot k).loaded = false) : lotOpenCheck s k id = .notReady := by
  simp [lotOpenCheck, h, hl]

/-- With no lot and a LOADED slot, the id decides (R158). -/
theorem lotOpenCheck_id (h : s.lot k = none) (hl : (s.slot k).loaded = true) :
    lotOpenCheck s k id = if (s.lotSlot id).isSome then .duplicate else .ok := by
  simp [lotOpenCheck, h, hl]

theorem lotSlot_isSome {j : SlotId} (h : s.HasLot j id) : (s.lotSlot id).isSome = true :=
  Option.isSome_iff_ne_none.mpr fun hn => lotSlot_none_iff.mp hn j h

/-! ### LOT_CLOSE (R159) -/

theorem exec_lotClose (k : SlotId) (tag : BitVec 8) (hr : s.ReplyRoom) :
    exec (.lotClose (slotScope k) tag) s = .next (takeLotClose (slotScope k) tag s).endEvent :=
  exec_taken rfl hr rfl (scopeOk_of_slot rfl k) rfl

theorem takeLotClose_none (h : s.lot k = none) :
    takeLotClose (slotScope k) tag s = s.reply .lotClose (slotScope k) tag .noLot [] := by
  simp only [takeLotClose, slotOf_slotScope, h]

theorem takeLotClose_some {l : Lot} (h : s.lot k = some l) :
    takeLotClose (slotScope k) tag s =
      if l.closing then s.reply .lotClose (slotScope k) tag .refused []
      else (s.setLot k (some { l with closing := true })).reply .lotClose (slotScope k) tag .ok [] := by
  simp only [takeLotClose, slotOf_slotScope, h]

/-- Settles O42: LOT_OPEN by its first failing check, LOT_CLOSE by the slot's lot. -/
theorem lotCommands : Obligations.LotCommands := by
  unfold Obligations.LotCommands
  refine ⟨fun k tag id s hr hn hl hid => ?_, fun k tag id s hr => ?_, fun k tag s hr => ?_⟩
  · have hfree : s.lotSlot id = none := lotSlot_none_iff.mpr fun j ⟨l, hj, e⟩ => hid j l hj e
    have hc : lotOpenCheck s k id = .ok := by rw [lotOpenCheck_id hn hl, hfree]; rfl
    rw [exec_lotOpen k tag id hr, takeLotOpen_opened hc, Lot.opened]
  · rw [exec_lotOpen k tag id hr]
    refine ⟨fun h => ?_, fun hn hl => ?_, fun j l hn hl hj hid => ?_⟩
    · rw [takeLotOpen_refused (lotOpenCheck_busy h) (by decide)]
    · rw [takeLotOpen_refused (lotOpenCheck_notReady hn hl) (by decide)]
    · have hc : lotOpenCheck s k id = .duplicate := by
        rw [lotOpenCheck_id hn hl, if_pos (lotSlot_isSome ⟨l, hj, hid⟩)]
      rw [takeLotOpen_refused hc (by decide)]
  · rw [exec_lotClose k tag hr]
    refine ⟨fun hn => ?_, fun l hl hc => ?_, fun l hl hc => ?_⟩
    · rw [takeLotClose_none hn]
    · rw [takeLotClose_some hl, if_pos hc]
    · rw [takeLotClose_some hl, if_neg (Bool.eq_false_iff.mp hc)]

end Sys2Proof.Machine
end

section
/-! PROOFS. A ratio in per mille, its bound and its four decimal digits (R165, R166), and O44. -/

namespace Sys2Proof.Machine

theorem perMille_zero (part : Nat) : perMille part 0 = 0 := rfl

theorem perMille_of_ne_zero {whole : Nat} (part : Nat) (h : whole ≠ 0) : perMille part whole = 1000 * part / whole :=
  if_neg (by simpa using h)

/-- A part is at most 1000 per mille of its whole. -/
theorem perMille_le {part whole : Nat} (h : part ≤ whole) : perMille part whole ≤ 1000 := by
  rcases Nat.eq_zero_or_pos whole with rfl | hpos
  · exact Nat.zero_le _
  · rw [perMille_of_ne_zero part hpos.ne']
    exact Nat.div_le_of_le_mul (by rw [Nat.mul_comm whole]; exact Nat.mul_le_mul_left 1000 h)

theorem Lot.yield_le (l : Lot) : l.yield ≤ 1000 := perMille_le (Nat.le_add_right _ _)

/-- Up to 1000 the packed digits are the four decimal digits, thousands first (R165). -/
theorem packedDigits_spells {y : Nat} (h : y ≤ 1000) :
    ∃ a b c d, a ≤ 1 ∧ b ≤ 9 ∧ c ≤ 9 ∧ d ≤ 9 ∧ y = 1000 * a + 100 * b + 10 * c + d ∧
      packedDigits y = 4096 * a + 256 * b + 16 * c + d := by
  refine ⟨y / 1000, y / 100 % 10, y / 10 % 10, y % 10, ?_⟩
  rw [packedDigits]
  omega

/-- Settles O44: both yields are `perMille`, of the final counts and of the rolling window. -/
theorem yieldFigures : Obligations.YieldFigures := by
  unfold Obligations.YieldFigures
  refine ⟨fun l => ⟨fun h0 => ?_, fun hne => ?_, l.yield_le, packedDigits_spells l.yield_le⟩,
    fun l => ⟨fun h0 => ?_, fun hne => ?_⟩⟩
  · rw [Lot.yield, h0, perMille_zero]
  · exact perMille_of_ne_zero _ hne
  · rw [Lot.rollingYield, h0, perMille_zero]
  · exact perMille_of_ne_zero _ hne

end Sys2Proof.Machine
end

section
/-! PROOFS. STATUS: the words it reports and the clearing after them (R173), and O11. -/

namespace Sys2Proof.Machine

variable {s : State}

/-- STATUS's first data word: the flags, the bitmap, the monitor's state, and nothing above (R18). -/
theorem status_word0 (c : Notices) (loud : Bool) :
    let w : Word := put c.flags.toNat 0 8 ||| put c.bitmap.toNat 8 8 ||| flag loud 16
    w.extractLsb' 0 8 = c.flags ∧ w.extractLsb' 8 8 = c.bitmap ∧ w.getLsbD 16 = loud ∧ w.extractLsb' 17 15 = 0#15 := by
  refine ⟨?_, ?_, by simp, ?_⟩
  all_goals simp [flag, extract_or, extract_put, extract_put_apart]

/-- The flags named are the low byte of the operand; the bitmap goes with LOW_YIELD, bit 4 (R173). -/
theorem Notices.clear_low (c : Notices) (w : Word) : c.clear (w.extractLsb' 0 8) = { c with
    flags := c.flags &&& ~~~ w.extractLsb' 0 8
    bitmap := if w.getLsbD 4 && c.flags.getLsbD 4 then 0#8 else c.bitmap } := by
  have hbit : (w.extractLsb' 0 8).getLsbD 4 = w.getLsbD 4 := by
    rw [BitVec.getLsbD_extractLsb']
    rfl
  simp only [Notices.clear, Flag.index, hbit]

theorem exec_status (tag : BitVec 8) (w : Word) (hr : s.ReplyRoom) :
    exec (.status 15#4 tag w) s = .next (takeStatus 15#4 tag w s) :=
  exec_taken rfl hr rfl rfl rfl

/-- Settles O11: the reply holds the values before the clearing, and the clearing is that of NTC and of LNK. -/
theorem statusReadsThenClears : Obligations.StatusReadsThenClears := by
  intro tag w s hr
  refine ⟨_, _, _, status_word0 s.ntc s.amb.loud, ⟨halves_hi s.lnk.linkErr s.lnk.overrun, halves_lo _ _⟩,
    ⟨halves_hi s.lnk.slip s.lnk.traceLost, halves_lo _ _⟩, ?_⟩
  rw [exec_status tag w hr, takeStatus]
  simp only [Notices.clear_low]
  rfl

end Sys2Proof.Machine
end

section
/-! PROOFS. The rising of a flag by its class, and the expiry of the notice period (R170, R171), and O53. -/

namespace Sys2Proof.Machine

variable {s : State} {f : Flag}

/-! ### The two classes of flags (R170) -/

theorem Flag.urgent_eq_true (h : f = .linkFault ∨ f = .headLoss ∨ f = .labelFault ∨ f = .retestEvict) : f.urgent = true := by
  rcases h with rfl | rfl | rfl | rfl <;> rfl

theorem Flag.urgent_eq_false (h : f = .slip ∨ f = .ambient ∨ f = .lowYield ∨ f = .traceLost) : f.urgent = false := by
  rcases h with rfl | rfl | rfl | rfl <;> rfl

/-! ### NTC's action at a rising (R171) -/

theorem notifyRising_urgent (h : f.urgent = true) :
    s.notifyRising f = (s.modNtc fun c => { c with nonUrgent := false }).askNotice := by
  rw [State.notifyRising, if_pos h]

theorem notifyRising_stopped (h : f.urgent = false) (ht : s.ntc.timer = none) :
    s.notifyRising f = (s.modNtc fun c => { c with timer := some 0 }).askNotice := by
  rw [State.notifyRising, if_neg (Bool.eq_false_iff.mp h), ht]

theorem notifyRising_running (h : f.urgent = false) (ht : s.ntc.timer ≠ none) :
    s.notifyRising f = s.modNtc fun c => { c with nonUrgent := true } := by
  obtain ⟨e, he⟩ := Option.ne_none_iff_exists'.mp ht
  rw [State.notifyRising, if_neg (Bool.eq_false_iff.mp h), he]

/-- The flag's bit set, before NTC acts on the rising (R170). -/
def State.raised (s : State) (f : Flag) : State := s.modNtc fun c => { c with flags := c.flags ||| f.mask }

/-- A rising sets the bit; NTC acts on it where the flag is enabled (R170, R171). -/
theorem setFlag_of_clear (h : s.ntc.flags.getLsbD f.index = false) :
    s.setFlag f = if s.ntc.enables.getLsbD f.index then (s.raised f).notifyRising f else s.raised f := by
  rw [State.setFlag, if_neg (Bool.eq_false_iff.mp h)]
  rfl

/-! ### The period timer (R171) -/

theorem periodExpiry_running (ht : s.ntc.timer ≠ none) : s.periodExpiry =
    if s.ntc.nonUrgent then (s.modNtc fun c => { c with nonUrgent := false, timer := some 0 }).askNotice
    else s.modNtc fun c => { c with timer := none } := by
  obtain ⟨e, he⟩ := Option.ne_none_iff_exists'.mp ht
  rw [State.periodExpiry, he]

theorem exec_noticePeriodExpiry (s : State) : exec .noticePeriodExpiry s = .next s.periodExpiry := rfl

/-- Settles O53: a flag that stands, one that is off, and an enabled one by its class and the timer; then the expiry by what is
pending. -/
theorem flagsAndPeriod : Obligations.FlagsAndPeriod := by
  refine ⟨fun s f => ⟨setFlag_of_set, fun h => ⟨fun hoff => ?_,
      fun hon => ⟨fun hu => ?_, fun hn => ⟨fun ht => ?_, fun ht => ?_⟩⟩⟩⟩,
    fun s ht => ⟨fun hp => ?_, fun hp => ?_⟩⟩
  · rw [setFlag_of_clear h, if_neg (Bool.eq_false_iff.mp hoff)]
    rfl
  · rw [setFlag_of_clear h, if_pos hon, notifyRising_urgent (Flag.urgent_eq_true hu)]
    rfl
  · rw [setFlag_of_clear h, if_pos hon, notifyRising_stopped (s := s.raised f) (Flag.urgent_eq_false hn) ht]
    rfl
  · rw [setFlag_of_clear h, if_pos hon, notifyRising_running (s := s.raised f) (Flag.urgent_eq_false hn) ht]
    rfl
  · rw [exec_noticePeriodExpiry, periodExpiry_running ht, if_pos hp]
    rfl
  · rw [exec_noticePeriodExpiry, periodExpiry_running ht, if_neg (Bool.eq_false_iff.mp hp)]
    rfl

end Sys2Proof.Machine
end

section
/-! PROOFS. Every row answers next and leaves the queue of commands as it finds it; and O2. -/

namespace Sys2Proof.Machine

/-- A row answers next, and the state it leaves has s's queue of commands. -/
def CompletesFrom (s : State) (r : Host.Outcome State Fault Refusal) : Prop := ∃ t, r = .next t ∧ t.pending = s.pending

variable {s t u : State}

theorem completesFrom_next (h : t.pending = s.pending) : CompletesFrom s (.next t) := ⟨t, rfl, h⟩

/-- A row whose state may not have its event: it answers next either way (log 3). -/
theorem completesFrom_ite {c : Prop} [Decidable c] {p q : Host.Outcome State Fault Refusal} (hp : CompletesFrom s p)
    (hq : CompletesFrom s q) : CompletesFrom s (if c then p else q) := by
  split
  · exact hp
  · exact hq

theorem ite_pending {c : Prop} [Decidable c] (ht : t.pending = s.pending) (hu : u.pending = s.pending) :
    (if c then t else u).pending = s.pending := by
  split
  · exact ht
  · exact hu

theorem endEvent_pending (s : State) : s.endEvent.pending = s.pending := (endEvent_reports (.refl s)).pending

/-- The close of an event keeps the queue that the event has kept. -/
theorem completesFrom_close (h : t.pending = s.pending) : CompletesFrom s (.next t.endEvent) :=
  completesFrom_next ((endEvent_pending t).trans h)

/-! ### The parts of the rows that are no command -/

/-- Power-on takes the queue over (log 2), and its NOTICE is no command. -/
theorem powerOn_pending (strap : Bool) (s : State) : ((State.blank strap).keepInputs s).askNotice.pending = s.pending := by
  obtain ⟨-, -, -, -, -, -, -, -, -, hq⟩ := askNotice_frame ((State.blank strap).keepInputs s)
  exact hq

theorem receiveLine_pending (s : State) (word0 control aux : Word) :
    (s.receiveLine word0 control aux).pending = s.pending := by
  have hs : (s.modLnk fun l => { l with store := some ⟨control, aux⟩ }).pending = s.pending := rfl
  unfold State.receiveLine
  exact ite_pending rfl (ite_pending (linkError_acts (o := true) s).pending
    (ite_pending ((linkError_acts (o := true) _).pending.trans hs) hs))

theorem headFrame_pending (s : State) (f : HeadFrame) : (s.headFrame f).pending = s.pending := by
  obtain ⟨-, -, -, -, -, -, -, -, -, -, -, -, hq⟩ := headFrame_lnk s f
  exact hq

theorem loseHead_pending (s : State) : s.loseHead.pending = s.pending := (loseHead_reports s).pending

/-! ### The rows -/

/-- The rows that are no command, each by what its block's action can do. -/
theorem event_completes (s : State) (i : Instr) (hi : i.message = none) : CompletesFrom s (exec i s) := by
  cases i with
  | hello | status | noticeSet | softReset | tapSelect | stageOpen | stageRows | stageCommit | stageDiscard | readRows
  | protectRange | protectAll | freeze | protectQuery | nestConfig | start | abort | nestQuery | ambientConfig | refBegin
  | refCancel | lotOpen | lotClose | lotQuery | retestQuery | markConfig => simp [Instr.message] at hi
  | powerOn strap => exact completesFrom_next (powerOn_pending strap s)
  | headFrame f => exact completesFrom_next (headFrame_pending s f)
  | lineFrame word0 control aux => exact completesFrom_next (receiveLine_pending s word0 control aux)
  | waitLineAdmit => exact completesFrom_next (admitHead_reports (.refl s)).pending
  | headLoss => exact completesFrom_ite (completesFrom_close (loseHead_pending s)) (completesFrom_next rfl)
  | deferredSwap k =>
    exact completesFrom_ite (completesFrom_close (releaseSlot_reports (.refl s) k).pending) (completesFrom_next rfl)
  | promotion k => exact completesFrom_close (releaseSlot_reports (.refl s) k).pending
  | keyOn => exact completesFrom_next (ite_pending rfl rfl)
  | keyOff => exact completesFrom_next (ite_pending (keyTurnedOff_reports (.refl s)).pending rfl)
  | seatClosed n => exact completesFrom_next (ite_pending rfl (seatClosed_reports (.refl s) n).pending)
  | seatLoss n =>
    exact completesFrom_ite (completesFrom_close (seatOpened_reports (.refl s) n).pending) (completesFrom_next rfl)
  | seatTimeout n => exact completesFrom_close (seatTimedOut_reports (.refl s) n).pending
  | windowStart n => exact completesFrom_next (decideWindow_reports (.refl s) n).pending
  | windowEnd n =>
    exact completesFrom_ite (completesFrom_close (closeWindow_reports (.refl s) n).pending) (completesFrom_next rfl)
  | dwellEnd n => exact completesFrom_next (ite_pending (endDwell_reports (.refl s) n).pending rfl)
  | stepFadeEnd n => exact completesFrom_next (ite_pending (endStepFade_reports (.refl s) n).pending rfl)
  | fadeEnd n => exact completesFrom_close (fadeEnded_reports (.refl s) n).pending
  | ambientLoud => exact completesFrom_next (ite_pending (turnLoud_reports (.refl s)).pending rfl)
  | ambientQuiet => exact completesFrom_next (ite_pending (turnQuiet_reports (.refl s)).pending rfl)
  | lotComplete k =>
    exact completesFrom_ite (completesFrom_close (completeLot_reports (.refl s) k).pending) (completesFrom_next rfl)
  | reqRising n => exact completesFrom_close (requestRising_reports (modMrk_reports (.refl s) _) n).pending
  | reqFalling => exact completesFrom_next rfl
  | markedResult => exact completesFrom_close (markedRising_reports (modMrk_reports (.refl s) _)).pending
  | jamResult => exact completesFrom_close (jamRising_reports (modMrk_reports (.refl s) _)).pending
  | issueTimeout => exact completesFrom_close (resolveIssued_reports (.refl s) false).pending
  | queueExpiry index => exact completesFrom_close (expireLabel_reports (.refl s) _).pending
  | noticePeriodExpiry => exact completesFrom_next (periodExpiry_reports (.refl s)).pending

/-- The row of a command: whatever R10's tests and the owner come to, the message leaves the queue alone. -/
theorem command_completes (s : State) {i : Instr} {k : Kind} {scope : BitVec 4} {tag : BitVec 8} {body : List Word}
    (hi : i.message = some (k, scope, tag, body)) : CompletesFrom s (exec i s) := by
  have hc : (s.completes k scope tag body).pending = s.pending :=
    (completes_acts (o := false) scope tag body k fun _ => rfl).pending
  rw [exec_of_message s hi]
  exact completesFrom_next (ite_pending ((endEvent_pending _).trans hc) hc)

/-- Settles O2: the rows that are no command by their blocks' actions, the commands by what R10 makes of their message. -/
theorem everyCommandCompletes : Obligations.EveryCommandCompletes := by
  intro c s
  cases hc : c.message with
  | none => exact event_completes s c hc
  | some m => exact command_completes s hc

end Sys2Proof.Machine
end
